-- ==== Sys2Proof/Word.lean ====
section
/-! DEFINITION. The bit-vector words of the FD448's frames (spec 10_frame_and_record_layouts.md, R180). -/

namespace Sys2Proof

/-- One byte of a ring or valve bus frame. -/
abbrev Byte := BitVec 8

/-- A two-byte field of a frame. -/
abbrev Half := BitVec 16

/-- A four-byte field of a frame: a CRC, or the value of WRITE_CONFIG. -/
abbrev Word := BitVec 32

/-- A frame as the bytes on the wire, first byte first. -/
abbrev Frame := List Byte

end Sys2Proof
end

