-- ==== Sys2Proof/Config.lean ====
section
/-! DEFINITION. What an implementation of the FD448 fixes, and the fixed sizes of its tables. -/

namespace Sys2Proof

/-- The silicon revision, "a number 0–255 fixed in each part when it is made" (R172): no proof can see it. -/
opaque Config.siliconRevision : Byte

/-- The part code, "the fixed value 448" (R172). -/
def Config.partCode : Nat := 448

/-- A part has 48 head contexts (R44). -/
abbrev HeadId := Fin 48

/-- The profile store has eight slots (R23). -/
abbrev SlotId := Fin 8

/-- The Report Queue holds at most 32 reports (R162). -/
def Config.queueSize : Nat := 32

/-- The reject schedule holds at most 64 entries (R116). -/
def Config.scheduleSize : Nat := 64

/-- The snapshot stack holds at most 16 entries (R149). -/
def Config.snapshotSize : Nat := 16

end Sys2Proof
end

