-- ==== Sys2Proof/Syntax.lean ====
section
/-! DEFINITION. The commands of the FD448: one constructor of `Instr` for each row of spec/opcode_table.json.

Operands are the fields of the frame that brings the command, in their wire widths (R180 to R183).
A command that comes in a ring frame also carries the bytes of that frame which the part ignores, so that a frame
that is sent on unchanged is sent on byte for byte (R152). -/

namespace Sys2Proof

/-- What every REQUEST frame carries beside the fields of its kind (R181): the ring address, the tag, the status
byte (ignored in a REQUEST) and the body bytes after the fields of its kind (ignored). -/
structure Envelope where
  address : Byte
  tag     : Half
  status  : Byte
  tail    : List Byte
  deriving DecidableEq, Repr

/-- A REQUEST frame whose kind is not looked into further: its fields at the offsets of R181. -/
structure RawRequest where
  address : Byte
  kind    : Byte
  tag     : Half
  status  : Byte
  body    : List Byte
  deriving DecidableEq, Repr

/-- A frame received on the valve bus: its bytes, and whether it was received before the COMMAND of the exchange now in
flight was sent, and so with no exchange in flight (R102; notes/assumptions/35.md). -/
structure BusFrame where
  bytes : Frame
  early : Bool
  deriving DecidableEq, Repr

/-- The 12 header bytes of a BEGIN body, after the slot (R180, R181). -/
structure HeaderFields where
  profileId : Half
  segCount  : Byte
  target    : Half
  underTol  : Half
  overTol   : Half
  ratio     : Half
  ratioTol  : Byte
  deriving DecidableEq, Repr

/-- The 11 record bytes of a SEGMENT body, after the slot and the index (R180, R181). -/
structure SegmentFields where
  kind     : Byte
  aperture : Byte
  step     : Byte
  interval : Byte
  ending   : Byte
  param    : Half
  dwell    : Half
  deadline : Half
  deriving DecidableEq, Repr

/-- The five calibration fields of an ENROLL or CALIBRATE body (R43, R181); trims are two's complement. -/
structure CalibFields where
  liquidK    : Half
  liquidTrim : Half
  syrupK     : Half
  syrupTrim  : Half
  overrun    : Half
  deriving DecidableEq, Repr

/-- The six fields of a WRITE_ZONE body, after the row (R18, R181). -/
structure ZoneFields where
  valid     : Byte
  start     : Half
  stop      : Half
  permitted : Byte
  guard     : Half
  gap       : Byte
  deriving DecidableEq, Repr

/-- The commands of the FD448, one for each row of spec/opcode_table.json, in the table's order. -/
inductive Instr where
  -- frames that arrive on ring-in (chapter 8)
  | angleFrame (rev count pressure temp : Half) (mark : Byte)
  | carrierFrame (content : List Byte)
  | reportFrame (source kind : Byte) (transmit : Half) (dropped : Byte) (payload : List Byte)
  | replyFrame (bytes : Frame)
  | unknownKindFrame (bytes : Frame)
  | badFrame (bytes : Frame)
  | ringBypass (bytes : Frame)
  | requestNotAddressed (q : RawRequest)
  | broadcast (q : RawRequest)
  | unknown (q : RawRequest)
  -- requests (chapter 9); `elapsed` is the time in µs since the watchdog's timer was last started
  | heartbeat (e : Envelope) (elapsed : Nat)
  | setMode (e : Envelope) (mode : Byte)
  | read (e : Envelope) (table row : Byte)
  | readPart (e : Envelope) (row : Byte)
  | readTracker (e : Envelope) (row : Byte)
  | readZone (e : Envelope) (row : Byte)
  | readSlot (e : Envelope) (row : Byte)
  | readSegment (e : Envelope) (slot index : Byte)
  | readHead (e : Envelope) (row : Byte)
  | readCalib (e : Envelope) (row : Byte)
  | readFault (e : Envelope) (row : Byte)
  | readSupply (e : Envelope) (row : Byte)
  | readQueues (e : Envelope) (row : Byte)
  | readReject (e : Envelope) (row : Byte)
  | writeConfig (e : Envelope) (item selector : Byte) (value : Word)
  | writeConfigCpr (e : Envelope) (selector : Byte) (value : Word)
  | writeConfigMaximumStep (e : Envelope) (selector : Byte) (value : Word)
  | writeConfigAcquireCount (e : Envelope) (selector : Byte) (value : Word)
  | writeConfigGapLimit (e : Envelope) (selector : Byte) (value : Word)
  | writeConfigHoldoverLimit (e : Envelope) (selector : Byte) (value : Word)
  | writeConfigTrackReportEdge (e : Envelope) (selector : Byte) (value : Word)
  | writeConfigBaseGap (e : Envelope) (selector : Byte) (value : Word)
  | writeConfigSeatWindowEnd (e : Envelope) (selector : Byte) (value : Word)
  | writeConfigDischargeAngle (e : Envelope) (selector : Byte) (value : Word)
  | writeConfigHeadCount (e : Envelope) (selector : Byte) (value : Word)
  | writeConfigStationBase (e : Envelope) (selector : Byte) (value : Word)
  | writeConfigVentLimit (e : Envelope) (selector : Byte) (value : Word)
  | writeConfigReleasePressure (e : Envelope) (selector : Byte) (value : Word)
  | writeConfigStepLimit (e : Envelope) (selector : Byte) (value : Word)
  | writeConfigLeakLimit (e : Envelope) (selector : Byte) (value : Word)
  | writeConfigLearningWeight (e : Envelope) (selector : Byte) (value : Word)
  | writeConfigReplyTimeout (e : Envelope) (selector : Byte) (value : Word)
  | writeConfigMissLimit (e : Envelope) (selector : Byte) (value : Word)
  | writeConfigConfirmWindow (e : Envelope) (selector : Byte) (value : Word)
  | writeConfigMasterEnable (e : Envelope) (selector : Byte) (value : Word)
  | writeConfigGateDistance (e : Envelope) (selector : Byte) (value : Word)
  | writeConfigRejectPulseWidth (e : Envelope) (selector : Byte) (value : Word)
  | writeConfigAction (e : Envelope) (selector : Byte) (value : Word)
  | writeConfigLockoutLimit (e : Envelope) (selector : Byte) (value : Word)
  | writeConfigLowLimit (e : Envelope) (selector : Byte) (value : Word)
  | writeConfigHighLimit (e : Envelope) (selector : Byte) (value : Word)
  | writeConfigHysteresis (e : Envelope) (selector : Byte) (value : Word)
  | writeConfigSuccessiveCount (e : Envelope) (selector : Byte) (value : Word)
  | writeConfigHeartbeatEnable (e : Envelope) (selector : Byte) (value : Word)
  | writeConfigHeartbeatUpperLimit (e : Envelope) (selector : Byte) (value : Word)
  | writeConfigHeartbeatLowerLimit (e : Envelope) (selector : Byte) (value : Word)
  | writeConfigRingLimit (e : Envelope) (selector : Byte) (value : Word)
  | writeConfigBacklogThreshold (e : Envelope) (selector : Byte) (value : Word)
  | writeConfigPriority (e : Envelope) (selector : Byte) (value : Word)
  | writeZone (e : Envelope) (row : Byte) (z : ZoneFields)
  | beginSlot (e : Envelope) (slot : Byte) (h : HeaderFields)
  | segment (e : Envelope) (slot index : Byte) (f : SegmentFields)
  | commit (e : Envelope) (slot : Byte) (crc : Word)
  | select (e : Envelope) (slot : Byte)
  | drop (e : Envelope) (slot : Byte)
  | enroll (e : Envelope) (head : Byte) (offset : Half) (f : CalibFields)
  | calibrate (e : Envelope) (head : Byte) (f : CalibFields)
  | withdraw (e : Envelope) (head : Byte)
  | release (e : Envelope) (head : Byte)
  | clearFault (e : Envelope) (cls : Byte)
  | popSnapshot (e : Envelope)
  | resetPart (e : Envelope)
  -- resets (R161, R177, R178): `straps` are the address straps read at the end of a reset (R179);
  -- `cut` is how many bytes of the frame being sent on from ring-out had left it, where a frame is cut short (R161)
  | resetPartResetBegin
  | resetPartResetEnd (straps : BitVec 4)
  | supplyLeavesRange (cut : Option Nat)
  | supplyReentersRange
  | powerOnResetEnd (straps : BitVec 4)
  | resetPinAssert (cut : Option Nat)
  | resetPinRelease (straps : BitVec 4)
  -- the stop line (R141)
  | stopLineFall
  | stopLineRise
  -- timers, the valve bus and the verifier
  | gapTimerExpiry
  | holdoverTimerExpiry
  | ventTimerExpiry (head : HeadId)
  | status (frame : BusFrame)
  | replyTimerExpiry
  | pulseTimerExpiry
  | heartbeatTimerExpiry
  | verificationComplete
  deriving DecidableEq, Repr

end Sys2Proof
end

