-- ==== Sys2Proof/Machine/Layout.lean ====
section
/-! DEFINITION. Byte layouts of ring and valve bus frames and their CRCs (10_frame_and_record_layouts.md, R180 to
R183): multi-byte numbers are most significant byte first. -/

namespace Sys2Proof.Machine

/-- The byte at an offset of a frame; 0 past its end. -/
def byteAt (f : Frame) (i : Nat) : Byte := f.getD i 0

/-- The two-byte number at an offset, most significant byte first (R180). -/
def halfAt (f : Frame) (i : Nat) : Half := byteAt f i ++ byteAt f (i + 1)

/-- The four-byte number at an offset, most significant byte first (R180). -/
def wordAt (f : Frame) (i : Nat) : Word := halfAt f i ++ halfAt f (i + 2)

/-- A two-byte number as sent (R180). -/
def halfBytes (h : Half) : List Byte := [h.extractLsb' 8 8, h.extractLsb' 0 8]

/-- A four-byte number as sent (R180). -/
def wordBytes (w : Word) : List Byte := halfBytes (w.extractLsb' 16 16) ++ halfBytes (w.extractLsb' 0 16)

/-- A whole number in one, two, three or four bytes (R180). -/
def nat8 (n : Nat) : List Byte := [BitVec.ofNat 8 n]
def nat16 (n : Nat) : List Byte := halfBytes (BitVec.ofNat 16 n)
def nat24 (n : Nat) : List Byte := BitVec.ofNat 8 (n / 65536) :: nat16 n
def nat32 (n : Nat) : List Byte := wordBytes (BitVec.ofNat 32 n)

/-- A signed number in two bytes, two's complement (R180). -/
def int16 (i : Int) : List Byte := halfBytes (BitVec.ofInt 16 i)

/-- A flag in one byte: 0 or 1. -/
def flag8 (b : Bool) : List Byte := [if b then 1 else 0]

/-- Up to eight presence bits in one byte (R180), the first in bit 0 (notes/assumptions/14.md). -/
def presenceByte (bits : List Bool) : Byte :=
  (bits.take 8).foldr (fun b acc => acc.shiftLeft 1 ||| (if b then 1 else 0)) 0

/-- "one presence byte for every eight optional fields" (R181). -/
def presence (bits : List Bool) : List Byte :=
  (List.range ((bits.length + 7) / 8)).map fun k => presenceByte (bits.drop (8 * k))

/-- An optional field of `n` bytes: absent, its bytes are written 0 (R180). -/
def optional {α : Type} (n : Nat) (enc : α → List Byte) : Option α → List Byte
  | some a => enc a
  | none => List.replicate n 0

/-- A list of bytes brought to a fixed length: cut, or filled with 0. -/
def pad (n : Nat) (l : List Byte) : List Byte := l.take n ++ List.replicate (n - l.length) 0

/-! ### The CRCs -/

/-- One bit of the 32-bit CRC, polynomial 04C11DB7 (R180). -/
def crc32Bit (c : Word) : Word := if c.msb then (c <<< 1) ^^^ 0x04C11DB7#32 else c <<< 1

/-- One byte, most significant bit first (R180). -/
def crc32Byte (c : Word) (b : Byte) : Word :=
  Nat.repeat crc32Bit 8 (c ^^^ (b.setWidth 32 <<< 24))

/-- The ring CRC and the profile CRC: initial value all ones, remainder complemented (R180). -/
def ringCrc (bs : List Byte) : Word := ~~~ (bs.foldl crc32Byte (BitVec.allOnes 32))

/-- One bit of the 16-bit CRC, polynomial 1021 (R183). -/
def crc16Bit (c : Half) : Half := if c.msb then (c <<< 1) ^^^ 0x1021#16 else c <<< 1

def crc16Byte (c : Half) (b : Byte) : Half :=
  Nat.repeat crc16Bit 8 (c ^^^ (b.setWidth 16 <<< 8))

/-- The valve bus CRC: initial value all ones, no final complement (R183). -/
def busCrc (bs : List Byte) : Half := bs.foldl crc16Byte (BitVec.allOnes 16)

/-! ### Ring frames (R181) -/

/-- A ring frame: its bytes followed by the CRC computed over them (R180). -/
def sealRing (bs : List Byte) : Frame := bs ++ wordBytes (ringCrc bs)

/-- Frame kind codes (R180). -/
def angleKind : Byte := 1
def carrierKind : Byte := 2
def reportKind : Byte := 3
def requestKind : Byte := 4
def replyKind : Byte := 5

/-- The fixed length of each of the five kinds (R181). -/
def ringLength (kind : Byte) : Option Nat :=
  match kind.toNat with
  | 1 => some 15
  | 2 => some 38
  | 3 => some 38
  | 4 => some 107
  | 5 => some 107
  | _ => none

/-- The check of R153: the CRC matches, and a frame of the five kinds has its kind's length.
A frame of another kind ends where its length byte says, its last four bytes the CRC (R181); with a length byte below 6
those would overlap the kind and length bytes, and it fails (notes/assumptions/33.md). -/
def ringOk (f : Frame) : Bool :=
  let n := (byteAt f 1).toNat
  f.length == n &&
  (match ringLength (byteAt f 0) with | some m => n == m | none => 6 ≤ n) &&
  f == sealRing (f.take (n - 4))

/-- The ANGLE frame (R181). -/
def angleBytes (rev count pressure temp : Half) (mark : Byte) : Frame :=
  sealRing ([angleKind, 15] ++ halfBytes rev ++ halfBytes count ++ halfBytes pressure ++ halfBytes temp ++ [mark])

/-- A CARRIER frame with the bytes at its offsets 2 to 33 (R181). -/
def carrierBytes (content : List Byte) : Frame := sealRing ([carrierKind, 38] ++ content)

/-- The REPORT frame (R181). -/
def reportBytes (source kind : Byte) (transmit : Half) (dropped : Byte) (payload : List Byte) : Frame :=
  sealRing ([reportKind, 38, source, kind] ++ halfBytes transmit ++ [dropped] ++ payload)

/-- The REQUEST frame (R181). -/
def requestBytes (q : RawRequest) : Frame :=
  sealRing ([requestKind, 107, q.address, q.kind] ++ halfBytes q.tag ++ [q.status] ++ q.body)

/-- The REPLY frame: the contents fill the body from its first byte, the rest is 0 (R181). -/
def replyBytes (address kind : Byte) (tag : Half) (status : Byte) (contents : List Byte) : Frame :=
  sealRing ([replyKind, 107, address, kind] ++ halfBytes tag ++ [status] ++ pad 96 contents)

/-! ### Request bodies (R181) -/

def headerBytes (h : HeaderFields) : List Byte :=
  halfBytes h.profileId ++ [h.segCount] ++ halfBytes h.target ++ halfBytes h.underTol ++ halfBytes h.overTol ++
    halfBytes h.ratio ++ [h.ratioTol]

def segmentBytes (f : SegmentFields) : List Byte :=
  [f.kind, f.aperture, f.step, f.interval, f.ending] ++ halfBytes f.param ++ halfBytes f.dwell ++
    halfBytes f.deadline

def calibBytes (f : CalibFields) : List Byte :=
  halfBytes f.liquidK ++ halfBytes f.liquidTrim ++ halfBytes f.syrupK ++ halfBytes f.syrupTrim ++
    halfBytes f.overrun

def zoneBytes (z : ZoneFields) : List Byte :=
  [z.valid] ++ halfBytes z.start ++ halfBytes z.stop ++ [z.permitted] ++ halfBytes z.guard ++ [z.gap]

/-- The header fields found at an offset of a body. -/
def headerAt (b : List Byte) (i : Nat) : HeaderFields :=
  ⟨halfAt b i, byteAt b (i + 2), halfAt b (i + 3), halfAt b (i + 5), halfAt b (i + 7), halfAt b (i + 9),
    byteAt b (i + 11)⟩

def segmentAt (b : List Byte) (i : Nat) : SegmentFields :=
  ⟨byteAt b i, byteAt b (i + 1), byteAt b (i + 2), byteAt b (i + 3), byteAt b (i + 4), halfAt b (i + 5),
    halfAt b (i + 7), halfAt b (i + 9)⟩

def calibAt (b : List Byte) (i : Nat) : CalibFields :=
  ⟨halfAt b i, halfAt b (i + 2), halfAt b (i + 4), halfAt b (i + 6), halfAt b (i + 8)⟩

def zoneAt (b : List Byte) (i : Nat) : ZoneFields :=
  ⟨byteAt b i, halfAt b (i + 1), halfAt b (i + 3), byteAt b (i + 5), halfAt b (i + 6), byteAt b (i + 8)⟩

/-- The fields of a REQUEST frame at their offsets (R181). -/
def rawRequestOf (f : Frame) : RawRequest :=
  ⟨byteAt f 2, byteAt f 3, halfAt f 4, byteAt f 6, (f.drop 7).take 96⟩

/-- The REQUEST frame of a command: its envelope, its kind and the body bytes its kind uses, in front of the body
bytes it ignores (R181). -/
def rawOf (e : Envelope) (kind : Byte) (used : List Byte) : RawRequest :=
  ⟨e.address, kind, e.tag, e.status, used ++ e.tail⟩

/-- A WRITE_CONFIG body: item, selector and value (R181). -/
def configBody (item selector : Byte) (value : Word) : List Byte := [item, selector] ++ wordBytes value

/-- The REQUEST frame that brings a request command, with the kind codes, item codes and READ table codes of R180;
none for a command that no REQUEST brings. -/
def requestOf : Instr → Option RawRequest
  | .requestNotAddressed q => some q
  | .broadcast q => some q
  | .unknown q => some q
  | .heartbeat e _ => some (rawOf e 1 [])
  | .setMode e m => some (rawOf e 2 [m])
  | .read e t r => some (rawOf e 3 [t, r])
  | .readPart e r => some (rawOf e 3 [1, r])
  | .readTracker e r => some (rawOf e 3 [2, r])
  | .readZone e r => some (rawOf e 3 [3, r])
  | .readSlot e r => some (rawOf e 3 [4, r])
  | .readSegment e j k => some (rawOf e 3 [5, j, k])
  | .readHead e r => some (rawOf e 3 [6, r])
  | .readCalib e r => some (rawOf e 3 [7, r])
  | .readFault e r => some (rawOf e 3 [8, r])
  | .readSupply e r => some (rawOf e 3 [9, r])
  | .readQueues e r => some (rawOf e 3 [10, r])
  | .readReject e r => some (rawOf e 3 [11, r])
  | .writeConfig e i x v => some (rawOf e 4 (configBody i x v))
  | .writeConfigCpr e x v => some (rawOf e 4 (configBody 1 x v))
  | .writeConfigMaximumStep e x v => some (rawOf e 4 (configBody 2 x v))
  | .writeConfigAcquireCount e x v => some (rawOf e 4 (configBody 3 x v))
  | .writeConfigGapLimit e x v => some (rawOf e 4 (configBody 4 x v))
  | .writeConfigHoldoverLimit e x v => some (rawOf e 4 (configBody 5 x v))
  | .writeConfigTrackReportEdge e x v => some (rawOf e 4 (configBody 6 x v))
  | .writeConfigBaseGap e x v => some (rawOf e 4 (configBody 7 x v))
  | .writeConfigSeatWindowEnd e x v => some (rawOf e 4 (configBody 8 x v))
  | .writeConfigDischargeAngle e x v => some (rawOf e 4 (configBody 9 x v))
  | .writeConfigHeadCount e x v => some (rawOf e 4 (configBody 10 x v))
  | .writeConfigStationBase e x v => some (rawOf e 4 (configBody 11 x v))
  | .writeConfigVentLimit e x v => some (rawOf e 4 (configBody 12 x v))
  | .writeConfigReleasePressure e x v => some (rawOf e 4 (configBody 13 x v))
  | .writeConfigStepLimit e x v => some (rawOf e 4 (configBody 14 x v))
  | .writeConfigLeakLimit e x v => some (rawOf e 4 (configBody 15 x v))
  | .writeConfigLearningWeight e x v => some (rawOf e 4 (configBody 16 x v))
  | .writeConfigReplyTimeout e x v => some (rawOf e 4 (configBody 17 x v))
  | .writeConfigMissLimit e x v => some (rawOf e 4 (configBody 18 x v))
  | .writeConfigConfirmWindow e x v => some (rawOf e 4 (configBody 19 x v))
  | .writeConfigMasterEnable e x v => some (rawOf e 4 (configBody 20 x v))
  | .writeConfigGateDistance e x v => some (rawOf e 4 (configBody 21 x v))
  | .writeConfigRejectPulseWidth e x v => some (rawOf e 4 (configBody 22 x v))
  | .writeConfigAction e x v => some (rawOf e 4 (configBody 23 x v))
  | .writeConfigLockoutLimit e x v => some (rawOf e 4 (configBody 24 x v))
  | .writeConfigLowLimit e x v => some (rawOf e 4 (configBody 25 x v))
  | .writeConfigHighLimit e x v => some (rawOf e 4 (configBody 26 x v))
  | .writeConfigHysteresis e x v => some (rawOf e 4 (configBody 27 x v))
  | .writeConfigSuccessiveCount e x v => some (rawOf e 4 (configBody 28 x v))
  | .writeConfigHeartbeatEnable e x v => some (rawOf e 4 (configBody 29 x v))
  | .writeConfigHeartbeatUpperLimit e x v => some (rawOf e 4 (configBody 30 x v))
  | .writeConfigHeartbeatLowerLimit e x v => some (rawOf e 4 (configBody 31 x v))
  | .writeConfigRingLimit e x v => some (rawOf e 4 (configBody 32 x v))
  | .writeConfigBacklogThreshold e x v => some (rawOf e 4 (configBody 33 x v))
  | .writeConfigPriority e x v => some (rawOf e 4 (configBody 34 x v))
  | .writeZone e r z => some (rawOf e 5 (r :: zoneBytes z))
  | .beginSlot e j h => some (rawOf e 6 (j :: headerBytes h))
  | .segment e j k f => some (rawOf e 7 (j :: k :: segmentBytes f))
  | .commit e j c => some (rawOf e 8 (j :: wordBytes c))
  | .select e j => some (rawOf e 9 [j])
  | .drop e j => some (rawOf e 10 [j])
  | .enroll e n o f => some (rawOf e 11 (n :: halfBytes o ++ calibBytes f))
  | .calibrate e n f => some (rawOf e 12 (n :: calibBytes f))
  | .withdraw e n => some (rawOf e 13 [n])
  | .release e n => some (rawOf e 14 [n])
  | .clearFault e c => some (rawOf e 15 [c])
  | .popSnapshot e => some (rawOf e 16 [])
  | .resetPart e => some (rawOf e 17 [])
  | .angleFrame .. | .carrierFrame .. | .reportFrame .. | .replyFrame .. | .unknownKindFrame .. | .badFrame ..
  | .ringBypass .. | .resetPartResetBegin | .resetPartResetEnd .. | .supplyLeavesRange .. | .supplyReentersRange
  | .powerOnResetEnd .. | .resetPinAssert .. | .resetPinRelease .. | .stopLineFall | .stopLineRise
  | .gapTimerExpiry | .holdoverTimerExpiry | .ventTimerExpiry .. | .status .. | .replyTimerExpiry
  | .pulseTimerExpiry | .heartbeatTimerExpiry | .verificationComplete => none

/-- The ring frame that brings a command to ring-in; none for a command that no ring frame brings (R181). -/
def ringFrameOf : Instr → Option Frame
  | .angleFrame r c p t m => some (angleBytes r c p t m)
  | .carrierFrame b => some (carrierBytes b)
  | .reportFrame a k x d p => some (reportBytes a k x d p)
  | .replyFrame f => some f
  | .unknownKindFrame f => some f
  | .badFrame f => some f
  | .ringBypass f => some f
  | i => (requestOf i).map requestBytes

/-! ### Valve bus frames (R183) -/

/-- A valve bus frame: its bytes followed by the CRC computed over them. -/
def sealBus (bs : List Byte) : Frame := bs ++ halfBytes (busCrc bs)

/-- A STATUS frame is 15 bytes with a good CRC; one whose actual L exceeds 15 or whose bottle pressure exceeds
1000 kPa is taken as a frame with a bad CRC (R183). -/
def statusOk (f : Frame) : Bool :=
  f.length == 15 && f == sealBus (f.take 13) && (byteAt f 10).toNat ≤ 15 && (halfAt f 6).toNat ≤ 1000

end Sys2Proof.Machine
end

