-- ==== Sys2Proof/WellFormed.lean ====
section
/-! DEFINITION. Well-formed commands: each carries what its row of spec/opcode_table.json says its frame is.

A ring frame reaches the part as one row or another by its check, its kind, its address and its fields (R153, R154,
R159, R160, R169, R171, R173); a command whose operands belong to another row is not well-formed. -/

namespace Sys2Proof

open Machine

/-- The address of a request that is executed at the part alone (R159): 0 to 14. -/
def addressed (a : Byte) : Bool := a.toNat ≤ 14

/-- The address of a request that a broadcast takes too (R160). -/
def addressedOrBroadcast (a : Byte) : Bool := a.toNat ≤ 15

/-- "Body bytes the kind does not use" fill the 96 bytes of a body (R181). -/
def fullBody (q : RawRequest) : Bool := q.body.length == 96

/-- A well-formed command. -/
def Instr.wf (i : Instr) : Bool :=
  (match requestOf i with | some q => fullBody q | none => true) &&
  match i with
  | .carrierFrame b => b.length == 32
  | .reportFrame _ _ _ _ p => p.length == 27
  | .replyFrame f => ringOk f && byteAt f 0 == replyKind
  | .unknownKindFrame f => ringOk f && (ringLength (byteAt f 0)).isNone
  | .badFrame f => !ringOk f
  | .requestNotAddressed q => q.address != 15
  | .broadcast q => q.address == 15 && q.kind != 1 && q.kind != 2 && q.kind != 15
  | .unknown q => addressed q.address && (q.kind == 0 || 17 < q.kind.toNat)
  | .heartbeat e _ | .setMode e _ | .clearFault e _ => addressedOrBroadcast e.address
  | .read e t _ => addressed e.address && (t == 0 || 11 < t.toNat)
  | .writeConfig e i _ _ => addressed e.address && (i == 0 || 34 < i.toNat)
  | i => match requestOf i with | some q => addressed q.address | none => true

/-- `i` is well-formed. -/
abbrev WellFormed (i : Instr) : Prop := i.wf = true

end Sys2Proof
end

