-- ==== Sys2Proof/Decode.lean ====
section
/-! DEFINITION. Decoding.

The opcode table gives no bits for any of its rows, so no table word spells a command (`decodeTableWord`).
The bytes that arrive on ring-in do: `decodeRingFrame` reads from them which command they bring, by the Ring
Interface's check and kind (R153 to R161) and the Management Unit's decoding (R169, R171, R173). -/

namespace Sys2Proof

open Machine

/-- No row of spec/opcode_table.json gives bits ("fixed" or "fields"), so no word spells a command. -/
def decodeTableWord (_nbits _w : Nat) : Option Instr := none

/-- The envelope of a request whose kind uses the first `n` bytes of the body (R181). -/
def envelopeOf (q : RawRequest) (n : Nat) : Envelope := ⟨q.address, q.tag, q.status, q.body.drop n⟩

/-- READ's table byte chooses the row of the opcode table (R171, codes of R180). -/
def decodeRead (q : RawRequest) : Instr :=
  match (byteAt q.body 0).toNat with
  | 1 => .readPart (envelopeOf q 2) (byteAt q.body 1)
  | 2 => .readTracker (envelopeOf q 2) (byteAt q.body 1)
  | 3 => .readZone (envelopeOf q 2) (byteAt q.body 1)
  | 4 => .readSlot (envelopeOf q 2) (byteAt q.body 1)
  | 5 => .readSegment (envelopeOf q 3) (byteAt q.body 1) (byteAt q.body 2)
  | 6 => .readHead (envelopeOf q 2) (byteAt q.body 1)
  | 7 => .readCalib (envelopeOf q 2) (byteAt q.body 1)
  | 8 => .readFault (envelopeOf q 2) (byteAt q.body 1)
  | 9 => .readSupply (envelopeOf q 2) (byteAt q.body 1)
  | 10 => .readQueues (envelopeOf q 2) (byteAt q.body 1)
  | 11 => .readReject (envelopeOf q 2) (byteAt q.body 1)
  | _ => .read (envelopeOf q 2) (byteAt q.body 0) (byteAt q.body 1)

/-- WRITE_CONFIG's item byte chooses the row of the opcode table (R173, codes of R180). -/
def decodeConfig (q : RawRequest) : Instr :=
  let e := envelopeOf q 6
  let x := byteAt q.body 1
  let v := wordAt q.body 2
  match (byteAt q.body 0).toNat with
  | 1 => .writeConfigCpr e x v
  | 2 => .writeConfigMaximumStep e x v
  | 3 => .writeConfigAcquireCount e x v
  | 4 => .writeConfigGapLimit e x v
  | 5 => .writeConfigHoldoverLimit e x v
  | 6 => .writeConfigTrackReportEdge e x v
  | 7 => .writeConfigBaseGap e x v
  | 8 => .writeConfigSeatWindowEnd e x v
  | 9 => .writeConfigDischargeAngle e x v
  | 10 => .writeConfigHeadCount e x v
  | 11 => .writeConfigStationBase e x v
  | 12 => .writeConfigVentLimit e x v
  | 13 => .writeConfigReleasePressure e x v
  | 14 => .writeConfigStepLimit e x v
  | 15 => .writeConfigLeakLimit e x v
  | 16 => .writeConfigLearningWeight e x v
  | 17 => .writeConfigReplyTimeout e x v
  | 18 => .writeConfigMissLimit e x v
  | 19 => .writeConfigConfirmWindow e x v
  | 20 => .writeConfigMasterEnable e x v
  | 21 => .writeConfigGateDistance e x v
  | 22 => .writeConfigRejectPulseWidth e x v
  | 23 => .writeConfigAction e x v
  | 24 => .writeConfigLockoutLimit e x v
  | 25 => .writeConfigLowLimit e x v
  | 26 => .writeConfigHighLimit e x v
  | 27 => .writeConfigHysteresis e x v
  | 28 => .writeConfigSuccessiveCount e x v
  | 29 => .writeConfigHeartbeatEnable e x v
  | 30 => .writeConfigHeartbeatUpperLimit e x v
  | 31 => .writeConfigHeartbeatLowerLimit e x v
  | 32 => .writeConfigRingLimit e x v
  | 33 => .writeConfigBacklogThreshold e x v
  | 34 => .writeConfigPriority e x v
  | _ => .writeConfig e (byteAt q.body 0) x v

/-- The seventeen request kinds (R169, codes of R180); `elapsed` is the time since the watchdog's timer was last
started, which a HEARTBEAT is judged by (R147). -/
def decodeKind (elapsed : Nat) (q : RawRequest) : Instr :=
  let b := q.body
  match q.kind.toNat with
  | 1 => .heartbeat (envelopeOf q 0) elapsed
  | 2 => .setMode (envelopeOf q 1) (byteAt b 0)
  | 3 => decodeRead q
  | 4 => decodeConfig q
  | 5 => .writeZone (envelopeOf q 10) (byteAt b 0) (zoneAt b 1)
  | 6 => .beginSlot (envelopeOf q 13) (byteAt b 0) (headerAt b 1)
  | 7 => .segment (envelopeOf q 13) (byteAt b 0) (byteAt b 1) (segmentAt b 2)
  | 8 => .commit (envelopeOf q 5) (byteAt b 0) (wordAt b 1)
  | 9 => .select (envelopeOf q 1) (byteAt b 0)
  | 10 => .drop (envelopeOf q 1) (byteAt b 0)
  | 11 => .enroll (envelopeOf q 13) (byteAt b 0) (halfAt b 1) (calibAt b 3)
  | 12 => .calibrate (envelopeOf q 11) (byteAt b 0) (calibAt b 1)
  | 13 => .withdraw (envelopeOf q 1) (byteAt b 0)
  | 14 => .release (envelopeOf q 1) (byteAt b 0)
  | 15 => .clearFault (envelopeOf q 1) (byteAt b 0)
  | 16 => .popSnapshot (envelopeOf q 0)
  | 17 => .resetPart (envelopeOf q 0)
  | _ => .unknown q

/-- A REQUEST is judged by its address (R159, R160); `own` is the part's ring address. -/
def decodeRequest (own elapsed : Nat) (q : RawRequest) : Instr :=
  if q.address = 15 then
    if q.kind = 1 ∨ q.kind = 2 ∨ q.kind = 15 then decodeKind elapsed q else .broadcast q
  else if q.address.toNat = own then decodeKind elapsed q
  else .requestNotAddressed q

/-- The command that a frame arriving on ring-in brings: the bypass while the part is held in reset (R161), else by
the check (R153), the kind (R152, R154) and, for a REQUEST, its address and fields. -/
def decodeRingFrame (held : Bool) (own elapsed : Nat) (f : Frame) : Instr :=
  if held then .ringBypass f
  else if !ringOk f then .badFrame f
  else match (byteAt f 0).toNat with
  | 1 => .angleFrame (halfAt f 2) (halfAt f 4) (halfAt f 6) (halfAt f 8) (byteAt f 10)
  | 2 => .carrierFrame ((f.drop 2).take 32)
  | 3 => .reportFrame (byteAt f 2) (byteAt f 3) (halfAt f 4) (byteAt f 6) ((f.drop 7).take 27)
  | 4 => decodeRequest own elapsed (rawRequestOf f)
  | 5 => .replyFrame f
  | _ => .unknownKindFrame f

end Sys2Proof
end

