-- ==== Sys2Proof/Machine/State.lean ====
section
/-! DEFINITION. The state of the FD448, block by block, and its value after reset.

Numbers that the manual counts with are whole numbers; what crosses the wire keeps its width in `Instr`.
An item whose reset value the manual gives as "0 (unset)" is 0 while it is unset. -/

namespace Sys2Proof.Machine

/-! ## Names -/

/-- The operating modes (R128). -/
inductive Mode where
  | safe | standby | production
  deriving DecidableEq, Repr

/-- The tracker states (section 1.1.1). -/
inductive TrackerState where
  | noTimebase | acquiring | locked | holdover | lost
  deriving DecidableEq, Repr

/-- The TRACK report edge item (R2). -/
inductive TrackEdge where
  | none | gain | loss | both
  deriving DecidableEq, Repr

/-- The edge a TRACK report carries (R12). -/
inductive TrackChange where
  | gain | loss
  deriving DecidableEq, Repr

/-- The segment kinds (00_scope.md). -/
inductive SegKind where
  | purge | pressurize | syrup | fill | trim | settle | snift
  deriving DecidableEq, Repr

/-- The end conditions of a segment (R25). -/
inductive EndCond where
  | volume | probe | pressureEq | pressureLow | angle
  deriving DecidableEq, Repr

/-- The slot states (section 2.1). -/
inductive SlotState where
  | free | loading | verifying | ready | active | retiring | corrupt
  deriving DecidableEq, Repr

/-- The result of a verification (R32). -/
inductive VerifyResult where
  | ok | missing | crcMismatch | badSequence | noZone | parity
  deriving DecidableEq, Repr

/-- The head states (R44). -/
inductive HeadState where
  | off | idle | seating | running | emptyPass | done | aborting | forced | lockout
  deriving DecidableEq, Repr

/-- The phase of the current segment (R44). -/
inductive Phase where
  | pending | active
  deriving DecidableEq, Repr

/-- The valves of a head (00_scope.md). -/
inductive Valve where
  | g | s | l | v
  deriving DecidableEq, Repr

/-- The meters of a head (R78). -/
inductive Meter where
  | liquid | syrup
  deriving DecidableEq, Repr

/-- The verdicts of a dose record (R59). -/
inductive Verdict where
  | good | under | over | ratio | aborted | skipped | empty | locked
  deriving DecidableEq, Repr

/-- The skip reasons of a dose record (R59). -/
inductive SkipReason where
  | mode | noProfile | hold | headHold | withdraw
  deriving DecidableEq, Repr

/-- The fault classes, in the order of the table of R132. -/
inductive FaultClass where
  | timebase | heartbeat | supply | ring | table | reject | external | lockout | reset | comm | valve | deadline
  | zone | meter
  deriving DecidableEq, Repr

/-- The fault causes, class by class in the order of the table of R132. -/
inductive Cause where
  | timebaseJump | timebaseReverse | timebaseLost
  | heartbeatEarly | heartbeatLate
  | pressureLow | pressureHigh | tempLow | tempHigh
  | ringCrc
  | profileParity | profileLost | contextParity
  | rejectGap | rejectLate | rejectFull
  | lineLow
  | lockoutLimit
  | resetPower | resetPin | resetRing
  | commMisses | commNode
  | valveMismatch | ventTimeout
  | deadlineSegment | deadlineDischarge
  | zoneCut
  | meterLeak | meterJump
  deriving DecidableEq, Repr

/-- The actions of the action table (R132). -/
inductive Action where
  | note | hold | halt | stop
  deriving DecidableEq, Repr

/-- The causes of a reset (R176). -/
inductive ResetCause where
  | power | pin | ring
  deriving DecidableEq, Repr

/-- The states of the heartbeat watchdog (R146). -/
inductive WatchState where
  | disabled | watching | waiting
  deriving DecidableEq, Repr

/-- The report kinds (section 8.6). -/
inductive ReportKind where
  | dose | fault | profile | mode | track
  deriving DecidableEq, Repr

/-- The reply statuses, in the order of the table of R169. -/
inductive ReplyStatus where
  | ok | accepted | refusedMode | refusedState | busy | badRow | badValue | overlap | empty | unknown
  deriving DecidableEq, Repr

/-! ## Angle Tracker and Zone Map (chapter 1) -/

/-- A carousel position: the pair (revolution, count). -/
structure Pos where
  rev   : Nat
  count : Nat
  deriving DecidableEq, Repr

/-- The Angle Tracker (R1) and its items (R2).
A running timer holds the limit it was started with: the gap limit in steps of 0.5 ms, the holdover limit in ms. -/
structure Tracker where
  state         : TrackerState
  ref           : Option Pos
  pos           : Option Pos
  run           : Nat
  jumpPending   : Bool
  gapTimer      : Option Nat
  holdoverTimer : Option Nat
  cpr           : Nat
  maxStep       : Nat
  acquireCount  : Nat
  gapLimit      : Nat
  holdoverLimit : Nat
  edge          : TrackEdge
  deriving DecidableEq, Repr

/-- A zone row (R18); bit n − 1 of the permitted set stands for the segment kind of code n (R180). -/
structure ZoneRow where
  valid     : Bool
  start     : Nat
  stop      : Nat
  permitted : BitVec 7
  guard     : Nat
  gap       : Nat
  deriving DecidableEq, Repr

/-- The Zone Map: eight rows (R18), the base gap, Θs and Θd (R22). -/
structure ZoneMap where
  rows           : Vector ZoneRow 8
  baseGap        : Nat
  seatEnd        : Nat
  dischargeAngle : Nat
  deriving DecidableEq, Repr

/-! ## Profile Store (chapter 2) -/

/-- The header fields held in profile memory (R24). -/
structure Header where
  target   : Nat
  underTol : Nat
  overTol  : Nat
  ratio    : Nat
  ratioTol : Nat
  deriving DecidableEq, Repr

/-- A segment record (R25). -/
structure SegRecord where
  kind     : SegKind
  aperture : Nat
  step     : Nat
  interval : Nat
  ending   : EndCond
  param    : Nat
  dwell    : Nat
  deadline : Nat
  deriving DecidableEq, Repr

/-- An index of a slot's profile body: its record, its written mark, and whether its parity is clean (R23, R39). -/
structure SegCell where
  record  : SegRecord
  written : Bool
  clean   : Bool
  deriving DecidableEq, Repr

/-- A profile slot: the control record of R23 and the profile body. -/
structure Slot where
  state       : SlotState
  gen         : Nat
  users       : Nat
  profile     : Option Nat
  segCount    : Option Nat
  crc         : Option Word
  header      : Header
  headerClean : Bool
  cells       : Vector SegCell 12
  deriving DecidableEq, Repr

/-- The Profile Store: eight slots and the verifier, idle or busy with one slot (R23, R30). -/
structure Store where
  slots    : Vector Slot 8
  verifier : Option SlotId
  deriving DecidableEq, Repr

/-! ## Head contexts: Dose Sequencer (chapter 3), Meter Unit (chapter 4) and Scanner (chapter 5) fields of a head -/

/-- The valves of a head: commanded, sent or actual. -/
structure Valves where
  g : Bool
  s : Bool
  l : Nat
  v : Bool
  deriving DecidableEq, Repr

/-- The calibration fields of R43. -/
structure Calib where
  liquidK    : Nat
  liquidTrim : Int
  syrupK     : Nat
  syrupTrim  : Int
  overrun    : Nat
  deriving DecidableEq, Repr

/-- What a head holds of the profile it pinned (R44). -/
structure Pin where
  slot    : SlotId
  gen     : Nat
  profile : Nat
  deriving DecidableEq, Repr

/-- A cut arm other than NONE (R78). -/
structure Arm where
  meter : Meter
  value : Nat
  deriving DecidableEq, Repr

/-- The meter bases (R79). -/
structure Bases where
  liquid : Nat
  syrup  : Nat
  deriving DecidableEq, Repr

/-- The last observation of a head (R44). -/
structure Obs where
  pressure   : Nat
  probe      : Bool
  seated     : Bool
  valves     : Valves
  cut        : Bool
  cutCounter : Nat
  liquid     : Nat
  syrup      : Nat
  deriving DecidableEq, Repr

/-- The header and segment record as read at the start of the current segment (R38). -/
structure Work where
  header : Header
  record : SegRecord
  deriving DecidableEq, Repr

/-- The pending dose record of a head (R59). -/
structure DoseRecord where
  verdict   : Verdict
  skip      : Option SkipReason
  cycle     : Nat
  pin       : Option Pin
  liquid    : Nat
  syrup     : Nat
  estimate  : Option Nat
  observed  : Option Nat
  fault     : Option Cause
  completed : Nat
  deriving DecidableEq, Repr

/-- The Meter Unit's own fields of a head (R75). -/
structure MeterRecord where
  leakSum        : Nat
  leakRaised     : Bool
  productStarted : Bool
  finalCut       : Option Nat
  estimateUsed   : Option Nat
  finalDone      : Bool
  deriving DecidableEq, Repr

/-- The Scanner's fields of a head (R96).
`forcedUnsent` is set from the head's entry to FORCED until the next COMMAND sent to it (R107). -/
structure ScanRecord where
  seq          : Nat
  lastSent     : Option Valves
  miss         : Nat
  confirm      : Option Nat
  nodeFault    : Bool
  forcedUnsent : Bool
  deriving DecidableEq, Repr

/-- A head context: the static fields of R43, the dynamic fields of R44, the metering record of R75 and the
scanner's fields of R96.
`work` is present while the segment is ACTIVE; `deadlineMet` says that the current segment's deadline has been crossed
(R54); `clean` says that the parity of the checked fields is clean (R70). -/
structure Head where
  offset      : Option Nat
  calib       : Option Calib
  state       : HeadState
  level       : Nat
  cycle       : Nat
  pin         : Option Pin
  segIndex    : Nat
  phase       : Option Phase
  startAngle  : Option Nat
  lastClosed  : Option (Nat × Valve)
  rampPos     : Option Nat
  valves      : Valves
  arm         : Option Arm
  bases       : Option Bases
  liquidTotal : Nat
  syrupTotal  : Nat
  lastObs     : Option Obs
  overrun     : Nat
  hold        : Bool
  withdraw    : Bool
  ventTimer   : Option Nat
  lastFault   : Option Cause
  record      : Option DoseRecord
  work        : Option Work
  deadlineMet : Bool
  clean       : Bool
  meter       : MeterRecord
  scan        : ScanRecord
  deriving DecidableEq, Repr

/-- The two items that govern the safe close (R62): ms and kPa. -/
structure Sequencer where
  ventLimit       : Nat
  releasePressure : Nat
  deriving DecidableEq, Repr

/-- The three items of the Meter Unit (R91). -/
structure MeterUnit where
  stepLimit : Nat
  leakLimit : Nat
  weight    : Nat
  deriving DecidableEq, Repr

/-- The in-flight record (R95); `urgent` says whether the exchange is urgent or regular (R113), and `timer` is the
reply timeout its timer was started with, in steps of 10 µs (R102). -/
structure InFlight where
  head     : HeadId
  seq      : Nat
  valves   : Valves
  arm      : Option Arm
  rampDone : Bool
  predates : Bool
  discard  : Bool
  urgent   : Bool
  timer    : Nat
  deriving DecidableEq, Repr

/-- The Valve Bus Scanner (R96) and its items (R112). -/
structure Scanner where
  inFlight      : Option InFlight
  scanPos       : Option HeadId
  urgent        : List HeadId
  replyTimeout  : Nat
  missLimit     : Nat
  confirmWindow : Nat
  deriving DecidableEq, Repr

/-! ## Discharge Tracker (chapter 6) -/

/-- An entry of the reject schedule (R116). -/
structure RejectEntry where
  source  : Nat
  seq     : Nat
  station : Nat
  cycle   : Nat
  verdict : Verdict
  pos     : Pos
  due     : Nat
  deriving DecidableEq, Repr

/-- The Discharge Tracker (R116) and its items (R114); the reject output is active while the pulse timer runs, which
holds the width it was started with, in ms. -/
structure Discharge where
  lastSeq    : Vector (Option Nat) 15
  schedule   : List RejectEntry
  pulse      : Option Nat
  made       : Nat
  master     : Bool
  gate       : Nat
  pulseWidth : Nat
  deriving DecidableEq, Repr

/-! ## Fault Unit (chapter 7) -/

/-- The record of a fault class (R133), with its action (R132) and its membership of the stop-cause set (R137). -/
structure ClassRecord where
  latched     : Bool
  condition   : Bool
  lastCause   : Option Cause
  lastStation : Option Nat
  bars        : Bool
  inStop      : Bool
  action      : Action
  deriving DecidableEq, Repr

/-- A supply monitor and its four items (R143). -/
structure Monitor where
  sample     : Option Int
  count      : Nat
  condition  : Bool
  low        : Int
  high       : Int
  hysteresis : Int
  n          : Nat
  deriving DecidableEq, Repr

/-- The heartbeat watchdog (R146); limits in steps of 10 ms.
`timer` is the upper limit the running timer was started with; `lowerTaken` is the lower limit taken at the last start,
which decides the mode until the next: window mode when it is above 0. -/
structure Watchdog where
  enable     : Bool
  upper      : Nat
  lower      : Nat
  state      : WatchState
  timer      : Option Nat
  lowerTaken : Nat
  deriving DecidableEq, Repr

/-- A snapshot of a head context (R149). -/
structure Snapshot where
  station   : Nat
  state     : HeadState
  level     : Nat
  cycle     : Nat
  slot      : Option SlotId
  gen       : Option Nat
  segIndex  : Nat
  phase     : Option Phase
  valves    : Valves
  arm       : Option Arm
  liquid    : Nat
  syrup     : Nat
  lastObs   : Option Obs
  cause     : Cause
  deriving DecidableEq, Repr

/-- The Fault Unit; the snapshot stack has its newest entry first. -/
structure FaultUnit where
  mode         : Mode
  records      : Vector ClassRecord 14
  lockoutLimit : Nat
  pressure     : Monitor
  temperature  : Monitor
  watchdog     : Watchdog
  snapshots    : List Snapshot
  overflow     : Bool
  deriving DecidableEq, Repr

/-! ## Report Queue (chapter 8) -/

/-- The contents of a DOSE report (R92). -/
structure DoseReport where
  record  : DoseRecord
  station : Nat
  pos     : Pos
  seq     : Nat
  deriving DecidableEq, Repr

/-- The contents of a FAULT report (R134). -/
structure FaultReport where
  cause     : Cause
  station   : Option Nat
  slot      : Option Nat
  action    : Action
  condition : Bool
  deriving DecidableEq, Repr

/-- The contents of a PROFILE report (R32). -/
structure ProfileReport where
  slot    : SlotId
  gen     : Nat
  profile : Nat
  result  : VerifyResult
  index   : Option Nat
  deriving DecidableEq, Repr

/-- The contents of a report, by kind; a MODE report without a class has the cause REQUEST (R128). -/
inductive ReportBody where
  | dose (d : DoseReport)
  | fault (f : FaultReport)
  | profile (p : ProfileReport)
  | mode (left entered : Mode) (cause : Option FaultClass)
  | track (change : TrackChange) (state : TrackerState) (pos : Option Pos)
  deriving DecidableEq, Repr

/-- A report in the queue: its priority, fixed at creation, and its contents (R162). -/
structure Report where
  prio : Nat
  body : ReportBody
  deriving DecidableEq, Repr

/-- The Report Queue (R162): its head first. -/
structure ReportQueue where
  queue     : List Report
  prios     : Vector Nat 5
  dropped   : Bool
  doseSeq   : Nat
  threshold : Nat
  deriving DecidableEq, Repr

/-! ## Ring Interface, Management Unit, resets (chapters 8 and 9) -/

/-- The Ring Interface (R152, R153). -/
structure Ring where
  badCount : Nat
  transmit : Nat
  limit    : Nat
  deriving DecidableEq, Repr

/-- The Management Unit (R172, R174 to R176); the address is the strap value held (R179). -/
structure Management where
  address     : Nat
  headCount   : Nat
  stationBase : Nat
  resetCause  : ResetCause
  deriving DecidableEq, Repr

/-- The reset conditions in force (R161, R177, R178): a power-on reset in progress (and whether the supply is still
out of its range), the reset pin asserted, a RESET_PART answered whose reset has not begun, and its reset. -/
structure Resets where
  powerOn     : Bool
  supplyOut   : Bool
  pin         : Bool
  ringPending : Bool
  ringActive  : Bool
  deriving DecidableEq, Repr

/-- The MODEL's own field: the orders of what one event brings about, where the manual gives none (R13, R16, R80, R144,
R155, R166); notes/assumptions/4.md.
`heads` lists heads first in the order they take a common event; the others follow in ascending number. -/
structure Arbiter where
  heads            : List HeadId
  supplyFirst      : Bool
  dischargeFirst   : Bool
  trackerFirst     : Bool
  temperatureFirst : Bool
  markLast         : Bool
  leakFirst        : Bool
  deriving DecidableEq, Repr

/-! ## The state -/

/-- The whole state of the FD448, the queue of commands that wait, and the frames it has sent. -/
structure State where
  pending    : List Instr
  arbiter    : Arbiter
  resets     : Resets
  lineHeld   : Bool
  ring       : Ring
  tracker    : Tracker
  zones      : ZoneMap
  store      : Store
  sequencer  : Sequencer
  meterUnit  : MeterUnit
  heads      : Vector Head 48
  scanner    : Scanner
  discharge  : Discharge
  faults     : FaultUnit
  reports    : ReportQueue
  management : Management
  ringOut    : List Frame
  busOut     : List Frame
  deriving DecidableEq, Repr

/-- Reasons for a step to stop with a fault. None: every command of the FD448 has an effect the spec gives, and the
part's own faults (R132) are state. -/
inductive Fault where
  deriving DecidableEq, Repr

/-- Reasons for a step to be refused. -/
inductive Refusal where
  /-- The command has no meaning in `exec` yet. Raised by `exec`'s own arms alone; safe, since the model stops. -/
  | notModelled (mnemonic : String)
  deriving DecidableEq, Repr

/-! ## Reset values -/

/-- A zone row after reset (R18). -/
def ZoneRow.blank : ZoneRow := ⟨false, 0, 0, 0, 0, 0⟩

/-- A header that holds nothing (DESIGN CHOICE: the manual gives profile memory no reset value;
notes/assumptions/19.md). -/
def Header.blank : Header := ⟨0, 0, 0, 0, 0⟩

/-- A segment record that holds nothing (DESIGN CHOICE, as `Header.blank`). -/
def SegRecord.blank : SegRecord := ⟨.purge, 0, 0, 0, .probe, 0, 0, 0⟩

/-- An index with its written mark clear (R23). -/
def SegCell.blank : SegCell := ⟨.blank, false, true⟩

/-- A FREE slot: it "discards its header, its segments, its written marks and its committed CRC. It keeps its
generation." (R23) -/
def Slot.freed (gen : Nat) : Slot :=
  ⟨.free, gen, 0, none, none, none, .blank, true, Vector.replicate 12 .blank⟩

/-- The rest pattern, that of SETTLE (R45). -/
def Valves.rest : Valves := ⟨false, false, 0, false⟩

/-- G closed, S closed, L 0, V open: the command of ABORTING, FORCED and LOCKOUT (R45). -/
def Valves.venting : Valves := ⟨false, false, 0, true⟩

/-- A metering record with no history (R75). -/
def MeterRecord.blank : MeterRecord := ⟨0, false, false, none, none, false⟩

/-- The Scanner's fields of a head after reset (R96). -/
def ScanRecord.blank : ScanRecord := ⟨0, none, 0, none, false, false⟩

/-- A head after reset: OFF with the values of the last column of R44, every static field unset (R43). -/
def Head.blank : Head where
  offset := none
  calib := none
  state := .off
  level := 0
  cycle := 0
  pin := none
  segIndex := 0
  phase := none
  startAngle := none
  lastClosed := none
  rampPos := none
  valves := .rest
  arm := none
  bases := none
  liquidTotal := 0
  syrupTotal := 0
  lastObs := none
  overrun := 0
  hold := false
  withdraw := false
  ventTimer := none
  lastFault := none
  record := none
  work := none
  deadlineMet := false
  clean := true
  meter := .blank
  scan := .blank

/-- The tracker after reset (R1, R2). -/
def Tracker.reset : Tracker where
  state := .noTimebase
  ref := none
  pos := none
  run := 0
  jumpPending := false
  gapTimer := none
  holdoverTimer := none
  cpr := 0
  maxStep := 64
  acquireCount := 4
  gapLimit := 4
  holdoverLimit := 50
  edge := .both

/-- A class record after reset with an action (R133). -/
def ClassRecord.blank (a : Action) : ClassRecord := ⟨false, false, none, none, false, false, a⟩

/-- The default action of each class, in the order of the table of R132. -/
def defaultActions : Vector Action 14 :=
  #v[.stop, .stop, .hold, .note, .halt, .stop, .stop, .stop, .stop, .halt, .halt, .halt, .halt, .note]

/-- The cause of the RESET class for a cause of reset (R139). -/
def ResetCause.toCause : ResetCause → Cause
  | .power => .resetPower
  | .pin => .resetPin
  | .ring => .resetRing

/-- The class records after a reset: RESET latched with the cause of the reset, a member of the stop-cause set
(R139), every other record blank (R133). -/
def resetRecords (c : ResetCause) : Vector ClassRecord 14 :=
  (defaultActions.map ClassRecord.blank).set 8
    { ClassRecord.blank .stop with latched := true, lastCause := some c.toCause, inStop := true }

/-- The watchdog after reset (R146). -/
def Watchdog.reset : Watchdog := ⟨false, 50, 0, .disabled, none, 0⟩

/-- The Fault Unit after reset (R128, R132, R133, R139, R142, R143, R146, R149). -/
def FaultUnit.reset (c : ResetCause) : FaultUnit where
  mode := .safe
  records := resetRecords c
  lockoutLimit := 2
  pressure := ⟨none, 0, false, 150, 700, 10, 3⟩
  temperature := ⟨none, 0, false, 0, 200, 5, 3⟩
  watchdog := .reset
  snapshots := []
  overflow := false

/-- The Discharge Tracker after reset (R114, R116). -/
def Discharge.reset : Discharge :=
  ⟨Vector.replicate 15 none, [], none, 0, false, 0, 40⟩

/-- The Report Queue after reset, before the RESET FAULT report (R156, R162). -/
def ReportQueue.reset : ReportQueue := ⟨[], #v[3, 3, 2, 2, 1], false, 0, 16⟩

/-- The FAULT report of RESET: "the cause, part scope, no station, the action STOP and the condition clear" (R139). -/
def resetReport (c : ResetCause) : Report :=
  ⟨3, .fault ⟨c.toCause, none, none, .stop, false⟩⟩

/-- Every piece of state the part holds takes its reset value, as while the part is held in reset (R139, R177); the
queue of commands, the arbiter, the pins, the reset conditions, the address and the reset cause record (R176), and what
has been sent, stay. -/
def State.cleared (s : State) (c : ResetCause) : State :=
  { s with
    ring := ⟨0, 0, 4⟩
    tracker := .reset
    zones := ⟨Vector.replicate 8 .blank, 16, 0, 0⟩
    store := ⟨Vector.replicate 8 (.freed 0), none⟩
    sequencer := ⟨1500, 20⟩
    meterUnit := ⟨1024, 20, 2⟩
    heads := Vector.replicate 48 .blank
    scanner := ⟨none, none, [], 20, 2, 3⟩
    discharge := .reset
    faults := .reset c
    reports := .reset
    management := { s.management with headCount := 0, stationBase := 0 } }

/-- The end of a reset: every piece of state holds its reset value, the straps are read, the reset cause record is
set, and the FAULT report of RESET is queued (R139, R177, R179). -/
def State.resetEnded (s : State) (c : ResetCause) (straps : BitVec 4) : State :=
  let s := s.cleared c
  { s with
    reports := { s.reports with queue := [resetReport c] }
    management := { s.management with address := straps.toNat, resetCause := c } }

/-- Everything at its plainest, before the first reset has ended. -/
def State.unset : State where
  pending := []
  arbiter := ⟨[], false, false, false, false, false, false⟩
  resets := ⟨false, false, false, false, false⟩
  lineHeld := false
  ring := ⟨0, 0, 4⟩
  tracker := .reset
  zones := ⟨Vector.replicate 8 .blank, 16, 0, 0⟩
  store := ⟨Vector.replicate 8 (.freed 0), none⟩
  sequencer := ⟨1500, 20⟩
  meterUnit := ⟨1024, 20, 2⟩
  heads := Vector.replicate 48 .blank
  scanner := ⟨none, none, [], 20, 2, 3⟩
  discharge := .reset
  faults := .reset .power
  reports := .reset
  management := ⟨0, 0, 0, .power⟩
  ringOut := []
  busOut := []

/-- The machine right after a power-on reset.
DESIGN CHOICE (notes/assumptions/2.md, 3.md, 4.md): the straps read 0, no other party holds the stop line low, and the
arbiter has its plainest orders; the manual gives none of these. -/
def State.reset : State := State.unset.resetEnded .power 0

end Sys2Proof.Machine
end

