-- ==== Sys2Proof/Machine/Operands.lean ====
section
/-! DEFINITION. The operands of the commands: wire codes of the enumerated fields (R180) and the range checks of the
records a request carries (R24, R25, R43). -/

namespace Sys2Proof.Machine

/-! ### Codes (R180)

The codes of states (head, tracker, slot, watchdog, phase, valve) and of reset causes in READ rows and snapshots are
DESIGN CHOICE, each state's place in the table that lists them (notes/assumptions/14.md); the tracker's are those of
R182. -/

def ReplyStatus.code : ReplyStatus → Nat
  | .ok => 0 | .accepted => 1 | .refusedMode => 2 | .refusedState => 3 | .busy => 4 | .badRow => 5
  | .badValue => 6 | .overlap => 7 | .empty => 8 | .unknown => 9

def Verdict.code : Verdict → Nat
  | .good => 1 | .under => 2 | .over => 3 | .ratio => 4 | .aborted => 5 | .skipped => 6 | .empty => 7 | .locked => 8

def Verdict.ofCode (n : Nat) : Option Verdict :=
  match n with
  | 1 => some .good | 2 => some .under | 3 => some .over | 4 => some .ratio | 5 => some .aborted
  | 6 => some .skipped | 7 => some .empty | 8 => some .locked | _ => none

def SkipReason.code : SkipReason → Nat
  | .mode => 1 | .noProfile => 2 | .hold => 3 | .headHold => 4 | .withdraw => 5

def Mode.code : Mode → Nat
  | .safe => 0 | .standby => 1 | .production => 2

def Mode.ofCode (n : Nat) : Option Mode :=
  match n with
  | 0 => some .safe | 1 => some .standby | 2 => some .production | _ => none

def Action.code : Action → Nat
  | .note => 0 | .hold => 1 | .halt => 2 | .stop => 3

def Action.ofCode (n : Int) : Option Action :=
  if n = 0 then some .note else if n = 1 then some .hold else if n = 2 then some .halt
  else if n = 3 then some .stop else none

def SegKind.code : SegKind → Nat
  | .purge => 1 | .pressurize => 2 | .syrup => 3 | .fill => 4 | .trim => 5 | .settle => 6 | .snift => 7

def SegKind.ofCode (n : Nat) : Option SegKind :=
  match n with
  | 1 => some .purge | 2 => some .pressurize | 3 => some .syrup | 4 => some .fill | 5 => some .trim
  | 6 => some .settle | 7 => some .snift | _ => none

def EndCond.code : EndCond → Nat
  | .volume => 1 | .probe => 2 | .pressureEq => 3 | .pressureLow => 4 | .angle => 5

def EndCond.ofCode (n : Nat) : Option EndCond :=
  match n with
  | 1 => some .volume | 2 => some .probe | 3 => some .pressureEq | 4 => some .pressureLow | 5 => some .angle
  | _ => none

def Meter.code : Meter → Nat
  | .liquid => 1 | .syrup => 2

def TrackEdge.code : TrackEdge → Nat
  | .none => 0 | .gain => 1 | .loss => 2 | .both => 3

def TrackEdge.ofCode (n : Int) : Option TrackEdge :=
  if n = 0 then some .none else if n = 1 then some .gain else if n = 2 then some .loss
  else if n = 3 then some .both else Option.none

/-- Off or on items: off 0, on 1. -/
def onOff (n : Int) : Option Bool := if n = 0 then some false else if n = 1 then some true else none

def TrackChange.code : TrackChange → Nat
  | .gain => 1 | .loss => 2

def TrackerState.code : TrackerState → Nat
  | .noTimebase => 0 | .acquiring => 1 | .locked => 2 | .holdover => 3 | .lost => 4

def SlotState.code : SlotState → Nat
  | .free => 0 | .loading => 1 | .verifying => 2 | .ready => 3 | .active => 4 | .retiring => 5 | .corrupt => 6

def HeadState.code : HeadState → Nat
  | .off => 0 | .idle => 1 | .seating => 2 | .running => 3 | .emptyPass => 4 | .done => 5 | .aborting => 6
  | .forced => 7 | .lockout => 8

def Phase.code : Phase → Nat
  | .pending => 0 | .active => 1

def Valve.code : Valve → Nat
  | .g => 0 | .s => 1 | .l => 2 | .v => 3

def WatchState.code : WatchState → Nat
  | .disabled => 0 | .watching => 1 | .waiting => 2

def ResetCause.code : ResetCause → Nat
  | .power => 1 | .pin => 2 | .ring => 3

def VerifyResult.code : VerifyResult → Nat
  | .ok => 0 | .missing => 1 | .crcMismatch => 2 | .badSequence => 3 | .noZone => 4 | .parity => 5

def ReportKind.code : ReportKind → Nat
  | .dose => 1 | .fault => 2 | .profile => 3 | .mode => 4 | .track => 5

/-- The place of a report kind among the five, from 0. -/
def ReportKind.row : ReportKind → Fin 5
  | .dose => 0 | .fault => 1 | .profile => 2 | .mode => 3 | .track => 4

def ReportKind.ofCode (n : Nat) : Option ReportKind :=
  match n with
  | 1 => some .dose | 2 => some .fault | 3 => some .profile | 4 => some .mode | 5 => some .track | _ => none

def ReportBody.kind : ReportBody → ReportKind
  | .dose _ => .dose
  | .fault _ => .fault
  | .profile _ => .profile
  | .mode _ _ _ => .mode
  | .track _ _ _ => .track

/-- A fault class's place in the table of R132: its code and its FAULT row. -/
def FaultClass.row : FaultClass → Fin 14
  | .timebase => 0 | .heartbeat => 1 | .supply => 2 | .ring => 3 | .table => 4 | .reject => 5 | .external => 6
  | .lockout => 7 | .reset => 8 | .comm => 9 | .valve => 10 | .deadline => 11 | .zone => 12 | .meter => 13

def FaultClass.code (c : FaultClass) : Nat := c.row.val

/-- The fourteen classes in the order of R132. -/
def FaultClass.all : List FaultClass :=
  [.timebase, .heartbeat, .supply, .ring, .table, .reject, .external, .lockout, .reset, .comm, .valve, .deadline,
    .zone, .meter]

def FaultClass.ofCode (n : Nat) : Option FaultClass := FaultClass.all[n]?

/-- The class of a cause (R132). -/
def Cause.cls : Cause → FaultClass
  | .timebaseJump | .timebaseReverse | .timebaseLost => .timebase
  | .heartbeatEarly | .heartbeatLate => .heartbeat
  | .pressureLow | .pressureHigh | .tempLow | .tempHigh => .supply
  | .ringCrc => .ring
  | .profileParity | .profileLost | .contextParity => .table
  | .rejectGap | .rejectLate | .rejectFull => .reject
  | .lineLow => .external
  | .lockoutLimit => .lockout
  | .resetPower | .resetPin | .resetRing => .reset
  | .commMisses | .commNode => .comm
  | .valveMismatch | .ventTimeout => .valve
  | .deadlineSegment | .deadlineDischarge => .deadline
  | .zoneCut => .zone
  | .meterLeak | .meterJump => .meter

/-- "1 up, the position of the cause in its class's list in R132" (R180). -/
def Cause.code : Cause → Nat
  | .timebaseJump | .heartbeatEarly | .pressureLow | .ringCrc | .profileParity | .rejectGap | .lineLow
  | .lockoutLimit | .resetPower | .commMisses | .valveMismatch | .deadlineSegment | .zoneCut | .meterLeak => 1
  | .timebaseReverse | .heartbeatLate | .pressureHigh | .profileLost | .rejectLate | .resetPin | .commNode
  | .ventTimeout | .deadlineDischarge | .meterJump => 2
  | .timebaseLost | .tempLow | .contextParity | .rejectFull | .resetRing => 3
  | .tempHigh => 4

/-- The scope of a raise with this cause is head (R132). -/
def Cause.headScoped : Cause → Bool
  | .profileLost | .contextParity | .commMisses | .commNode | .valveMismatch | .ventTimeout | .deadlineSegment
  | .deadlineDischarge | .zoneCut | .meterLeak | .meterJump => true
  | _ => false

/-- The two supply monitors (R143); the selector of their items is 0 or 1 (R181). -/
inductive MonitorName where
  | pressure | temperature
  deriving DecidableEq, Repr

def MonitorName.ofCode (n : Nat) : Option MonitorName :=
  if n = 0 then some .pressure else if n = 1 then some .temperature else none

/-- A slot number of a request: 0–7. -/
def slotOf (b : Byte) : Option SlotId := if h : b.toNat < 8 then some ⟨b.toNat, h⟩ else none

/-- A segment index of a request: 0–11. -/
def indexOf (b : Byte) : Option (Fin 12) := if h : b.toNat < 12 then some ⟨b.toNat, h⟩ else none

/-- A head number of a request, judged against the configured head count (R174). -/
def headOf (headCount : Nat) (b : Byte) : Option HeadId :=
  if b.toNat < headCount then (if h : b.toNat < 48 then some ⟨b.toNat, h⟩ else none) else none

/-- The value of WRITE_CONFIG lies in a range of whole numbers. -/
def inRange (v : Int) (lo hi : Nat) : Bool := (lo : Int) ≤ v && v ≤ (hi : Int)

/-- A valve set: "one byte, with G, S and V in bits 0, 1 and 2" (R180). -/
def Valves.set (v : Valves) : Byte :=
  (if v.g then 1 else 0) ||| (if v.s then 2 else 0) ||| (if v.v then 4 else 0)

/-- A valve set and an aperture as read: the other bits are ignored (R180). -/
def Valves.ofBytes (set l : Byte) : Valves := ⟨set.getLsbD 0, set.getLsbD 1, l.toNat, set.getLsbD 2⟩

/-! ### Range checks -/

/-- BEGIN's check of the header (R24). -/
def headerInRange (h : HeaderFields) : Bool :=
  1 ≤ h.segCount.toNat && h.segCount.toNat ≤ 12 &&
  1 ≤ h.target.toNat && h.target.toNat ≤ 30000 &&
  h.underTol.toNat ≤ 2000 && h.overTol.toNat ≤ 2000 && h.ratio.toNat ≤ 500 && h.ratioTol.toNat ≤ 100

/-- The header fields held in profile memory (R24). -/
def headerOf (h : HeaderFields) : Header :=
  ⟨h.target.toNat, h.underTol.toNat, h.overTol.toNat, h.ratio.toNat, h.ratioTol.toNat⟩

/-- SEGMENT's check of the end parameter (R25). -/
def paramInRange (kind : SegKind) (ending : EndCond) (p : Nat) : Bool :=
  match ending with
  | .volume => if kind = .syrup then p == 0 else 1 ≤ p && p ≤ 1000
  | .probe => p == 0
  | .pressureEq => 1 ≤ p && p ≤ 100
  | .pressureLow => p ≤ 1000
  | .angle => 1 ≤ p

/-- SEGMENT's check of a record against the ranges for its kind (R25). -/
def SegRecord.inRange (r : SegRecord) : Bool :=
  (match r.kind with
  | .fill | .trim =>
    1 ≤ r.aperture && r.aperture ≤ 15 && 1 ≤ r.step && r.step ≤ 15 && 1 ≤ r.interval && r.interval ≤ 255
  | .syrup => r.aperture == 0 && r.step == 0 && r.interval == 0 && r.ending == .volume
  | .purge | .pressurize | .settle | .snift =>
    r.aperture == 0 && r.step == 0 && r.interval == 0 && r.ending != .volume) &&
  paramInRange r.kind r.ending r.param && r.dwell ≤ 1023 && 1 ≤ r.deadline

/-- The record a SEGMENT carries, when every field is in its range for its kind (R25). -/
def recordOf (f : SegmentFields) : Option SegRecord :=
  match SegKind.ofCode f.kind.toNat, EndCond.ofCode f.ending.toNat with
  | some k, some e =>
    let r : SegRecord := ⟨k, f.aperture.toNat, f.step.toNat, f.interval.toNat, e, f.param.toNat, f.dwell.toNat,
      f.deadline.toNat⟩
    if r.inRange then some r else none
  | _, _ => none

/-- The calibration fields of a request (R43); trims are signed (R180). -/
def calibOf (f : CalibFields) : Calib :=
  ⟨f.liquidK.toNat, f.liquidTrim.toInt, f.syrupK.toNat, f.syrupTrim.toInt, f.overrun.toNat⟩

/-- The ranges of R43. -/
def Calib.inRange (c : Calib) : Bool :=
  500 ≤ c.liquidK && c.liquidK ≤ 20000 && -500 ≤ c.liquidTrim && c.liquidTrim ≤ 500 &&
  500 ≤ c.syrupK && c.syrupK ≤ 20000 && -500 ≤ c.syrupTrim && c.syrupTrim ≤ 500 && c.overrun ≤ 500

/-! ### STATUS frames (R183) -/

/-- A STATUS as read (R101). -/
structure StatusFrame where
  head      : Nat
  seq       : Nat
  obs       : Obs
  nodeFault : Bool
  deriving DecidableEq, Repr

/-- The fields of a STATUS at their offsets (R183); bits 4 to 7 of its flags are not read (notes/assumptions/34.md). -/
def statusAt (f : Frame) : StatusFrame :=
  let flags := byteAt f 8
  { head := (byteAt f 0).toNat
    seq := (byteAt f 1).toNat
    obs :=
      { pressure := (halfAt f 6).toNat
        probe := flags.getLsbD 0
        seated := flags.getLsbD 1
        valves := Valves.ofBytes (byteAt f 9) (byteAt f 10)
        cut := flags.getLsbD 2
        cutCounter := (halfAt f 11).toNat
        liquid := (halfAt f 2).toNat
        syrup := (halfAt f 4).toNat }
    nodeFault := flags.getLsbD 3 }

/-- The bytes of a cut arm in a COMMAND: meter and counter value, 0 with meter NONE (R183). -/
def armBytes (a : Option Arm) : List Byte :=
  match a with
  | some a => nat8 a.meter.code ++ nat16 a.value
  | none => [0, 0, 0]

/-- The COMMAND of R183. -/
def commandBytes (head seq : Nat) (v : Valves) (arm : Option Arm) : Frame :=
  sealBus (nat8 head ++ nat8 seq ++ [v.set] ++ nat8 v.l ++ armBytes arm)

end Sys2Proof.Machine
end

