-- ==== Sys2Proof/Machine/Flags.lean ====
section
/-! DEFINITION. Accessors of State and the derived flags: values the manual names that follow from the state held. -/

namespace Sys2Proof.Machine

/-! ### Heads and class records -/

def State.head (s : State) (h : HeadId) : Head := s.heads[h]

def State.setHead (s : State) (h : HeadId) (c : Head) : State := { s with heads := s.heads.set h c }

/-- Change one head context. -/
def State.updHead (s : State) (h : HeadId) (f : Head → Head) : State := s.setHead h (f (s.head h))

def State.slot (s : State) (j : SlotId) : Slot := s.store.slots[j]

def State.setSlot (s : State) (j : SlotId) (t : Slot) : State :=
  { s with store := { s.store with slots := s.store.slots.set j t } }

def State.record (s : State) (c : FaultClass) : ClassRecord := s.faults.records[c.row]

/-- Change one class record. -/
def State.updRecord (s : State) (c : FaultClass) (f : ClassRecord → ClassRecord) : State :=
  { s with faults := { s.faults with records := s.faults.records.set c.row (f (s.record c)) } }

def State.monitor (s : State) : MonitorName → Monitor
  | .pressure => s.faults.pressure
  | .temperature => s.faults.temperature

def State.setMonitor (s : State) (n : MonitorName) (m : Monitor) : State :=
  match n with
  | .pressure => { s with faults := { s.faults with pressure := m } }
  | .temperature => { s with faults := { s.faults with temperature := m } }

/-- Local heads in ascending order. -/
def allHeads : List HeadId := List.finRange 48

/-- The order in which the heads take an event common to them: those the arbiter lists, then the rest
(notes/assumptions/4.md). -/
def State.headOrder (s : State) : List HeadId :=
  let first := s.arbiter.heads.eraseDups
  first ++ allHeads.filter (fun h => !first.contains h)

/-- "Head n has station number station base + n." (R175) -/
def State.station (s : State) (h : HeadId) : Nat := s.management.stationBase + h.val

/-! ### Derived flags -/

/-- A reset is in progress (R177). -/
def State.inReset (s : State) : Bool := s.resets.powerOn || s.resets.pin || s.resets.ringActive

/-- The part is held in reset: the bypass of R161, which for RESET_PART begins when the REPLY has been formed. -/
def State.held (s : State) : Bool := s.inReset || s.resets.ringPending

/-- The members of the stop-cause set (R137). -/
def State.stopSet (s : State) : List FaultClass := FaultClass.all.filter fun c => (s.record c).inStop

def State.stopEmpty (s : State) : Bool := s.faults.records.toList.all fun r => !r.inStop

/-- "A part drives the stop line low while its stop-cause set is non-empty" (R140) and while a reset is in progress
(R139, section 9.5); between the REPLY to a RESET_PART and the beginning of its reset, by its stop-cause set alone
(notes/assumptions/29.md). -/
def State.drives (s : State) : Bool := !s.stopEmpty || s.inReset

/-- "New starts are barred while the record of any class has bars starts set." (R135) -/
def State.startsBarred (s : State) : Bool := s.faults.records.toList.any fun r => r.bars

/-- The number of heads in LOCKOUT (R142). -/
def State.lockoutCount (s : State) : Nat := s.heads.toList.countP fun c => c.state == .lockout

/-- The reject output is "active exactly while the pulse timer is running", and "while the part is held in reset, the
reject output is inactive" (R116, R161). -/
def State.rejectOutput (s : State) : Bool := s.discharge.pulse.isSome && !s.held

/-- The level of each state (R45); `keep` is the level held where the table names none. -/
def HeadState.level : HeadState → Nat
  | .aborting => 1
  | .forced => 2
  | .lockout => 3
  | _ => 0

/-- The heads a scan visits (R97) and a common event reaches (R15). -/
def Head.enrolled (c : Head) : Bool := c.state != .off

/-- The ACTIVE slot, if any (R33). -/
def State.activeSlot (s : State) : Option SlotId :=
  (List.finRange 8).find? fun j => (s.slot j).state == .active

/-- The mode of judging until the watchdog's next start is window mode (R146). -/
def State.windowMode (s : State) : Bool := 0 < s.faults.watchdog.lowerTaken

/-! ### Angles -/

/-- "(count − offset) mod CPR" (R14). -/
def cycleAngleAt (cpr count offset : Nat) : Nat := (count + cpr - offset % cpr) % cpr

/-- A head's cycle angle, while the carousel position is present and the head is not OFF (R14). -/
def State.cycleAngle (s : State) (h : HeadId) : Option Nat :=
  match s.tracker.pos, (s.head h).offset with
  | some p, some o => if (s.head h).enrolled then some (cycleAngleAt s.tracker.cpr p.count o) else none
  | _, _ => none

/-- The absolute position of a carousel position (00_scope.md). -/
def absolute (cpr : Nat) (p : Pos) : Nat := (p.rev * cpr + p.count) % (65536 * cpr)

/-- "a position a is reached at position b when (b − a) mod (65536 × CPR) is less than half of 65536 × CPR". -/
def reached (cpr a b : Nat) : Bool :=
  let m := 65536 * cpr
  (b + m - a % m) % m < m / 2

end Sys2Proof.Machine
end

