-- ==== Sys2Proof/Machine/Metering.lean ====
section
/-! DEFINITION. The Meter Unit's arithmetic on one head context (chapter 4), the pending dose record (R59) and the
snapshot (R149). -/

namespace Sys2Proof.Machine

/-! ### Conversions (R77) -/

/-- "V = floor(p × (10000 + t) / K + 1/2)"; "a larger result is held as 65535". -/
def volumeOf (k : Nat) (trim : Int) (p : Nat) : Nat :=
  min 65535 ((2 * p * (10000 + trim).toNat + k) / (2 * k))

/-- "p = floor(V × K / (10000 + t) + 1/2)". -/
def pulsesFor (k : Nat) (trim : Int) (v : Nat) : Nat :=
  let d := (10000 + trim).toNat
  (2 * v * k + d) / (2 * d)

/-- The liquid volume of the cycle (R88); 0 for a head with no calibration (notes/assumptions/27.md). -/
def Head.liquidVolume (c : Head) : Nat :=
  match c.calib with
  | some k => volumeOf k.liquidK k.liquidTrim c.liquidTotal
  | none => 0

/-- The syrup volume of the cycle (R88). -/
def Head.syrupVolume (c : Head) : Nat :=
  match c.calib with
  | some k => volumeOf k.syrupK k.syrupTrim c.syrupTotal
  | none => 0

/-! ### Cut values (R84 to R87) -/

/-- "VS* = floor(T × ratio / 1000)". -/
def Header.syrupTarget (h : Header) : Nat := h.target * h.ratio / 1000

/-- "VL* = T − VS*". -/
def Header.liquidTarget (h : Header) : Nat := h.target - h.syrupTarget

/-- "arm = (base + pulses(Vc)) mod 65536" (R84). -/
def armAt (base pulses : Nat) : Nat := (base + pulses) % 65536

/-- The cut arm of a VOLUME segment (R85 to R87), and for the final cut also the final cut volume and the estimate
used; `none` for a head without bases or calibration, which starts no segment (R50). -/
def Head.cutArm (c : Head) (w : Work) : Option (Arm × Option (Nat × Nat)) :=
  match c.bases, c.calib with
  | some b, some k =>
    if w.record.kind = .syrup then
      some (⟨.syrup, armAt b.syrup (pulsesFor k.syrupK k.syrupTrim w.header.syrupTarget)⟩, none)
    else if w.record.param < 1000 then
      let vc := w.header.liquidTarget * w.record.param / 1000
      some (⟨.liquid, armAt b.liquid (pulsesFor k.liquidK k.liquidTrim vc)⟩, none)
    else
      let vm := c.liquidVolume
      if (w.header.liquidTarget : Int) - c.overrun < vm then
        some (⟨.liquid, (c.lastObs.map (·.liquid)).getD b.liquid⟩, some (vm, c.overrun))
      else
        let vc := w.header.liquidTarget - c.overrun
        some (⟨.liquid, armAt b.liquid (pulsesFor k.liquidK k.liquidTrim vc)⟩, some (vc, c.overrun))
  | _, _ => none

/-! ### Verdict and learning (R89, R90) -/

/-- The verdict of R89, the first that holds. -/
def verdictOf (h : Header) (vl vs : Nat) : Verdict :=
  let total := vl + vs
  if total + h.underTol < h.target then .under
  else if h.target + h.overTol < total then .over
  else if 0 < h.ratio ∧
      (total = 0 ∨ h.ratioTol * total < ((1000 * vs : Int) - (h.ratio * total : Int)).natAbs) then .ratio
  else .good

/-- The learning window: "0 ≤ O ≤ 2 × E + 50 u" (R90). -/
def plausible (o : Int) (e : Nat) : Bool := 0 ≤ o && o ≤ 2 * (e : Int) + 50

/-- "E + trunc((O − E) / 2^w)", "clamped to 0–500 u" (R90). -/
def learned (w : Nat) (o : Int) (e : Nat) : Nat :=
  min 500 ((e : Int) + Int.tdiv (o - e) (2 ^ w : Nat)).toNat

/-- Learning at the end of the last segment (R90): the new estimate and the observed overrun, when all its conditions
hold; `vl` is the liquid volume used for the verdict. -/
def Head.learn (c : Head) (w vl : Nat) : Option (Nat × Nat) :=
  match c.meter.finalCut, c.meter.estimateUsed with
  | some cut, some e =>
    let o : Int := (vl : Int) - cut
    if c.meter.finalDone ∧ plausible o e then some (learned w o e, o.toNat) else none
  | _, _ => none

/-! ### Counting (R80 to R83) -/

/-- What metering one STATUS gives: the head and the faults found. -/
structure Metered where
  head       : Head
  liquidJump : Bool
  syrupJump  : Bool
  leak       : Bool
  deriving DecidableEq, Repr

/-- "(new counter − previous counter) mod 65536" (R80). -/
def increment (new old : Nat) : Nat := (new + 65536 - old) % 65536

/-- Admitted increments are added to the totals "while the head's meter bases are present" and the head is RUNNING or
holds a pending record (R82). -/
def Head.accumulates (c : Head) : Bool := c.bases.isSome && (c.state == .running || c.record.isSome)

/-- The situations of R83. -/
def Head.shouldBeDry (c : Head) : Bool :=
  match c.state with
  | .idle | .seating | .emptyPass | .done => true
  | .running => !c.meter.productStarted
  | _ => false

/-- Add admitted increments to the leak sum (R83); `added` says that at least one was admitted. -/
def Head.addLeak (limit : Nat) (c : Head) (added : Bool) (n : Nat) : Head × Bool :=
  if c.shouldBeDry ∧ added then
    let sum := min 65535 (c.meter.leakSum + n)
    let raise := limit < sum && !c.meter.leakRaised
    ({ c with meter := { c.meter with leakSum := sum, leakRaised := c.meter.leakRaised || raise } }, raise)
  else (c, false)

/-- Add admitted increments to the cycle pulse totals, each saturating at 262143 (R82). -/
def Head.addTotals (c : Head) (liquid syrup : Nat) : Head :=
  if c.accumulates then
    { c with
      liquidTotal := min 262143 (c.liquidTotal + liquid)
      syrupTotal := min 262143 (c.syrupTotal + syrup) }
  else c

/-- Steps 1 to 3 of R80 for one STATUS. -/
def Head.metered (m : MeterUnit) (c : Head) (o : Obs) : Metered :=
  match c.lastObs with
  | none => ⟨c, false, false, false⟩
  | some p =>
    let dl := increment o.liquid p.liquid
    let ds := increment o.syrup p.syrup
    let jl := decide (m.stepLimit < dl)
    let js := decide (m.stepLimit < ds)
    let al := if jl then 0 else dl
    let as := if js then 0 else ds
    let r := (c.addTotals al as).addLeak m.leakLimit (!jl || !js) (al + as)
    ⟨r.1, jl, js, r.2⟩

/-- "At each such beginning the Meter Unit clears the metering record of the head", its bases and its totals (R75). -/
def Head.beginMetering (c : Head) : Head :=
  { c with meter := .blank, bases := none, liquidTotal := 0, syrupTotal := 0 }

/-! ### The pending dose record (R59, R60) -/

/-- Create a pending record from the context as it stands, naming a pin; a record already pending is kept (R59). -/
def Head.withRecord (c : Head) (v : Verdict) (skip : Option SkipReason) (pin : Option Pin) : Head :=
  if c.record.isSome then c
  else
    { c with
      record := some
        { verdict := v
          skip := skip
          cycle := c.cycle
          pin := pin
          liquid := c.liquidVolume
          syrup := c.syrupVolume
          estimate := c.meter.estimateUsed
          observed := none
          fault := c.lastFault
          completed := c.segIndex } }

/-- "its liquid and syrup volume fields are recomputed from the cycle pulse totals" (R60). -/
def Head.refreshRecord (c : Head) : Head :=
  { c with record := c.record.map fun r => { r with liquid := c.liquidVolume, syrup := c.syrupVolume } }

/-! ### Snapshots (R149) -/

/-- The image of a head context, with the class and cause of the fault (R149). -/
def Head.snapshot (c : Head) (station : Nat) (cause : Cause) : Snapshot where
  station := station
  state := c.state
  level := c.level
  cycle := c.cycle
  slot := c.pin.map (·.slot)
  gen := c.pin.map (·.gen)
  segIndex := c.segIndex
  phase := c.phase
  valves := c.valves
  arm := c.arm
  liquid := c.liquidVolume
  syrup := c.syrupVolume
  lastObs := c.lastObs
  cause := cause

end Sys2Proof.Machine
end

