-- ==== Sys2Proof/Machine/Reports.lean ====
section
/-! DEFINITION. The Report Queue (chapter 8) and the payloads of its reports (R182). -/

namespace Sys2Proof.Machine

/-! ### The queue -/

/-- "inserted after every report of equal or higher priority and before the first report of lower priority" (R164). -/
def insertReport (r : Report) : List Report → List Report
  | [] => [r]
  | x :: xs => if r.prio ≤ x.prio then x :: insertReport r xs else r :: x :: xs

/-- The lowest priority present; above every priority when there is none (R165). -/
def lowestPrio (q : List Report) : Nat := q.foldr (fun r m => min r.prio m) 4

/-- Remove the newest report of a priority (R165). -/
def evict (p : Nat) (q : List Report) : List Report := (q.reverse.eraseP fun r => r.prio == p).reverse

/-- Place a report that has been created (R164, R165). -/
def ReportQueue.place (q : ReportQueue) (r : Report) : ReportQueue :=
  if q.queue.length < Config.queueSize then { q with queue := insertReport r q.queue }
  else if lowestPrio q.queue < r.prio then
    { q with queue := insertReport r (evict (lowestPrio q.queue) q.queue), dropped := true }
  else { q with dropped := true }

/-- The priority of a report kind as it stands (R163). -/
def ReportQueue.prioOf (q : ReportQueue) (k : ReportKind) : Nat := q.prios[k.row]

/-- A block hands a report over: with priority 0 it is not created (R163). -/
def ReportQueue.create (q : ReportQueue) (b : ReportBody) : ReportQueue :=
  if q.prioOf b.kind = 0 then q else q.place ⟨q.prioOf b.kind, b⟩

/-- Hand over a report other than a DOSE report. -/
def State.report (s : State) (b : ReportBody) : State := { s with reports := s.reports.create b }

/-- The number of reports held at a priority (R167). -/
def ReportQueue.held (q : ReportQueue) (p : Nat) : Nat := q.queue.countP fun r => r.prio == p

/-! ### Payloads (R182) -/

/-- The DOSE payload. -/
def dosePayload (d : DoseReport) : List Byte :=
  let r := d.record
  presence [r.skip.isSome, r.pin.isSome, r.estimate.isSome, r.observed.isSome, r.fault.isSome] ++
  nat8 r.verdict.code ++ optional 1 (fun k => nat8 k.code) r.skip ++ nat8 d.station ++ nat16 r.cycle ++
  optional 4 (fun p : Pin => nat8 p.slot ++ nat8 p.gen ++ nat16 p.profile) r.pin ++
  nat16 r.liquid ++ nat16 r.syrup ++ optional 2 nat16 r.estimate ++ optional 2 nat16 r.observed ++
  optional 2 (fun c : Cause => nat8 c.cls.code ++ nat8 c.code) r.fault ++ nat8 r.completed ++
  nat16 d.pos.rev ++ nat16 d.pos.count ++ nat16 d.seq

/-- The FAULT payload. -/
def faultPayload (f : FaultReport) : List Byte :=
  presence [f.station.isSome, f.slot.isSome] ++ nat8 f.cause.cls.code ++ nat8 f.cause.code ++
  flag8 f.cause.headScoped ++ optional 1 nat8 f.station ++ optional 1 nat8 f.slot ++ nat8 f.action.code ++
  flag8 f.condition

/-- The PROFILE payload. -/
def profilePayload (p : ProfileReport) : List Byte :=
  presence [p.index.isSome] ++ nat8 p.slot ++ nat8 p.gen ++ nat16 p.profile ++ nat8 p.result.code ++
  optional 1 nat8 p.index

/-- The payload of a report; the absent position of a TRACK report is written 0 (R180). -/
def ReportBody.payload : ReportBody → List Byte
  | .dose d => dosePayload d
  | .fault f => faultPayload f
  | .profile p => profilePayload p
  | .mode left entered cause =>
    nat8 left.code ++ nat8 entered.code ++
      (match cause with | some c => nat8 c.code | none => nat8 255)
  | .track change state pos =>
    nat8 change.code ++ nat8 state.code ++
      optional 4 (fun p : Pos => nat16 p.rev ++ nat16 p.count) pos

/-! ### Ring-out -/

/-- Send a frame on from ring-out (R152). -/
def State.sendRing (s : State) (f : Frame) : State := { s with ringOut := s.ringOut ++ [f] }

/-- Fill a carrier with the report at the head of the queue (R157). -/
def State.fillCarrier (s : State) (r : Report) (rest : List Report) : State :=
  let f := reportBytes (BitVec.ofNat 8 s.management.address) (BitVec.ofNat 8 r.body.kind.code)
    (BitVec.ofNat 16 s.ring.transmit) (if s.reports.dropped then 1 else 0) (pad 27 r.body.payload)
  { s with
    reports := { s.reports with queue := rest, dropped := false }
    ring := { s.ring with transmit := (s.ring.transmit + 1) % 65536 }
    ringOut := s.ringOut ++ [f] }

end Sys2Proof.Machine
end

