-- ==== Sys2Proof/Machine/Ops.lean ====
section
/-! DEFINITION. The shared operations on the store's claims, the valve bus and a head's state. -/

namespace Sys2Proof.Machine

/-! ### Pin and release claims (R35 to R37) -/

/-- A release claim on a slot: a RETIRING or CORRUPT slot whose count falls to 0 becomes FREE (R35, R37). -/
def Slot.release (t : Slot) : Slot :=
  if t.users - 1 = 0 ∧ (t.state = .retiring ∨ t.state = .corrupt) then .freed t.gen
  else { t with users := t.users - 1 }

/-- A pin claim: the ACTIVE slot's user count rises by 1 and the head is handed slot, generation and profile id
(R36). -/
def State.pinClaim (s : State) : Option (Pin × State) :=
  match s.activeSlot with
  | some j =>
    let t := s.slot j
    some (⟨j, t.gen, t.profile.getD 0⟩, s.setSlot j { t with users := t.users + 1 })
  | none => none

/-- A head releases its pin, if it holds one, and forgets it (R37). -/
def State.releasePin (s : State) (h : HeadId) : State :=
  match (s.head h).pin with
  | some p => (s.setSlot p.slot (s.slot p.slot).release).updHead h fun c => { c with pin := none }
  | none => s

/-! ### The valve bus (chapter 5) -/

/-- The heads in scan order after the scan position (R97). -/
def scanOrder (p : Option HeadId) : List HeadId :=
  match p with
  | some p => allHeads.filter (fun h => p < h) ++ allHeads.filter (fun h => h ≤ p)
  | none => allHeads

/-- The ramp-complete note of a COMMAND (R95). -/
def Head.rampDone (c : Head) : Bool :=
  c.valves.l == 0 || (match c.work with | some w => c.valves.l == w.record.aperture | none => false)

/-- A COMMAND sent to the head starts confirm tracking (R107). -/
def Head.startsTracking (c : Head) : Bool :=
  c.state != .lockout && (c.scan.forcedUnsent || c.scan.lastSent != some c.valves)

/-- The scanner's fields of a head once a COMMAND has been sent to it (R99, R107). -/
def Head.sent (c : Head) (window : Nat) : Head :=
  { c with
    scan := { c.scan with
      seq := (c.scan.seq + 1) % 16
      lastSent := some c.valves
      confirm := if c.startsTracking then some window else c.scan.confirm
      forcedUnsent := false } }

/-- Send an exchange to a head: the COMMAND is built from the context as it stands (R99), the in-flight record is
made and the reply timer started (R95, R102). -/
def State.sendCommand (s : State) (h : HeadId) (urgent : Bool) : State :=
  let c := s.head h
  let seq := (c.scan.seq + 1) % 16
  let s := s.setHead h (c.sent s.scanner.confirmWindow)
  { s with
    scanner := { s.scanner with
      inFlight := some
        { head := h, seq := seq, valves := c.valves, arm := c.arm, rampDone := c.rampDone, predates := false
          discard := false, urgent := urgent, timer := s.scanner.replyTimeout } }
    busOut := s.busOut ++ [commandBytes h seq c.valves c.arm] }

/-- The choice of the next exchange, with none in flight (R97). -/
def State.chooseNext (s : State) : State :=
  match s.scanner.urgent with
  | h :: rest => ({ s with scanner := { s.scanner with urgent := rest } } : State).sendCommand h true
  | [] =>
    match (scanOrder s.scanner.scanPos).find? fun h => (s.head h).enrolled with
    | some h => ({ s with scanner := { s.scanner with scanPos := some h } } : State).sendCommand h false
    | none => s

/-- An urgent post (R98); on an idle bus the choice is made at once. -/
def State.post (s : State) (h : HeadId) : State :=
  if (s.head h).enrolled ∧ h ∉ s.scanner.urgent then
    let s := { s with scanner := { s.scanner with urgent := s.scanner.urgent ++ [h] } }
    if s.scanner.inFlight.isNone then s.chooseNext else s
  else s

/-! ### Head states (R44, R45) -/

/-- Mark the in-flight record of a head (R95). -/
def State.markInFlight (s : State) (h : HeadId) (f : InFlight → InFlight) : State :=
  { s with
    scanner := { s.scanner with
      inFlight := s.scanner.inFlight.map fun x => if x.head = h then f x else x } }

/-- A head's state and its level (R45); a change sets the predates mark of its exchange in flight (R95). -/
def State.changeState (s : State) (h : HeadId) (st : HeadState) : State :=
  let changed := (s.head h).state != st
  let s := s.updHead h fun c => { c with state := st, level := st.level }
  if changed then s.markInFlight h fun x => { x with predates := true } else s

/-- The context of a head in OFF: the values of R44 and R75 with its static fields, its command sequence, its last
sent valves and its node fault seen kept (R72, R96). -/
def Head.offContext (c : Head) : Head :=
  { Head.blank with
    offset := c.offset
    calib := c.calib
    scan := { c.scan with miss := 0, confirm := none, forcedUnsent := false } }

/-- Entry to OFF (R72, R111). -/
def State.enterOff (s : State) (h : HeadId) : State :=
  let s := s.changeState h .off
  let s := s.updHead h Head.offContext
  let s := { s with scanner := { s.scanner with urgent := s.scanner.urgent.filter fun x => x != h } }
  s.markInFlight h fun x => { x with discard := true }

/-- What leaving a segment makes absent: phase, start angle, ramp position, and what was read for it (R62). -/
def Head.withoutSegment (c : Head) : Head :=
  { c with phase := none, startAngle := none, rampPos := none, work := none, deadlineMet := false }

/-- The command of ABORTING, FORCED and LOCKOUT, with cut arm NONE (R62, R64, R66). -/
def Head.vented (c : Head) : Head := { c.withoutSegment with valves := .venting, arm := none }

/-- Entry to ABORTING from RUNNING (R62); the fault that caused it is already the last fault of the cycle. -/
def State.enterAborting (s : State) (h : HeadId) : State :=
  let pin := (s.head h).pin
  let s := s.changeState h .aborting
  let s := s.updHead h Head.vented
  let s := s.releasePin h
  let s := s.updHead h fun c => c.withRecord .aborted none pin
  let s := s.updHead h fun c => { c with ventTimer := some s.sequencer.ventLimit }
  s.post h

/-- Entry to FORCED (R64). -/
def State.enterForced (s : State) (h : HeadId) : State :=
  let s := s.changeState h .forced
  let s := s.updHead h fun c =>
    { c.vented with ventTimer := none, scan := { c.scan with forcedUnsent := true } }
  s.post h

/-- Entry to LOCKOUT (R66, R109). -/
def State.enterLockout (s : State) (h : HeadId) : State :=
  let s := s.changeState h .lockout
  let s := s.updHead h fun c =>
    { c.vented with ventTimer := none, scan := { c.scan with miss := 0, confirm := none } }
  s.post h

/-- Leave ABORTING, FORCED (R65) or LOCKOUT (R73): rest pattern, then DONE with a pending record, OFF with
withdraw-pending set, IDLE otherwise; an urgent exchange is posted, which OFF does not keep (R72). -/
def State.leaveSafeClose (s : State) (h : HeadId) : State :=
  let s := s.updHead h fun c => { c with ventTimer := none, valves := .rest }
  let c := s.head h
  if c.record.isSome then (s.changeState h .done).post h
  else if c.withdraw then s.enterOff h
  else (s.changeState h .idle).post h

/-- A SEATING head gives its cycle up: pin released, EMPTY_PASS, a record with the pin it held (R49, R67, R69, R72). -/
def State.giveUpSeating (s : State) (h : HeadId) (v : Verdict) (skip : Option SkipReason) : State :=
  let pin := (s.head h).pin
  let s := s.releasePin h
  let s := s.changeState h .emptyPass
  s.updHead h fun c => c.withRecord v skip pin

/-- A push to the snapshot stack (R149). -/
def State.pushSnapshot (s : State) (h : HeadId) (cause : Cause) : State :=
  if s.faults.snapshots.length < Config.snapshotSize then
    { s with
      faults := { s.faults with snapshots := (s.head h).snapshot (s.station h) cause :: s.faults.snapshots } }
  else { s with faults := { s.faults with overflow := true } }

end Sys2Proof.Machine
end

