-- ==== Sys2Proof/Machine/FaultUnit.lean ====
section
/-! DEFINITION. The Fault Unit: raising a fault and applying its action (R134 to R137, R142), entry to SAFE (R130), the
part abort (R69), context parity (R70) and the effect of a head-scoped fault on its head (R67, R68). -/

namespace Sys2Proof.Machine

/-- Latch and report a raise, the first two steps of R134; the slot is that of PROFILE_PARITY. -/
def State.latchReport (s : State) (cause : Cause) (station slot : Option Nat) : State :=
  let s := s.updRecord cause.cls fun r =>
    { r with latched := true, lastCause := some cause, lastStation := station }
  let r := s.record cause.cls
  s.report (.fault ⟨cause, station, slot, r.action, r.condition⟩)

/-- Add a class to the stop-cause set (R137); when the part begins to drive the stop line, the EXTERNAL condition is
removed (R140). -/
def State.addStop (s : State) (c : FaultClass) : State :=
  let begins := s.stopEmpty
  let s := s.updRecord c fun r => { r with inStop := true }
  if begins then s.updRecord .external fun r => { r with condition := false } else s

/-- The checked fields of a context as rewritten with fresh parity (R70), with its metering record cleared (R75); the
commanded valves are those of the state entered, set by the entry. -/
def Head.rewritten (c : Head) : Head :=
  { c.withoutSegment with
    segIndex := 0
    lastClosed := none
    bases := none
    lastObs := none
    arm := none
    liquidTotal := 0
    syrupTotal := 0
    overrun := (c.calib.map (·.overrun)).getD 0
    meter := .blank
    clean := true }

/-- The records and pin of a context parity error, by state (R70). -/
def State.parityRecord (s : State) (h : HeadId) : State :=
  let c := s.head h
  match c.state with
  | .running => (s.releasePin h).updHead h fun d => d.withRecord .aborted none c.pin
  | .seating => (s.releasePin h).updHead h fun d => d.withRecord .skipped (some .headHold) c.pin
  | _ => s

/-- A context parity error up to, and without, its part-level effects other than the stop-cause set (R70).
A head in LOCKOUT is rewritten and raises nothing; where the rewrite changes its commanded valves or cut arm, it posts
an urgent exchange (R45). A head in OFF is not checked. -/
def State.parityCore (s : State) (h : HeadId) : State :=
  match (s.head h).state with
  | .off => s
  | .lockout =>
    let read := s.head h
    let s := s.updHead h fun c => { c.rewritten with valves := .venting }
    if read.valves = .venting ∧ read.arm = none then s else s.post h
  | st =>
    let act := (s.record .table).action
    let s := s.latchReport .contextParity (some (s.station h)) none
    let s := s.pushSnapshot h .contextParity
    let s := s.updHead h fun c =>
      { c.rewritten with lastFault := some .contextParity, hold := c.hold || act == .hold }
    let s := s.parityRecord h
    let s := if st = .forced then s.enterLockout h else s.enterForced h
    if act = .stop then s.addStop .table else s

/-- The part abort reaching one head (R69): a RUNNING head aborts, a SEATING head skips; `cause` is the class and cause
handed with it. -/
def State.abortHead (s : State) (h : HeadId) (skip : SkipReason) (cause : Option Cause) : State :=
  match (s.head h).state with
  | .running => (s.updHead h fun c => { c with lastFault := cause.or c.lastFault }).enterAborting h
  | .seating => (s.updHead h fun c => { c with lastFault := cause.or c.lastFault }).giveUpSeating h .skipped skip
  | _ => s

/-- The part abort changes this head (R69). -/
def Head.abortable (c : Head) : Bool := c.state == .running || c.state == .seating

/-- The part abort on entry to SAFE (R130). -/
def State.safeAbort (s : State) (cause : Option Cause) : State :=
  s.headOrder.foldl
    (fun s h =>
      if (s.head h).abortable then
        if (s.head h).clean then s.abortHead h .mode cause else s.parityCore h
      else s) s

/-- Entry to SAFE (R130); `cause` is absent for SET_MODE SAFE. In SAFE nothing changes. -/
def State.enterSafe (s : State) (cause : Option Cause) : State :=
  if s.faults.mode = .safe then s
  else
    let left := s.faults.mode
    let s := { s with faults := { s.faults with mode := .safe } }
    let s := s.safeAbort cause
    s.report (.mode left .safe (cause.map Cause.cls))

/-- When the lockout count stands at the limit with the condition absent: the condition is marked, LOCKOUT LIMIT is
raised, and the part enters SAFE (R142). -/
def State.checkLockout (s : State) : State :=
  if s.faults.lockoutLimit ≤ s.lockoutCount ∧ !(s.record .lockout).condition then
    let s := s.updRecord .lockout fun r => { r with condition := true }
    let s := s.latchReport .lockoutLimit none none
    (s.addStop .lockout).enterSafe (some .lockoutLimit)
  else s

/-- A context parity error with all its effects (R70). -/
def State.contextParity (s : State) (h : HeadId) : State :=
  let stop := (s.head h).state != .off && (s.head h).state != .lockout && (s.record .table).action == .stop
  let s := s.parityCore h
  let s := if stop then s.enterSafe (some .contextParity) else s
  s.checkLockout

/-- An event a head takes: nothing in OFF; with a parity error the event's normal effect does not happen (R70). -/
def State.headEvent (s : State) (h : HeadId) (effect : State → State) : State :=
  if (s.head h).state = .off then s
  else if (s.head h).clean then effect s
  else s.contextParity h

/-- The part abort of a part-scoped HALT (R69, R135). -/
def State.haltAbort (s : State) (cause : Cause) : State :=
  s.headOrder.foldl
    (fun s h =>
      if (s.head h).abortable then s.headEvent h fun s => s.abortHead h .hold (some cause) else s) s

/-- A part-scoped raise (R134, R135): latch, report, act. -/
def State.raisePart (s : State) (cause : Cause) (station slot : Option Nat) : State :=
  let act := (s.record cause.cls).action
  let s := s.latchReport cause station slot
  match act with
  | .note => s
  | .hold => s.updRecord cause.cls fun r => { r with bars := true }
  | .halt => (s.updRecord cause.cls fun r => { r with bars := true }).haltAbort cause
  | .stop => (if cause.cls = .external then s else s.addStop cause.cls).enterSafe (some cause)

/-- A fault's action moves its head down the safe-close sequence (R67, R68). -/
def escalates (st : HeadState) (cause : Cause) (act : Action) : Bool :=
  act == .halt || act == .stop ||
  ((cause.cls == .valve || cause.cls == .comm) && (st == .aborting || st == .forced)) ||
  (cause == .profileLost && st == .running)

/-- The effect of a head-scoped fault on its head (R67, R68). -/
def State.headAction (s : State) (h : HeadId) (cause : Cause) (act : Action) : State :=
  let s := if act = .hold then s.updHead h fun c => { c with hold := true } else s
  let st := (s.head h).state
  if escalates st cause act then
    match st with
    | .running => (s.pushSnapshot h cause).enterAborting h
    | .seating => (s.pushSnapshot h cause).giveUpSeating h .skipped (some .headHold)
    | .aborting => (s.pushSnapshot h cause).enterForced h
    | .forced => (s.pushSnapshot h cause).enterLockout h
    | .idle | .done | .emptyPass => s.updHead h fun c => { c with hold := true }
    | .off | .lockout => s
  else s

/-- The part-level effects of a head-scoped raise once its head has taken it (R136, R142). -/
def State.afterHeadRaise (s : State) (cause : Cause) (act : Action) : State :=
  (if act = .stop then (s.addStop cause.cls).enterSafe (some cause) else s).checkLockout

/-- Latch and report a head-scoped raise, and set the head's last fault of the cycle (R44, R134). -/
def State.takeHeadRaise (s : State) (h : HeadId) (cause : Cause) : State :=
  (s.latchReport cause (some (s.station h)) none).updHead h fun c => { c with lastFault := some cause }

/-- A head-scoped raise (R134, R136); "A head-scoped raise that finds its head in OFF or LOCKOUT is discarded". -/
def State.raiseHead (s : State) (h : HeadId) (cause : Cause) : State :=
  if (s.head h).state = .off ∨ (s.head h).state = .lockout then s
  else
    let act := (s.record cause.cls).action
    let s := s.takeHeadRaise h cause
    let s := if (s.head h).clean then s.headAction h cause act else s.contextParity h
    s.afterHeadRaise cause act

end Sys2Proof.Machine
end

