-- ==== Sys2Proof/Machine/DischargeTracker.lean ====
section
/-! DEFINITION. The Discharge Tracker (chapter 6), and the emission of a DOSE report (R60, R166). -/

namespace Sys2Proof.Machine

/-- "due = (revolution × CPR + count + G) mod (65536 × CPR)" (R119). -/
def dueAt (cpr gate : Nat) (p : Pos) : Nat := (p.rev * cpr + p.count + gate) % (65536 * cpr)

/-- "inserted after every entry whose due position is reached at the new entry's due position, and before the first
entry whose due position is not" (R121); where the two disagree, before the first that is not
(notes/assumptions/31.md). -/
def insertEntry (cpr : Nat) (e : RejectEntry) : List RejectEntry → List RejectEntry
  | [] => [e]
  | x :: xs => if reached cpr x.due e.due then x :: insertEntry cpr e xs else e :: x :: xs

/-- Verdicts whose bottle is rejected (R119). -/
def Verdict.rejected : Verdict → Bool
  | .good | .empty => false
  | _ => true

/-- The last dose sequence taken from a source (R116). -/
def Discharge.last (d : Discharge) (source : Fin 15) : Option Nat := d.lastSeq[source]

/-- The judgement of R118 is a duplicate. -/
def Discharge.duplicate (d : Discharge) (source : Fin 15) (seq : Nat) : Bool :=
  d.schedule.any (fun e => e.source == source.val && e.seq == seq) || d.last source == some seq

/-- The judgement of R118 is a gap, for a report that is no duplicate. -/
def Discharge.gap (d : Discharge) (source : Fin 15) (seq : Nat) : Bool :=
  match d.last source with
  | some l => seq != (l + 1) % 65536
  | none => false

/-- "The carousel position is present, and the due position is reached at it" (R120). -/
def State.late (s : State) (due : Nat) : Bool :=
  match s.tracker.pos with
  | some p => reached s.tracker.cpr due (absolute s.tracker.cpr p)
  | none => false

/-- The judgements of a report with a due position (R120, R121). -/
def State.schedule (s : State) (e : RejectEntry) : State :=
  if s.late e.due then s.raisePart .rejectLate (some e.station) none
  else if Config.scheduleSize ≤ s.discharge.schedule.length then s.raisePart .rejectFull (some e.station) none
  else
    { s with
      discharge := { s.discharge with schedule := insertEntry s.tracker.cpr e s.discharge.schedule } }

/-- Take a DOSE report into the tracker of a discharge master (R118 to R121). -/
def State.takeDose (s : State) (source : Fin 15) (seq station cycle : Nat) (verdict : Verdict) (pos : Pos) : State :=
  if s.discharge.duplicate source seq then s
  else
    let s := if s.discharge.gap source seq then s.raisePart .rejectGap (some station) none else s
    let s := { s with
      discharge := { s.discharge with lastSeq := s.discharge.lastSeq.set source (some seq) } }
    if verdict.rejected then
      s.schedule
        { source := source, seq := seq, station := station, cycle := cycle, verdict := verdict, pos := pos
          due := dueAt s.tracker.cpr s.discharge.gate pos }
    else s

/-- The entries of a schedule that a position leaves, and how many it removes (R122). -/
def dueSplit (cpr at_ : Nat) : List RejectEntry → Nat × List RejectEntry
  | [] => (0, [])
  | x :: xs => if reached cpr x.due at_ then ((dueSplit cpr at_ xs).1 + 1, (dueSplit cpr at_ xs).2) else (0, x :: xs)

/-- The due test of a new carousel position (R122). -/
def State.dueTest (s : State) (p : Pos) : State :=
  let r := dueSplit s.tracker.cpr (absolute s.tracker.cpr p) s.discharge.schedule
  { s with
    discharge := { s.discharge with
      schedule := r.2
      made := (s.discharge.made + r.1) % 65536
      pulse := if 0 < r.1 then some s.discharge.pulseWidth else s.discharge.pulse } }

/-- Empty the schedule and the source sequence table and stop the pulse (R115, R125). -/
def Discharge.emptied (d : Discharge) : Discharge :=
  { d with schedule := [], lastSeq := Vector.replicate 15 none, pulse := none }

/-! ### Emission -/

/-- The master takes its own DOSE report at its creation (R117). -/
def State.takeOwn (s : State) (d : DoseReport) : State :=
  if h : s.discharge.master ∧ s.management.address < 15 then
    s.takeDose ⟨s.management.address, h.2⟩ d.seq d.station d.record.cycle d.record.verdict d.pos
  else s

/-- A DOSE report is created with the present dose sequence (R163, R166), placed in the queue, and on the discharge
master taken by the tracker; the order of the two is the arbiter's (notes/assumptions/4.md). -/
def State.createDose (s : State) (r : DoseRecord) (station : Nat) (pos : Pos) : State :=
  let prio := s.reports.prioOf .dose
  if prio = 0 then s
  else
    let d : DoseReport := ⟨r, station, pos, s.reports.doseSeq⟩
    let s := { s with reports := { s.reports with doseSeq := (s.reports.doseSeq + 1) % 65536 } }
    let place := fun s : State => { s with reports := s.reports.place ⟨prio, .dose d⟩ }
    if s.arbiter.trackerFirst then place (s.takeOwn d) else (place s).takeOwn d

/-- A head emits its pending record with a discharge position (R60). -/
def State.emit (s : State) (h : HeadId) (pos : Pos) : State :=
  match (s.head h).record with
  | some r => (s.createDose r (s.station h) pos).updHead h fun c => { c with record := none }
  | none => s

end Sys2Proof.Machine
end

