-- ==== Sys2Proof/Machine/Cycle.lean ====
section
/-! DEFINITION. The crossings of Θs, Θd and the infeed (R46, R47, R49, R61). -/

namespace Sys2Proof.Machine

/-- The crossing of Θs (R49). -/
def State.seatWindowEnd (s : State) (h : HeadId) : State :=
  if (s.head h).state = .seating then s.giveUpSeating h .empty none else s

/-- A head found RUNNING at its discharge crossing (R61), whatever the class action; the hold flag is set by a HOLD
(R68), and the part-level effects follow (R132). -/
def State.forcedDischarge (s : State) (h : HeadId) (pos : Pos) : State :=
  let act := (s.record .deadline).action
  let s := s.takeHeadRaise h .deadlineDischarge
  let s := s.pushSnapshot h .deadlineDischarge
  let s := s.updHead h fun c => { c with hold := c.hold || act == .hold }
  let pin := (s.head h).pin
  let s := (s.releasePin h).enterForced h
  let s := s.updHead h fun c => c.withRecord .aborted none pin
  let s := s.emit h pos
  s.afterHeadRaise .deadlineDischarge act

/-- The discharge of a head in DONE or EMPTY_PASS (R61). -/
def State.rideOut (s : State) (h : HeadId) (pos : Pos) : State :=
  let s := s.emit h pos
  if (s.head h).withdraw then s.enterOff h else s.changeState h .idle

/-- The discharge crossing, by state (R61). -/
def State.dischargeCrossing (s : State) (h : HeadId) (pos : Pos) : State :=
  match (s.head h).state with
  | .done | .emptyPass => s.rideOut h pos
  | .aborting | .forced | .lockout => s.emit h pos
  | .seating => (s.seatWindowEnd h).rideOut h pos
  | .running => s.forcedDischarge h pos
  | .idle | .off => s

/-- The cycle fields cleared when a head begins a cycle (R46), with its metering record (R75). -/
def Head.beginCycle (c : Head) : Head :=
  { c.withoutSegment.beginMetering with
    cycle := (c.cycle + 1) % 65536
    segIndex := 0
    lastClosed := none
    arm := none }

/-- The skip reason of R46 that precedes the pin claim, the first that holds. -/
def State.skipReason (s : State) (h : HeadId) : Option SkipReason :=
  if s.startsBarred then some .hold
  else if (s.head h).hold then some .headHold
  else if (s.head h).withdraw then some .withdraw
  else none

/-- An IDLE head skips its cycle (R46). -/
def State.skipCycle (s : State) (h : HeadId) (r : SkipReason) : State :=
  (s.changeState h .emptyPass).updHead h fun c => c.withRecord .skipped (some r) none

/-- The infeed crossing of an IDLE head in PRODUCTION (R46). -/
def State.beginCycle (s : State) (h : HeadId) : State :=
  let s := s.updHead h Head.beginCycle
  match s.skipReason h with
  | some r => s.skipCycle h r
  | none =>
    match s.pinClaim with
    | some (pin, s) => (s.changeState h .seating).updHead h fun c => { c with pin := some pin }
    | none => s.skipCycle h .noProfile

/-- The infeed crossing of a head in ABORTING, FORCED or LOCKOUT in PRODUCTION (R47): a new record begins a metering
cycle (R75), an earlier one is kept. -/
def Head.passInfeed (c : Head) (v : Verdict) : Head :=
  let c := { c with cycle := (c.cycle + 1) % 65536 }
  if c.record.isSome then c else c.beginMetering.withRecord v none none

/-- The infeed crossing proper; the last fault of the cycle is cleared in every mode (R44). -/
def State.atInfeed (s : State) (h : HeadId) : State :=
  let s := s.updHead h fun c => { c with lastFault := none }
  if s.faults.mode = .production then
    match (s.head h).state with
    | .idle => s.beginCycle h
    | .aborting | .forced => s.updHead h fun c => c.passInfeed .skipped
    | .lockout => s.updHead h fun c => c.passInfeed .locked
    | _ => s
  else s

/-- The infeed crossing; a head that missed its Θs or Θd crossing takes both first at this angle (R47). No start test
follows the Θs so taken by a RUNNING head (notes/assumptions/37.md). -/
def State.infeedCrossing (s : State) (h : HeadId) (pos : Pos) : State :=
  match (s.head h).state with
  | .seating | .running | .done | .emptyPass => ((s.seatWindowEnd h).dischargeCrossing h pos).atInfeed h
  | _ => s.atInfeed h

end Sys2Proof.Machine
end

