-- ==== Sys2Proof/Machine/Segments.lean ====
section
/-! DEFINITION. Regions, guards and gaps (R18 to R21), and the segments of a RUNNING head (R26, R38, R40, R50 to R57). -/

namespace Sys2Proof.Machine

/-! ### The zone map -/

/-- "A valid row covers the cycle angles θ with start ≤ θ < end." (R18) -/
def ZoneRow.covers (r : ZoneRow) (θ : Nat) : Bool := r.valid && r.start ≤ θ && θ < r.stop

/-- The valid row that covers an angle; none in the open arc (R18). -/
def ZoneMap.region (z : ZoneMap) (θ : Nat) : Option ZoneRow := z.rows.toList.find? fun r => r.covers θ

/-- A permitted set holds a kind: "bit n − 1 is 1 when the segment kind of code n is permitted" (R180). -/
def permittedIn (set : BitVec 7) (k : SegKind) : Bool := set.getLsbD (k.code - 1)

/-- The region at an angle permits a kind (R20). -/
def ZoneMap.permits (z : ZoneMap) (θ : Nat) (k : SegKind) : Bool :=
  match z.region θ with
  | some r => permittedIn r.permitted k
  | none => k == .settle

/-- The entry guard at an angle is satisfied (R20). -/
def ZoneMap.guardMet (z : ZoneMap) (θ : Nat) : Bool :=
  match z.region θ with
  | some r => r.start + r.guard ≤ θ
  | none => true

/-- The changeover gap of the region at an angle (R18, R21). -/
def ZoneMap.gapAt (z : ZoneMap) (θ : Nat) : Nat :=
  match z.region θ with
  | some r => r.gap
  | none => z.baseGap

/-- The principal valve of a kind (R21). -/
def SegKind.principal : SegKind → Option Valve
  | .purge | .snift => some .v
  | .pressurize => some .g
  | .syrup => some .s
  | .fill | .trim => some .l
  | .settle => none

/-- The changeover gap allows a kind to start at an angle (R21). -/
def ZoneMap.gapMet (z : ZoneMap) (closed : Option (Nat × Valve)) (k : SegKind) (θ : Nat) : Bool :=
  match k.principal, closed with
  | some own, some (a, valve) => own == valve || a + z.gapAt a ≤ θ
  | _, _ => true

/-! ### Starting a segment -/

/-- A liquid segment: FILL or TRIM. -/
def SegKind.fills (k : SegKind) : Bool := k == .fill || k == .trim

/-- A product segment: SYRUP, FILL or TRIM (R55, R83). -/
def SegKind.product (k : SegKind) : Bool := k == .syrup || k.fills

/-- The valve pattern of a kind (R26), with L given. -/
def SegKind.pattern (k : SegKind) (l : Nat) : Valves :=
  match k with
  | .purge => ⟨true, false, 0, true⟩
  | .pressurize => ⟨true, false, 0, false⟩
  | .syrup => ⟨true, true, 0, false⟩
  | .fill | .trim => ⟨true, false, l, false⟩
  | .settle => ⟨false, false, 0, false⟩
  | .snift => ⟨false, false, 0, true⟩

/-- The metering record at a segment start: product started (R83), and for the final cut its volume and the estimate
used (R87). -/
def MeterRecord.started (m : MeterRecord) (k : SegKind) (final : Option (Nat × Nat)) : MeterRecord :=
  let m := { m with productStarted := m.productStarted || k.product }
  match final with
  | some (v, e) => { m with finalCut := some v, estimateUsed := some e }
  | none => m

/-- A segment starts (R51); the exchange is posted by the caller. -/
def Head.startSegment (c : Head) (w : Work) (θ : Nat) : Head :=
  let cut := if w.record.ending = .volume then c.cutArm w else none
  { c with
    phase := some .active
    startAngle := some θ
    valves := w.record.kind.pattern (min c.valves.l w.record.aperture)
    rampPos := if w.record.kind.fills then some θ else none
    arm := cut.map (·.1)
    work := some w
    meter := c.meter.started w.record.kind (cut.bind (·.2)) }

/-- The conditions of a start test once the slot has been read (R50). -/
def State.mayStart (s : State) (c : Head) (k : SegKind) (θ : Nat) : Bool :=
  s.zones.permits θ k && s.zones.guardMet θ && s.zones.gapMet c.lastClosed k θ && c.bases.isSome

/-- A head read that finds a parity error (R40). -/
def State.profileParity (s : State) (h : HeadId) (j : SlotId) : State :=
  let s := s.setSlot j { s.slot j with state := .corrupt }
  let s := s.raiseHead h .profileLost
  s.raisePart .profileParity none (some j.val)

/-- The start test of a RUNNING head whose segment is PENDING (R38, R50), at a cycle angle if it has one. -/
def State.startTest (s : State) (h : HeadId) (θ : Option Nat) : State :=
  let c := s.head h
  match c.pin with
  | none => s
  | some p =>
    let t := s.slot p.slot
    if t.state = .corrupt then s.raiseHead h .profileLost
    else if hi : c.segIndex < 12 then
      let cell := t.cells[c.segIndex]
      if !t.headerClean || !cell.clean then s.profileParity h p.slot
      else
        match θ with
        | some θ =>
          if s.mayStart c cell.record.kind θ then s.setHead h (c.startSegment ⟨t.header, cell.record⟩ θ) else s
        | none => s
    else s

/-- The head is RUNNING in a phase. -/
def Head.inPhase (c : Head) (p : Phase) : Bool := c.state == .running && c.phase == some p

/-- The start test made after each boundary and each good STATUS (R50); a start posts an urgent exchange (R51). -/
def State.pendingTest (s : State) (h : HeadId) (θ : Option Nat) : State :=
  if (s.head h).inPhase .pending then
    let s := s.startTest h θ
    if (s.head h).inPhase .active then s.post h else s
  else s

/-! ### Ending a segment -/

/-- Steps 1 to 3 of a segment end (R56), at a cycle angle. -/
def Head.endSegment (c : Head) (k : SegKind) (θ : Nat) : Head :=
  { c with
    lastClosed := match k.principal with | some own => some (θ, own) | none => c.lastClosed
    arm := none
    segIndex := c.segIndex + 1
    phase := some .pending
    startAngle := none
    rampPos := none
    work := none
    deadlineMet := false }

/-- Verdict, record and learning of a finished cycle (R57, R89, R90). -/
def Head.judge (c : Head) (header : Header) (weight : Nat) : Head :=
  let vl := c.liquidVolume
  let fresh := c.record.isNone
  let lesson := c.learn weight vl
  let c := c.withRecord (verdictOf header vl c.syrupVolume) none c.pin
  match lesson with
  | some (e, o) =>
    { c with
      overrun := e
      record := if fresh then c.record.map fun r => { r with observed := some o } else c.record }
  | none => c

/-- The last segment has ended (R57). -/
def State.finishCycle (s : State) (h : HeadId) (header : Header) : State :=
  let s := s.updHead h fun c => { c with valves := .rest, arm := none }
  let s := s.updHead h fun c => c.judge header s.meterUnit.weight
  let s := s.releasePin h
  let s := s.changeState h .done
  let s := s.updHead h Head.withoutSegment
  s.post h

/-- The segment just ended, at an index now passed, was the last of the pinned profile (R56). -/
def State.profileOver (s : State) (h : HeadId) : Bool :=
  match (s.head h).pin with
  | some p => ((s.slot p.slot).segCount.getD 0) ≤ (s.head h).segIndex
  | none => true

/-- The steps of a segment end after the index advance (R56, R57): nothing once the head has left RUNNING. -/
def State.afterEnd (s : State) (h : HeadId) (header : Header) (θ : Nat) : State :=
  if (s.head h).state = .running then
    if s.profileOver h then s.finishCycle h header
    else
      let s := s.startTest h (some θ)
      if (s.head h).state = .running then
        let s := if (s.head h).inPhase .active then s else s.updHead h fun c => { c with valves := .rest }
        s.post h
      else s
  else s

/-- A segment ends by its condition (R56). -/
def State.endSegment (s : State) (h : HeadId) (w : Work) (θ : Nat) : State :=
  (s.updHead h fun c => c.endSegment w.record.kind θ).afterEnd h w.header θ

/-- A segment ends by a zone cut (R55): a product segment raises ZONE CUT after the index advance. -/
def State.zoneCut (s : State) (h : HeadId) (w : Work) (θ : Nat) : State :=
  let s := s.updHead h fun c => c.endSegment w.record.kind θ
  let s := if w.record.kind.product then s.raiseHead h .zoneCut else s
  s.afterEnd h w.header θ

/-! ### The end tests of a STATUS (R53) -/

/-- "The dwell has elapsed when (cycle angle − segment start angle) mod CPR is at least the minimum dwell." -/
def dwellElapsed (cpr θ start dwell : Nat) : Bool := decide (dwell ≤ (θ + cpr - start) % cpr)

/-- "the difference between bottle pressure and bowl pressure, taken without sign, is at most the band"; not met while
no bowl pressure has been sampled. -/
def withinBand (bowl : Option Int) (bottle band : Nat) : Bool :=
  match bowl with
  | some b => ((bottle : Int) - b).natAbs ≤ band
  | none => false

/-- The STATUS ends the ACTIVE segment (R53); `sentArm` is the cut arm of the COMMAND it answers. -/
def State.statusEnds (s : State) (c : Head) (w : Work) (θ : Nat) (o : Obs) (sentArm : Option Arm) : Bool :=
  let dwell := dwellElapsed s.tracker.cpr θ (c.startAngle.getD θ) w.record.dwell
  match w.record.ending with
  | .volume => sentArm.isSome && sentArm == c.arm && o.cut
  | .probe => o.probe && dwell
  | .pressureEq => withinBand s.faults.pressure.sample o.pressure w.record.param && dwell
  | .pressureLow => o.pressure ≤ w.record.param && dwell
  | .angle => false

/-- The record is the final cut of the cycle (R87). -/
def SegRecord.finalCut (r : SegRecord) : Bool := r.kind.fills && r.ending == .volume && r.param == 1000

/-- A RUNNING head with an ACTIVE segment takes a STATUS: the end test, with final cut done set where the final cut
ends on the cut report (R53, R87). -/
def State.statusEnd (s : State) (h : HeadId) (θ : Nat) (o : Obs) (sentArm : Option Arm) : State :=
  match (s.head h).work with
  | some w =>
    if s.statusEnds (s.head h) w θ o sentArm then
      let s := s.updHead h fun c =>
        { c with meter := { c.meter with finalDone := c.meter.finalDone || w.record.finalCut } }
      s.endSegment h w θ
    else s
  | none => s

end Sys2Proof.Machine
end

