-- ==== Sys2Proof/Machine/Walk.lean ====
section
/-! DEFINITION. Crossings (R15 to R17): the boundaries a head can cross, the order it takes them in, and its walk. -/

namespace Sys2Proof.Machine

/-! ### Boundaries (R15) -/

/-- A region boundary lies at an angle: "an end of CPR is the angle 0". -/
def ZoneMap.boundary (z : ZoneMap) (cpr a : Nat) : Bool :=
  z.rows.toList.any fun r => r.valid && (r.start == a || r.stop % cpr == a)

/-- The ANGLE end of the current segment lies at an angle; an end parameter at or behind the segment's start angle is
not crossed (R54). -/
def Head.angleEndAt (c : Head) (a : Nat) : Bool :=
  c.inPhase .active &&
  match c.work, c.startAngle with
  | some w, some θ => w.record.ending == .angle && w.record.param == a && θ < a
  | _, _ => false

/-- The deadline of the current segment: of the segment as read at its start, or of the pinned slot's record. -/
def State.deadline (s : State) (c : Head) : Option Nat :=
  match c.work, c.pin with
  | some w, _ => some w.record.deadline
  | none, some p =>
    if hi : c.segIndex < 12 then some ((s.slot p.slot).cells[c.segIndex]).record.deadline else none
  | none, none => none

/-- The deadline of the current segment lies at an angle and has not been crossed (R54). -/
def State.deadlineAt (s : State) (c : Head) (a : Nat) : Bool :=
  c.state == .running && c.phase.isSome && !c.deadlineMet && s.deadline c == some a

/-- A start point lies at an angle, for a head that stood at the angle before it: zone start + entry guard of the
region it stands in, or last-valve-closed angle + changeover gap. -/
def State.startPointAt (s : State) (c : Head) (a : Nat) : Bool :=
  let before := (a + s.tracker.cpr - 1) % s.tracker.cpr
  c.inPhase .pending &&
  ((match s.zones.region before with
    | some r => before < r.start + r.guard && r.start + r.guard == a
    | none => false) ||
   (match c.lastClosed with
    | some (closed, _) => closed + s.zones.gapAt closed == a
    | none => false))

/-- The ramp point of the current segment lies at an angle (R52). -/
def Head.rampPointAt (c : Head) (a : Nat) : Bool :=
  c.inPhase .active &&
  match c.work, c.rampPos with
  | some w, some r => w.record.kind.fills && c.valves.l < w.record.aperture && r + w.record.interval == a
  | _, _ => false

/-- Θs or Θd lies at an angle: "while set". -/
def setAngleAt (item a : Nat) : Bool := item != 0 && item == a

/-! ### What a head does at each boundary -/

/-- A region boundary (R55). -/
def State.regionCrossing (s : State) (h : HeadId) (a : Nat) : State :=
  if (s.head h).inPhase .active then
    match (s.head h).work with
    | some w => if s.zones.permits a w.record.kind then s else s.zoneCut h w a
    | none => s
  else s

/-- The ANGLE end (R54). -/
def State.angleEnd (s : State) (h : HeadId) (a : Nat) : State :=
  match (s.head h).work with
  | some w => s.endSegment h w a
  | none => s

/-- The deadline (R54): DEADLINE SEGMENT; "having been crossed, is not met again in the cycle". -/
def State.deadlineCrossing (s : State) (h : HeadId) : State :=
  (s.updHead h fun c => { c with deadlineMet := true }).raiseHead h .deadlineSegment

/-- A ramp step (R52); it posts no exchange. -/
def State.rampStep (s : State) (h : HeadId) (a : Nat) : State :=
  match (s.head h).work with
  | some w =>
    s.updHead h fun c =>
      { c with
        valves := { c.valves with l := min (c.valves.l + w.record.step) w.record.aperture }
        rampPos := some a }
  | none => s

/-! ### One angle of a walk (R16) -/

/-- A boundary is taken: one event for the head, followed by a start test where it is RUNNING with a PENDING segment
(R16, R50). -/
def State.takeBoundary (s : State) (h : HeadId) (a : Nat) (present : Bool) (effect : State → State) : State :=
  if present then s.headEvent h fun s => (effect s).pendingTest h (some a) else s

/-- The boundaries of a head at an angle, in the order of R16. A boundary of a segment is taken when it was present at
the arrival at the angle, for the same segment, and still is at its turn. -/
def State.takeAngle (s : State) (h : HeadId) (a : Nat) (pos : Pos) : State :=
  let c := s.head h
  let same := fun s : State => (s.head h).segIndex == c.segIndex
  let deadline := s.deadlineAt c a
  let start := s.startPointAt c a
  let s := s.takeBoundary h a (s.zones.boundary s.tracker.cpr a) fun s => s.regionCrossing h a
  let s := s.takeBoundary h a (c.angleEndAt a && same s && (s.head h).angleEndAt a) fun s => s.angleEnd h a
  let s := s.takeBoundary h a (deadline && same s && s.deadlineAt (s.head h) a) fun s => s.deadlineCrossing h
  let s := s.takeBoundary h a (start && same s && s.startPointAt (s.head h) a) id
  let s := s.takeBoundary h a (c.rampPointAt a && same s && (s.head h).rampPointAt a) fun s => s.rampStep h a
  let s := s.takeBoundary h a (setAngleAt s.zones.seatEnd a) fun s => s.seatWindowEnd h
  let s := s.takeBoundary h a (setAngleAt s.zones.dischargeAngle a) fun s => s.dischargeCrossing h pos
  s.takeBoundary h a (a == 0) fun s => s.infeedCrossing h pos

/-- The position one count further (00_scope.md). -/
def Pos.next (cpr : Nat) (p : Pos) : Pos :=
  if p.count + 1 < cpr then ⟨p.rev, p.count + 1⟩ else ⟨(p.rev + 1) % 65536, 0⟩

/-- A head's walk of a number of counts from a cycle angle at a position (R16). -/
def State.walkHead (h : HeadId) : Nat → Nat → Pos → State → State
  | 0, _, _, s => s
  | n + 1, θ, p, s =>
    let θ := (θ + 1) % s.tracker.cpr
    let p := p.next s.tracker.cpr
    State.walkHead h n θ p (s.takeAngle h θ p)

/-- Every enrolled head takes its crossings of an advance from an old position (R7, R10, R16). -/
def State.walkAll (s : State) (old : Pos) (counts : Nat) : State :=
  s.headOrder.foldl
    (fun s h =>
      match (s.head h).offset with
      | some o =>
        if (s.head h).enrolled then State.walkHead h counts (cycleAngleAt s.tracker.cpr old.count o) old s else s
      | none => s) s

end Sys2Proof.Machine
end

