-- ==== Sys2Proof/Machine/Exchange.lean ====
section
/-! DEFINITION. The end of an exchange on the valve bus (R102 to R109), the metering of a good STATUS (R80) and what
the head does with it (R48, R53, R63, R64), and the vent timer (R63). -/

namespace Sys2Proof.Machine

/-- A good STATUS shows the valves of a safe close: actual G, S and V as commanded, and actual L 0 (R63, R64). -/
def Head.closed (c : Head) (o : Obs) : Bool :=
  o.valves.g == c.valves.g && o.valves.s == c.valves.s && o.valves.v == c.valves.v && o.valves.l == 0

/-- The exchange in flight was sent before the head's present state was entered (R95). -/
def State.predates (s : State) : Bool :=
  match s.scanner.inFlight with
  | some x => x.predates
  | none => false

/-- A SEATING head sees its bottle seated: the bases are captured and it enters RUNNING with segment 0 PENDING (R48,
R79). -/
def State.seat (s : State) (h : HeadId) (o : Obs) : State :=
  (s.changeState h .running).updHead h fun c =>
    { c with bases := some ⟨o.liquid, o.syrup⟩, phase := some .pending, startAngle := none }

/-- The head takes the STATUS according to its state (R48, R53, R63, R64). -/
def State.headStatus (s : State) (h : HeadId) (o : Obs) (sentArm : Option Arm) : State :=
  let c := s.head h
  match c.state with
  | .seating => if o.seated then s.seat h o else s
  | .running =>
    match s.cycleAngle h with
    | some θ => if c.inPhase .active then s.statusEnd h θ o sentArm else s
    | none => s
  | .aborting =>
    if !s.predates && c.closed o && o.pressure ≤ s.sequencer.releasePressure then s.leaveSafeClose h else s
  | .forced => if !s.predates && c.closed o then s.leaveSafeClose h else s
  | _ => s

/-- The last observation is replaced, the head takes the STATUS, and a start test follows (R50, R80 step 5). -/
def State.handStatus (s : State) (h : HeadId) (o : Obs) (sentArm : Option Arm) : State :=
  let s := s.updHead h fun c => { c with lastObs := some o }
  let s := s.headStatus h o sentArm
  s.pendingTest h (s.cycleAngle h)

/-- Raise a head-scoped fault where a condition holds. -/
def State.raiseHeadIf (s : State) (b : Bool) (h : HeadId) (cause : Cause) : State :=
  if b then s.raiseHead h cause else s

/-- The JUMP raises of one STATUS, of the liquid meter and of the syrup meter (R81, R93). -/
def State.raiseJumps (s : State) (h : HeadId) (m : Metered) : State :=
  (s.raiseHeadIf m.liquidJump h .meterJump).raiseHeadIf m.syrupJump h .meterJump

/-- "It raises any METER fault these steps found." (R80); the order of JUMP and LEAK is the arbiter's
(notes/assumptions/4.md). -/
def State.raiseMetered (s : State) (h : HeadId) (m : Metered) : State :=
  if s.arbiter.leakFirst then (s.raiseHeadIf m.leak h .meterLeak).raiseJumps h m
  else (s.raiseJumps h m).raiseHeadIf m.leak h .meterLeak

/-- A good STATUS is metered, its METER faults raised, handed to the head, and a pending record's volumes recomputed
(R80 to R83, R93, R60). -/
def State.meterStatus (s : State) (h : HeadId) (o : Obs) (sentArm : Option Arm) : State :=
  let m := (s.head h).metered s.meterUnit o
  let s := (s.setHead h m.head).raiseMetered h m
  let s := s.handStatus h o sentArm
  s.updHead h Head.refreshRecord

/-! ### Valve confirmation (R108) -/

/-- The expected valves: those of the COMMAND, adjusted for a cut. -/
def InFlight.expected (x : InFlight) (cut : Bool) : Valves :=
  match x.arm with
  | some a =>
    if cut then
      (match a.meter with
      | .liquid => { x.valves with l := 0 }
      | .syrup => { x.valves with s := false })
    else x.valves
  | none => x.valves

/-- The STATUS matches. -/
def InFlight.confirms (x : InFlight) (o : Obs) : Bool :=
  let e := x.expected o.cut
  o.valves.g == e.g && o.valves.s == e.s && o.valves.v == e.v &&
  (if x.rampDone then o.valves.l == e.l else (o.valves.l == 0) == (e.l == 0))

/-- The scanner's fields of a head after the comparison of R108, and whether MISMATCH is raised. -/
def Head.confirmStep (c : Head) (x : InFlight) (o : Obs) : Head × Bool :=
  match c.scan.confirm with
  | some n =>
    if c.state = .lockout then (c, false)
    else if x.confirms o then ({ c with scan := { c.scan with confirm := none } }, false)
    else if 1 < n then ({ c with scan := { c.scan with confirm := some (n - 1) } }, false)
    else ({ c with scan := { c.scan with confirm := none } }, true)
  | none => (c, false)

/-! ### Outcomes (R103 to R106, R109) -/

/-- The frame is a good reply of the exchange (R103, R183). -/
def InFlight.answeredBy (x : InFlight) (f : Frame) : Bool :=
  statusOk f && (statusAt f).head == x.head.val && (statusAt f).seq == x.seq

/-- A good STATUS, in the order of R104. -/
def State.goodExchange (s : State) (x : InFlight) (f : StatusFrame) : State :=
  let h := x.head
  if (s.head h).state = .off then s
  else
    let s := s.updHead h fun c => { c with scan := { c.scan with miss := 0 } }
    let r := (s.head h).confirmStep x f.obs
    let s := (s.setHead h r.1).raiseHeadIf r.2 h .valveMismatch
    let raise := f.nodeFault && !(s.head h).scan.nodeFault
    let s := s.updHead h fun c => { c with scan := { c.scan with nodeFault := f.nodeFault } }
    let s := s.raiseHeadIf raise h .commNode
    s.headEvent h fun s => s.meterStatus h f.obs x.arm

/-- A miss (R105, R109). -/
def State.missExchange (s : State) (h : HeadId) : State :=
  if (s.head h).state = .off ∨ (s.head h).state = .lockout then s
  else
    let n := (s.head h).scan.miss + 1
    if s.scanner.missLimit ≤ n then
      (s.updHead h fun c => { c with scan := { c.scan with miss := 0 } }).raiseHead h .commMisses
    else s.updHead h fun c => { c with scan := { c.scan with miss := n } }

/-- The outcome of an exchange that ends with a frame or, with none, by its reply timer (R103). -/
def State.judgeExchange (s : State) (x : InFlight) (f : Option Frame) : State :=
  if x.discard then s
  else
    match f with
    | some f => if x.answeredBy f then s.goodExchange x (statusAt f) else s.missExchange x.head
    | none => s.missExchange x.head

/-- An exchange ends: its outcome, then the next choice (R95, R97). With none in flight a frame is discarded (R102). -/
def State.endExchange (s : State) (f : Option Frame) : State :=
  match s.scanner.inFlight with
  | some x =>
    let s := s.judgeExchange x f
    ({ s with scanner := { s.scanner with inFlight := none } } : State).chooseNext
  | none => s

/-- A frame is received from the bus (R102): it ends the exchange in flight, unless it was received before that
exchange's COMMAND was sent, "with no exchange in flight" (the operand of notes/assumptions/35.md). -/
def State.receive (s : State) (f : BusFrame) : State := if f.early then s else s.endExchange (some f.bytes)

/-- Expiry of a head's vent timer (R63). -/
def State.ventExpired (s : State) (h : HeadId) : State :=
  if (s.head h).ventTimer.isSome then
    s.headEvent h fun s => if (s.head h).state = .aborting then s.raiseHead h .ventTimeout else s
  else s

end Sys2Proof.Machine
end

