-- ==== Sys2Proof/Machine/AngleTracker.lean ====
section
/-! DEFINITION. The Angle Tracker (R1 to R14). -/

namespace Sys2Proof.Machine

/-- The class of an ANGLE frame (R4). -/
inductive FrameClass where
  | outOfRange | forward | jump | reverse
  deriving DecidableEq, Repr

/-- "Δ = (c − c0) mod CPR" (R4). -/
def advanceBy (cpr c c0 : Nat) : Nat := (c + cpr - c0) % cpr

/-- The revolution is consistent (R4). -/
def revConsistent (ref p : Pos) : Bool :=
  if p.count < ref.count then p.rev == (ref.rev + 1) % 65536 else p.rev == ref.rev

/-- The classification against a reference position (R4). -/
def Tracker.classify (t : Tracker) (ref p : Pos) : FrameClass :=
  if t.cpr ≤ p.count then .outOfRange
  else
    let d := advanceBy t.cpr p.count ref.count
    if d ≤ t.maxStep then (if revConsistent ref p then .forward else .jump)
    else if t.cpr - t.maxStep ≤ d then .reverse
    else .jump

/-- A frame is taken as a base: run 1, gap timer started (R5, R6, R8, R10). -/
def Tracker.base (t : Tracker) (p : Pos) : Tracker :=
  { t with
    state := .acquiring, ref := some p, run := 1, jumpPending := false, gapTimer := some t.gapLimit
    holdoverTimer := none }

/-- ACQUIRING with a run of 0 (R6, R8, R9, R10). -/
def Tracker.noBase (t : Tracker) : Tracker :=
  { t with
    state := .acquiring, ref := none, run := 0, jumpPending := false, gapTimer := none, holdoverTimer := none }

/-- The fall to ACQUIRING, with the frame as the new base where its count is below CPR (R8, R10). -/
def Tracker.fall (t : Tracker) (p : Pos) : Tracker := if p.count < t.cpr then t.base p else t.noBase

/-- LOCKED at a position, gap timer started (R6, R7, R10). -/
def Tracker.lockAt (t : Tracker) (p : Pos) : Tracker :=
  { t with
    state := .locked, ref := some p, jumpPending := false, gapTimer := some t.gapLimit, holdoverTimer := none }

/-- The tracker's part of the state. -/
def State.setTracker (s : State) (t : Tracker) : State := { s with tracker := t }

/-- The new carousel position. -/
def State.setPos (s : State) (p : Pos) : State := { s with tracker := { s.tracker with pos := some p } }

/-- The TIMEBASE condition (R11). -/
def State.setCondition (s : State) (c : FaultClass) (b : Bool) : State :=
  s.updRecord c fun r => { r with condition := b }

/-- A TRACK report, where the edge selects it (R12). -/
def State.reportTrack (s : State) (change : TrackChange) : State :=
  let wanted := match change, s.tracker.edge with
    | _, .both | .gain, .gain | .loss, .loss => true
    | _, _ => false
  if wanted then s.report (.track change s.tracker.state s.tracker.pos) else s

/-- A new position with an advance is handed to the heads and to the Discharge Tracker (R13); the order of the two is
the arbiter's (notes/assumptions/4.md, 26.md). -/
def State.advance (s : State) (p : Pos) : State :=
  match s.tracker.pos with
  | some old =>
    let counts := advanceBy s.tracker.cpr p.count old.count
    if s.arbiter.dischargeFirst then ((s.setPos p).dueTest p).walkAll old counts
    else ((s.walkAll old counts).setPos p).dueTest p
  | none => (s.setPos p).dueTest p

/-- The run reaches the acquire count: LOCKED, the condition removed, the position set without a walk (R6, R11, R12,
R13, R17). -/
def State.lock (s : State) (p : Pos) : State :=
  let s := s.setTracker { s.tracker.lockAt p with run := s.tracker.run + 1, pos := some p }
  let s := s.setCondition .timebase false
  (s.reportTrack .gain).dueTest p

/-- A frame in ACQUIRING (R6). -/
def State.angleAcquiring (s : State) (p : Pos) : State :=
  let t := s.tracker
  match t.ref with
  | none => if p.count < t.cpr then s.setTracker (t.base p) else s
  | some ref =>
    match t.classify ref p with
    | .forward =>
      if t.acquireCount ≤ t.run + 1 then s.lock p
      else s.setTracker { t with ref := some p, run := t.run + 1, gapTimer := some t.gapLimit }
    | .outOfRange => s.setTracker t.noBase
    | .jump | .reverse => s.setTracker (t.base p)

/-- A frame in LOCKED (R7, R8). -/
def State.angleLocked (s : State) (p : Pos) : State :=
  let t := s.tracker
  match t.ref with
  | none => s.setTracker (t.fall p)
  | some ref =>
    match t.classify ref p with
    | .forward => (s.setTracker (t.lockAt p)).advance p
    | .reverse => (s.setTracker (t.base p)).raisePart .timebaseReverse none none
    | .jump | .outOfRange =>
      if t.jumpPending then (s.setTracker (t.fall p)).raisePart .timebaseJump none none
      else s.setTracker { t with jumpPending := true }

/-- A frame in HOLDOVER recovers (R10). -/
def Tracker.recovers (t : Tracker) (p : Pos) : Bool :=
  match t.ref with
  | some ref =>
    p.count < t.cpr && advanceBy t.cpr p.count ref.count ≤ t.cpr / 4 && revConsistent ref p
  | none => false

/-- A frame in HOLDOVER (R10). -/
def State.angleHoldover (s : State) (p : Pos) : State :=
  let t := s.tracker
  if t.recovers p then (s.setTracker (t.lockAt p)).advance p
  else (s.setTracker (t.fall p)).raisePart .timebaseJump none none

/-- A frame reaches the Angle Tracker (R4 to R10). -/
def State.trackAngle (s : State) (p : Pos) : State :=
  match s.tracker.state with
  | .noTimebase | .lost => if p.count < s.tracker.cpr then s.setTracker (s.tracker.base p) else s
  | .acquiring => s.angleAcquiring p
  | .locked => s.angleLocked p
  | .holdover => s.angleHoldover p

/-- Expiry of the gap timer (R9). -/
def State.gapExpired (s : State) : State :=
  let t := s.tracker
  if t.gapTimer.isSome then
    match t.state with
    | .locked =>
      s.setTracker { t with
        state := .holdover, gapTimer := none, holdoverTimer := some t.holdoverLimit, jumpPending := false }
    | .acquiring => s.setTracker t.noBase
    | _ => s
  else s

/-- Expiry of the holdover timer (R11): the condition is marked before the raise (R134). -/
def State.holdoverExpired (s : State) : State :=
  if s.tracker.holdoverTimer.isSome then
    let s := s.setTracker { s.tracker with state := .lost, holdoverTimer := none }
    let s := s.setCondition .timebase true
    let s := s.raisePart .timebaseLost none none
    s.reportTrack .loss
  else s

end Sys2Proof.Machine
end

