-- ==== Sys2Proof/Machine/Supervision.lean ====
section
/-! DEFINITION. The supply monitors (R143 to R145), the heartbeat watchdog (R146 to R148) and the stop line (R140,
R141). -/

namespace Sys2Proof.Machine

/-! ### Supply monitors -/

/-- The sample is outside the limits (R144); "A sample equal to a limit is within the limits." -/
def Monitor.outside (m : Monitor) (v : Int) : Bool := v < m.low || m.high < v

/-- The sample is within the band, "from low limit + hysteresis to high limit − hysteresis, both ends included". -/
def Monitor.inBand (m : Monitor) (v : Int) : Bool := m.low + m.hysteresis ≤ v && v ≤ m.high - m.hysteresis

/-- A monitor takes a sample: the monitor after it, and whether SUPPLY is raised (R144). A count that a newly lowered N
has left at or above it comes down to N at the next sample outside the limits, and raises there
(notes/assumptions/32.md). -/
def Monitor.take (m : Monitor) (v : Int) : Monitor × Bool :=
  let m := { m with sample := some v }
  if m.outside v then
    let count := min (m.count + 1) m.n
    let raise := m.n ≤ count && !m.condition
    ({ m with count := count, condition := m.condition || raise }, raise)
  else if m.inBand v then ({ m with count := 0, condition := false }, false)
  else ({ m with count := 0 }, false)

/-- The cause of a SUPPLY raise (R144). -/
def supplyCause (n : MonitorName) (below : Bool) : Cause :=
  match n, below with
  | .pressure, true => .pressureLow
  | .pressure, false => .pressureHigh
  | .temperature, true => .tempLow
  | .temperature, false => .tempHigh

/-- "The SUPPLY condition of the class record is present while either monitor's condition is set." (R145) -/
def State.supplyCondition (s : State) : State :=
  s.setCondition .supply (s.faults.pressure.condition || s.faults.temperature.condition)

/-- A monitor takes its sample as one event (R144, R145); the condition is marked before the raise (R134). -/
def State.sample (s : State) (n : MonitorName) (v : Int) : State :=
  let r := (s.monitor n).take v
  let s := (s.setMonitor n r.1).supplyCondition
  if r.2 then s.raisePart (supplyCause n (decide (v < r.1.low))) none none else s

/-! ### The heartbeat watchdog -/

/-- A start of the watchdog's timer: WATCHING, with the limits as they stand (R146). -/
def Watchdog.start (w : Watchdog) : Watchdog :=
  { w with state := .watching, timer := some w.upper, lowerTaken := w.lower }

def State.setWatchdog (s : State) (w : Watchdog) : State := { s with faults := { s.faults with watchdog := w } }

/-- A restart: from WAITING the condition is removed (R147, R148); in DISABLED nothing. -/
def State.restartWatchdog (s : State) : State :=
  match s.faults.watchdog.state with
  | .disabled => s
  | .watching => s.setWatchdog s.faults.watchdog.start
  | .waiting => (s.setWatchdog s.faults.watchdog.start).setCondition .heartbeat false

/-- A REQUEST addressed to the part or broadcast: in plain mode it restarts the watchdog (R148). -/
def State.plainRestart (s : State) : State := if s.windowMode then s else s.restartWatchdog

/-- A HEARTBEAT in window mode, `elapsed` µs after the watchdog's start (R147; notes/assumptions/5.md). -/
def State.windowHeartbeat (s : State) (elapsed : Nat) : State :=
  let w := s.faults.watchdog
  if w.state = .watching ∧ elapsed < w.lowerTaken * 10000 then
    (s.setWatchdog { w with state := .waiting, timer := none }).raisePart .heartbeatEarly none none
  else s.restartWatchdog

/-- Expiry of the upper limit (R147, R148): the condition is marked before the raise (R134). -/
def State.heartbeatExpired (s : State) : State :=
  let w := s.faults.watchdog
  if w.timer.isSome ∧ w.state = .watching then
    let s := s.setWatchdog { w with state := .waiting, timer := none }
    (s.setCondition .heartbeat true).raisePart .heartbeatLate none none
  else s

/-! ### The stop line -/

/-- The line is sensed high: it is not driven by the part and held low by no other party (R140). -/
def State.sensedHigh (s : State) : Bool := !s.drives && !s.lineHeld

/-- Another party pulls the line low: sensed, and EXTERNAL raised, only by a part that drives it not (R140, R141). -/
def State.lineFalls (s : State) : State :=
  let senses := !s.drives && !s.held && !s.lineHeld
  let s := { s with lineHeld := true }
  if senses then (s.setCondition .external true).raisePart .lineLow none none else s

/-- The last other party releases the line (R141). -/
def State.lineRises (s : State) : State :=
  let senses := !s.drives && !s.held
  let s := { s with lineHeld := false }
  if senses then s.setCondition .external false else s

/-- CLEAR_FAULT of a class whose condition is not present (R138); one not latched leaves the record as it stands. The
removal that empties the stop-cause set releases the line, and a line still low marks the EXTERNAL condition without a
raise (R140). -/
def State.clearFault (s : State) (c : FaultClass) : State :=
  if (s.record c).latched then
    let drove := !s.stopEmpty
    let s := s.updRecord c fun r => { r with latched := false, bars := false, inStop := false }
    if drove && s.stopEmpty && s.lineHeld then s.setCondition .external true else s
  else s

end Sys2Proof.Machine
end

