-- ==== Sys2Proof/Machine/Rows.lean ====
section
/-! DEFINITION. The rows that READ returns and the entry that POP_SNAPSHOT returns (R171).

"A READ reply holds the row's fields in the order its owning rule lists them, with one presence byte for every eight
optional fields ahead of them" (R181). The widths the manual leaves open are DESIGN CHOICE: the fewest bytes that hold
the field's range, and one byte for a flag; an item that is unset has its presence bit clear
(notes/assumptions/14.md). -/

namespace Sys2Proof.Machine

/-- A field that 0 leaves unset. -/
def whenSet (n : Nat) : Option Nat := if n = 0 then none else some n

/-- A row: presence bytes, then fields. -/
def row (optionals : List Bool) (fields : List Byte) : List Byte := presence optionals ++ fields

/-- A carousel position: revolution and count. -/
def Pos.bytes (p : Pos) : List Byte := nat16 p.rev ++ nat16 p.count

/-- A set of flags as bits, the first in bit 0 (notes/assumptions/14.md). -/
def bitset (bs : List Bool) : Nat := bs.foldr (fun b n => 2 * n + (if b then 1 else 0)) 0

/-- The PART row (R172), with the items marked PART; the sensed level is 1 for high and 0 for low
(notes/assumptions/14.md). -/
def State.partRow (s : State) : List Byte :=
  let hc := whenSet s.management.headCount
  let level : Option Bool := if s.drives then none else some s.sensedHigh
  row [hc.isSome, level.isSome]
    (nat16 Config.partCode ++ [Config.siliconRevision] ++ nat8 s.management.address ++ optional 1 nat8 hc ++
     nat8 s.management.stationBase ++ nat8 s.management.resetCause.code ++ nat8 s.faults.mode.code ++
     nat16 (bitset (s.faults.records.toList.map (·.inStop))) ++ flag8 s.drives ++ optional 1 flag8 level ++
     nat16 s.sequencer.ventLimit ++ nat8 s.sequencer.releasePressure ++ nat16 s.meterUnit.stepLimit ++
     nat8 s.meterUnit.leakLimit ++ nat8 s.meterUnit.weight ++ nat8 s.scanner.replyTimeout ++
     nat8 s.scanner.missLimit ++ nat8 s.scanner.confirmWindow)

/-- The TRACKER row (R1), with the items marked TRACKER. -/
def State.trackerRow (s : State) : List Byte :=
  let t := s.tracker
  let z := s.zones
  row [t.ref.isSome, t.pos.isSome, (whenSet t.cpr).isSome, (whenSet z.seatEnd).isSome,
      (whenSet z.dischargeAngle).isSome]
    (nat8 t.state.code ++ optional 4 Pos.bytes t.ref ++ optional 4 Pos.bytes t.pos ++ nat8 t.run ++
     flag8 t.jumpPending ++ flag8 t.gapTimer.isSome ++ flag8 t.holdoverTimer.isSome ++
     optional 2 nat16 (whenSet t.cpr) ++ nat16 t.maxStep ++ nat8 t.acquireCount ++ nat8 t.gapLimit ++
     nat8 t.holdoverLimit ++ nat8 t.edge.code ++ nat8 z.baseGap ++ optional 2 nat16 (whenSet z.seatEnd) ++
     optional 2 nat16 (whenSet z.dischargeAngle))

/-- A ZONE row (R18). -/
def ZoneRow.bytes (r : ZoneRow) : List Byte :=
  flag8 r.valid ++ nat16 r.start ++ nat16 r.stop ++ [r.permitted.setWidth 8] ++ nat16 r.guard ++ nat8 r.gap

/-- A SLOT row (R41). -/
def State.slotRow (s : State) (j : SlotId) : List Byte :=
  let t := s.slot j
  row [t.profile.isSome, t.segCount.isSome, t.crc.isSome]
    (nat8 t.state.code ++ nat8 t.gen ++ nat8 t.users ++ optional 2 nat16 t.profile ++ optional 1 nat8 t.segCount ++
     nat16 (bitset (t.cells.toList.map (·.written))) ++ optional 4 wordBytes t.crc ++
     flag8 (s.store.verifier == some j) ++ nat16 t.header.target ++ nat16 t.header.underTol ++ nat16 t.header.overTol ++
     nat16 t.header.ratio ++ nat8 t.header.ratioTol)

/-- The bytes of an observation (R44). -/
def Obs.bytes (o : Obs) : List Byte :=
  nat16 o.pressure ++ flag8 o.probe ++ flag8 o.seated ++ [o.valves.set] ++ nat8 o.valves.l ++ flag8 o.cut ++
    nat16 o.cutCounter ++ nat16 o.liquid ++ nat16 o.syrup

/-- The class and cause of a fault. -/
def Cause.bytes (c : Cause) : List Byte := nat8 c.cls.code ++ nat8 c.code

/-- A head's place in the urgent queue, "counted from the oldest entry as 1" (R113). -/
def State.urgentPlace (s : State) (h : HeadId) : Option Nat :=
  (s.scanner.urgent.findIdx? fun x => x == h).map (· + 1)

/-- The HEAD row (R74, R113), 92 bytes (R181); the pending record as in a DOSE payload with no position and no dose
sequence yet. The station of a head at or above the head count can pass 255, and is then shown modulo 256
(notes/assumptions/30.md). -/
def State.headRow (s : State) (h : HeadId) : List Byte :=
  let c := s.head h
  let angle := s.cycleAngle h
  let place := s.urgentPlace h
  row [angle.isSome, c.pin.isSome, c.phase.isSome, c.startAngle.isSome, c.lastClosed.isSome, c.rampPos.isSome,
      c.bases.isSome, c.lastObs.isSome, c.lastFault.isSome, c.record.isSome, c.scan.lastSent.isSome,
      c.scan.confirm.isSome, place.isSome]
    (nat8 c.state.code ++ nat8 c.level ++ nat16 c.cycle ++ nat8 (s.station h) ++ optional 2 nat16 angle ++
     optional 4 (fun p : Pin => nat8 p.slot ++ nat8 p.gen ++ nat16 p.profile) c.pin ++ nat8 c.segIndex ++
     optional 1 (fun p : Phase => nat8 p.code) c.phase ++ optional 2 nat16 c.startAngle ++
     optional 3 (fun p : Nat × Valve => nat16 p.1 ++ nat8 p.2.code) c.lastClosed ++ optional 2 nat16 c.rampPos ++
     [c.valves.set] ++ nat8 c.valves.l ++ armBytes c.arm ++
     optional 4 (fun b : Bases => nat16 b.liquid ++ nat16 b.syrup) c.bases ++ nat24 c.liquidTotal ++
     nat24 c.syrupTotal ++ optional 13 Obs.bytes c.lastObs ++ nat16 c.overrun ++ flag8 c.hold ++ flag8 c.withdraw ++
     flag8 c.ventTimer.isSome ++ optional 2 Cause.bytes c.lastFault ++
     optional 27 (fun r => dosePayload ⟨r, s.station h, ⟨0, 0⟩, 0⟩) c.record ++ nat8 c.scan.seq ++
     optional 2 (fun v : Valves => v.set :: nat8 v.l) c.scan.lastSent ++ nat8 c.scan.miss ++
     optional 1 nat8 c.scan.confirm ++ flag8 c.scan.nodeFault ++ flag8 place.isSome ++ optional 1 nat8 place)

/-- A CALIB row (R94); the static fields of a head never enrolled read as unset. -/
def Head.calibRow (c : Head) : List Byte :=
  let k := c.calib
  row [k.isSome, k.isSome, k.isSome, k.isSome, k.isSome, c.offset.isSome, c.meter.finalCut.isSome,
      c.meter.estimateUsed.isSome]
    (optional 10 (fun k : Calib => nat16 k.liquidK ++ int16 k.liquidTrim ++ nat16 k.syrupK ++ int16 k.syrupTrim ++
        nat16 k.overrun) k ++
     optional 2 nat16 c.offset ++ nat16 c.overrun ++ nat16 c.meter.leakSum ++ flag8 c.meter.leakRaised ++
     flag8 c.meter.productStarted ++ flag8 c.meter.finalDone ++ optional 2 nat16 c.meter.finalCut ++
     optional 2 nat16 c.meter.estimateUsed)

/-- A FAULT row (R151). -/
def ClassRecord.row (r : ClassRecord) : List Byte :=
  Machine.row [r.lastCause.isSome, r.lastStation.isSome]
    (flag8 r.latched ++ flag8 r.condition ++ optional 1 (fun c : Cause => nat8 c.code) r.lastCause ++
     optional 1 nat8 r.lastStation ++ flag8 r.bars ++ flag8 r.inStop ++ nat8 r.action.code)

/-- A supply monitor's fields (R151). -/
def Monitor.bytes (m : Monitor) : List Byte :=
  optional 2 int16 m.sample ++ nat8 m.count ++ flag8 m.condition ++ int16 m.low ++ int16 m.high ++
    nat8 m.hysteresis.toNat ++ nat8 m.n

/-- The SUPPLY row (R151). -/
def State.supplyRow (s : State) : List Byte :=
  let f := s.faults
  row [f.pressure.sample.isSome, f.temperature.sample.isSome]
    (f.pressure.bytes ++ f.temperature.bytes ++ flag8 f.watchdog.enable ++ nat8 f.watchdog.upper ++
     nat8 f.watchdog.lower ++ nat8 f.watchdog.state.code ++ nat8 s.lockoutCount ++ nat8 f.lockoutLimit)

/-- The QUEUES row (R167, R113, R151, R127). -/
def State.queuesRow (s : State) : List Byte :=
  let q := s.reports
  let x := s.scanner.inFlight
  row [q.queue.head?.isSome, s.scanner.scanPos.isSome, x.isSome]
    (nat8 q.queue.length ++ nat8 (q.held 1) ++ nat8 (q.held 2) ++ nat8 (q.held 3) ++
     optional 1 (fun r : Report => nat8 r.body.kind.code) q.queue.head? ++ flag8 q.dropped ++ nat16 q.doseSeq ++
     nat16 s.ring.transmit ++ nat8 s.ring.badCount ++ nat8 s.ring.limit ++ nat8 q.threshold ++
     (q.prios.toList.map nat8).flatten ++ nat8 s.scanner.urgent.length ++
     optional 1 (fun h : HeadId => nat8 h) s.scanner.scanPos ++ flag8 x.isSome ++
     optional 2 (fun x : InFlight => nat8 x.head ++ flag8 x.urgent) x ++ nat8 s.faults.snapshots.length ++
     flag8 s.faults.overflow ++ nat8 s.discharge.schedule.length)

/-- The fields of a schedule entry (R116). -/
def RejectEntry.bytes (e : RejectEntry) : List Byte :=
  nat8 e.source ++ nat16 e.seq ++ nat8 e.station ++ nat16 e.cycle ++ nat8 e.verdict.code ++ e.pos.bytes ++ nat32 e.due

/-- The REJECT row (R127). -/
def State.rejectRow (s : State) : List Byte :=
  let d := s.discharge
  row ([(whenSet d.gate).isSome, d.schedule.head?.isSome] ++ d.lastSeq.toList.map Option.isSome)
    (flag8 d.master ++ optional 3 nat24 (whenSet d.gate) ++ nat8 d.pulseWidth ++ nat8 d.schedule.length ++
     optional 15 RejectEntry.bytes d.schedule.head? ++ flag8 s.rejectOutput ++ nat16 d.made ++
     (d.lastSeq.toList.map (optional 2 nat16)).flatten)

/-- A snapshot in its fixed order (R149). -/
def Snapshot.bytes (x : Snapshot) : List Byte :=
  row [x.slot.isSome, x.gen.isSome, x.phase.isSome, x.lastObs.isSome]
    (nat8 x.station ++ nat8 x.state.code ++ nat8 x.level ++ nat16 x.cycle ++
     optional 1 (fun j : SlotId => nat8 j) x.slot ++ optional 1 nat8 x.gen ++ nat8 x.segIndex ++
     optional 1 (fun p : Phase => nat8 p.code) x.phase ++ [x.valves.set] ++ nat8 x.valves.l ++ armBytes x.arm ++
     nat16 x.liquid ++ nat16 x.syrup ++ optional 13 Obs.bytes x.lastObs ++ x.cause.bytes)

end Sys2Proof.Machine
end

