-- ==== Sys2Proof/Machine/Verifier.lean ====
section
/-! DEFINITION. The verifier of the Profile Store (R30 to R32) and the profile CRC (R180). -/

namespace Sys2Proof.Machine

/-- The 12 header bytes of a slot (R180). -/
def Slot.headerBytes (t : Slot) : List Byte :=
  nat16 (t.profile.getD 0) ++ nat8 (t.segCount.getD 0) ++ nat16 t.header.target ++ nat16 t.header.underTol ++
    nat16 t.header.overTol ++ nat16 t.header.ratio ++ nat8 t.header.ratioTol

/-- The 11 bytes of a segment record (R180). -/
def SegRecord.bytes (r : SegRecord) : List Byte :=
  nat8 r.kind.code ++ nat8 r.aperture ++ nat8 r.step ++ nat8 r.interval ++ nat8 r.ending.code ++ nat16 r.param ++
    nat16 r.dwell ++ nat16 r.deadline

/-- The indexes below the segment count, with what stands there. -/
def Slot.used (t : Slot) : List SegCell := t.cells.toList.take (t.segCount.getD 0)

/-- The segments below the segment count. -/
def Slot.records (t : Slot) : List SegRecord := t.used.map (·.record)

/-- The profile CRC over the header and the segment records (R180). -/
def Slot.computedCrc (t : Slot) : Word := ringCrc (t.headerBytes ++ (t.records.map SegRecord.bytes).flatten)

/-- The first index of a list at which a test holds. -/
def firstIndex {α : Type} (p : α → Bool) (l : List α) : Option Nat := l.findIdx? p

/-- The earlier of two indexes, each optional. -/
def earlier (a b : Option Nat) : Option Nat :=
  match a, b with
  | some a, some b => some (min a b)
  | some a, none => some a
  | none, b => b

/-- A FILL or TRIM that ends on VOLUME. -/
def SegRecord.cutsLiquid (r : SegRecord) : Bool := r.kind.fills && r.ending == .volume

/-- The index of the last FILL or TRIM. -/
def lastFill (rs : List SegRecord) : Option Nat :=
  ((List.range rs.length).filter fun i => (rs[i]?.map (·.kind.fills)).getD false).getLast?

/-- Some segment before index `i` satisfies a test. -/
def before (rs : List SegRecord) (i : Nat) (p : SegRecord → Bool) : Bool := (rs.take i).any p

/-- The conditions of BAD_SEQUENCE that fail at one index (R31); of the conditions that compare two segments, at the
later. A second fraction of 1000 fails at its own index (notes/assumptions/11.md). -/
def badAt (ratio dischargeAngle : Nat) (rs : List SegRecord) (i : Nat) (r : SegRecord) : Bool :=
  let isLast := i + 1 == rs.length
  (r.kind == .syrup && (ratio == 0 || before rs i fun q => q.kind == .syrup)) ||
  (r.cutsLiquid && before rs i fun q => q.cutsLiquid && r.param < q.param) ||
  (isLast && (lastFill rs).isNone) ||
  (lastFill rs == some i && !(r.ending == .volume && r.param == 1000)) ||
  (r.cutsLiquid && r.param == 1000 && lastFill rs != some i) ||
  (isLast && r.kind != .snift) ||
  (before rs i fun q => r.deadline < q.deadline) ||
  dischargeAngle ≤ r.deadline

/-- Check 3, BAD_SEQUENCE: the lowest index at which a condition fails. -/
def badSequence (ratio dischargeAngle : Nat) (rs : List SegRecord) : Option Nat :=
  firstIndex (fun p : SegRecord × Nat => badAt ratio dischargeAngle rs p.2 p.1) (rs.zipIdx)

/-- A kind is permitted in some valid zone row, or is SETTLE, permitted in the open arc (R31). -/
def ZoneMap.somewhere (z : ZoneMap) (k : SegKind) : Bool :=
  k == .settle || z.rows.toList.any fun r => r.valid && permittedIn r.permitted k

/-- The outcome of a verification: the first of the five checks that fails, with its index (R31). With parity errors in
the header and in a segment too, the index of PARITY is absent (notes/assumptions/36.md). -/
def Slot.verify (t : Slot) (z : ZoneMap) : VerifyResult × Option Nat :=
  match firstIndex (fun c : SegCell => !c.written) t.used with
  | some i => (.missing, some i)
  | none =>
    if t.crc ≠ some t.computedCrc then (.crcMismatch, none)
    else
      match badSequence t.header.ratio z.dischargeAngle t.records with
      | some i => (.badSequence, some i)
      | none =>
        match firstIndex (fun r : SegRecord => !z.somewhere r.kind) t.records with
        | some i => (.noZone, some i)
        | none =>
          if !t.headerClean then (.parity, none)
          else
            match firstIndex (fun c : SegCell => !c.clean) t.used with
            | some i => (.parity, some i)
            | none => (.ok, none)

/-- The slot after its verification (R32). -/
def Slot.verified (t : Slot) (r : VerifyResult) : Slot :=
  match r with
  | .ok => { t with state := .ready }
  | .parity => { t with state := .corrupt }
  | _ => { t with state := .loading, crc := none }

/-- The completion event of the verifier (R30, R32); nothing while it is idle. -/
def State.verification (s : State) : State :=
  match s.store.verifier with
  | some j =>
    let t := s.slot j
    let r := t.verify s.zones
    let s := s.setSlot j (t.verified r.1)
    let s := { s with store := { s.store with verifier := none } }
    s.report (.profile ⟨j, t.gen, t.profile.getD 0, r.1, r.2⟩)
  | none => s

end Sys2Proof.Machine
end

