-- ==== Sys2Proof/Machine/Gateway.lean ====
section
/-! DEFINITION. How a frame on ring-in is taken (R152 to R161), and how a request is answered (R159, R160, R168 to
R170). -/

namespace Sys2Proof.Machine

/-- A frame that passes the check sets the consecutive bad count to 0 (R153). -/
def State.goodFrame (s : State) : State := { s with ring := { s.ring with badCount := 0 } }

/-- A frame is taken: while the part is held in reset it passes through unchanged (R161), else it is acted on. -/
def State.takeFrame (s : State) (f : Frame) (act : State → State) : State :=
  if s.held then s.sendRing f else act s

/-- What executing a request gives: the status, the contents of the reply and the state after (R170). -/
structure Answer where
  status   : ReplyStatus
  contents : List Byte
  after    : State

/-- A refusal changes nothing and carries no contents (R169, R170). -/
def State.refuse (s : State) (st : ReplyStatus) : Answer := ⟨st, [], s⟩

/-- OK without contents. -/
def State.done (s : State) : Answer := ⟨.ok, [], s⟩

/-- "An item marked as refused in PRODUCTION is answered REFUSED_MODE while the mode is PRODUCTION." (R173) -/
def State.outsideProduction (s : State) (f : State → Answer) : Answer :=
  if s.faults.mode = .production then s.refuse .refusedMode else f s

/-- A REQUEST frame is taken (R159, R160): addressed to the part it is executed and rewritten into a REPLY, broadcast
it is sent on unchanged and executed where its kind is one that a broadcast takes, else it is sent on unchanged. The
watchdog in plain mode is restarted before the execution (R148). -/
def State.takeRequest (s : State) (q : RawRequest) (byBroadcast : Bool) (run : State → Answer) : State :=
  s.takeFrame (requestBytes q) fun s =>
    let s := s.goodFrame
    if q.address = 15 then
      let s := s.plainRestart
      let s := if byBroadcast then (run s).after else s
      s.sendRing (requestBytes q)
    else if q.address.toNat = s.management.address then
      let a := run s.plainRestart
      a.after.sendRing (replyBytes q.address q.kind q.tag (BitVec.ofNat 8 a.status.code) a.contents)
    else s.sendRing (requestBytes q)

/-- A request of a kind that a broadcast does not take. -/
def State.takeAddressed (s : State) (e : Envelope) (kind : Byte) (used : List Byte) (run : State → Answer) : State :=
  s.takeRequest (rawOf e kind used) false run

/-- A request of a kind that a broadcast takes: HEARTBEAT, SET_MODE, CLEAR_FAULT (R160). -/
def State.takeEither (s : State) (e : Envelope) (kind : Byte) (used : List Byte) (run : State → Answer) : State :=
  s.takeRequest (rawOf e kind used) true run

end Sys2Proof.Machine
end

