-- ==== Sys2Proof/Machine/ConfigItems.lean ====
section
/-! DEFINITION. The configuration items and their owners' checks (R173, and the owner of each item). A value is the
signed number of WRITE_CONFIG; an item given in steps is a count of those steps (R180). -/

namespace Sys2Proof.Machine

/-- A value outside its range is refused with BAD_VALUE; an accepted write stores it. -/
def State.ranged (s : State) (ok : Bool) (store : State) : Answer := if ok then store.done else s.refuse .badValue

/-! ### Angle Tracker and Zone Map (R2, R3, R22) -/

/-- CPR's effects (R3, R125); the TIMEBASE condition, which stands from LOST until the next lock, is removed (R11). -/
def State.storeCpr (s : State) (v : Nat) : State :=
  let s := { s with
    tracker := { s.tracker with
      cpr := v, state := .noTimebase, ref := none, pos := none, run := 0, jumpPending := false, gapTimer := none
      holdoverTimer := none }
    discharge := s.discharge.emptied }
  s.setCondition .timebase false

/-- CPR, checked in the order of R3. -/
def State.writeCpr (v : Int) (s : State) : Answer :=
  s.outsideProduction fun s =>
    if s.heads.toList.any Head.enrolled then s.refuse .refusedState
    else
      s.ranged (inRange v 1024 65535 && (2 * s.tracker.maxStep : Int) < v &&
        s.zones.rows.toList.all (fun r => !r.valid || (r.stop : Int) ≤ v) && (s.zones.dischargeAngle : Int) < v)
        (s.storeCpr v.toNat)

def State.writeMaximumStep (v : Int) (s : State) : Answer :=
  s.outsideProduction fun s =>
    s.ranged (inRange v 1 4096 && (s.tracker.cpr == 0 || 2 * v < (s.tracker.cpr : Int)))
      { s with tracker := { s.tracker with maxStep := v.toNat } }

def State.writeAcquireCount (v : Int) (s : State) : Answer :=
  s.outsideProduction fun s =>
    s.ranged (inRange v 2 16) { s with tracker := { s.tracker with acquireCount := v.toNat } }

/-- The gap limit, 0.5–16.0 ms in 0.5 ms steps. -/
def State.writeGapLimit (v : Int) (s : State) : Answer :=
  s.ranged (inRange v 1 32) { s with tracker := { s.tracker with gapLimit := v.toNat } }

def State.writeHoldoverLimit (v : Int) (s : State) : Answer :=
  s.ranged (inRange v 1 250) { s with tracker := { s.tracker with holdoverLimit := v.toNat } }

def State.writeTrackEdge (v : Int) (s : State) : Answer :=
  match TrackEdge.ofCode v with
  | some e => State.done { s with tracker := { s.tracker with edge := e } }
  | none => s.refuse .badValue

def State.writeBaseGap (v : Int) (s : State) : Answer :=
  s.outsideProduction fun s => s.ranged (inRange v 0 255) { s with zones := { s.zones with baseGap := v.toNat } }

/-- Θs: "1 to CPR − 1, and below Θd if Θd is set"; while CPR is 0 every write is refused (R22). -/
def State.writeSeatEnd (v : Int) (s : State) : Answer :=
  s.outsideProduction fun s =>
    s.ranged (1 ≤ v && v < (s.tracker.cpr : Int) &&
        (s.zones.dischargeAngle == 0 || v < (s.zones.dischargeAngle : Int)))
      { s with zones := { s.zones with seatEnd := v.toNat } }

/-- Θd: "1 to CPR − 1, and above Θs if Θs is set" (R22). -/
def State.writeDischargeAngle (v : Int) (s : State) : Answer :=
  s.outsideProduction fun s =>
    s.ranged (1 ≤ v && v < (s.tracker.cpr : Int) && (s.zones.seatEnd : Int) < v)
      { s with zones := { s.zones with dischargeAngle := v.toNat } }

/-! ### Management Unit (R174, R175) -/

def State.writeHeadCount (v : Int) (s : State) : Answer :=
  s.outsideProduction fun s =>
    if !(inRange v 1 48 && (s.management.stationBase : Int) + v - 1 ≤ 255) then s.refuse .badValue
    else if allHeads.any fun h => v ≤ (h.val : Int) && (s.head h).enrolled then s.refuse .refusedState
    else State.done { s with management := { s.management with headCount := v.toNat } }

def State.writeStationBase (v : Int) (s : State) : Answer :=
  s.outsideProduction fun s =>
    s.ranged (inRange v 0 255 &&
        (s.management.headCount == 0 || v + (s.management.headCount : Int) - 1 ≤ 255))
      { s with management := { s.management with stationBase := v.toNat } }

/-! ### Dose Sequencer, Meter Unit and Scanner (R62, R91, R112) -/

def State.writeVentLimit (v : Int) (s : State) : Answer :=
  s.ranged (inRange v 100 5000) { s with sequencer := { s.sequencer with ventLimit := v.toNat } }

def State.writeReleasePressure (v : Int) (s : State) : Answer :=
  s.ranged (inRange v 0 200) { s with sequencer := { s.sequencer with releasePressure := v.toNat } }

def State.writeStepLimit (v : Int) (s : State) : Answer :=
  s.ranged (inRange v 16 4095) { s with meterUnit := { s.meterUnit with stepLimit := v.toNat } }

def State.writeLeakLimit (v : Int) (s : State) : Answer :=
  s.ranged (inRange v 1 255) { s with meterUnit := { s.meterUnit with leakLimit := v.toNat } }

def State.writeWeight (v : Int) (s : State) : Answer :=
  s.ranged (inRange v 1 4) { s with meterUnit := { s.meterUnit with weight := v.toNat } }

/-- The reply timeout, 20–1000 µs in steps of 10 µs. -/
def State.writeReplyTimeout (v : Int) (s : State) : Answer :=
  s.ranged (inRange v 2 100) { s with scanner := { s.scanner with replyTimeout := v.toNat } }

/-- One of 1, 2, 4 or 8. -/
def powerLimit (v : Int) : Bool := v == 1 || v == 2 || v == 4 || v == 8

def State.writeMissLimit (v : Int) (s : State) : Answer :=
  s.ranged (powerLimit v) { s with scanner := { s.scanner with missLimit := v.toNat } }

def State.writeConfirmWindow (v : Int) (s : State) : Answer :=
  s.ranged (inRange v 1 8) { s with scanner := { s.scanner with confirmWindow := v.toNat } }

/-! ### Discharge Tracker (R114, R115) -/

/-- Master enable turned on or off; a write of the value held changes nothing (R115). -/
def State.storeMaster (s : State) (on : Bool) : State :=
  if s.discharge.master = on then s
  else if on then { s with discharge := { s.discharge with master := true } }
  else { s with discharge := { s.discharge.emptied with master := false } }

def State.writeMaster (v : Int) (s : State) : Answer :=
  s.outsideProduction fun s =>
    match onOff v with
    | some on =>
      if on ∧ (s.discharge.gate = 0 ∨ 14 < s.management.address) then s.refuse .refusedState
      else (s.storeMaster on).done
    | none => s.refuse .badValue

/-- The gate distance: "CPR is configured and the value lies in 1 to 4 × CPR". -/
def State.writeGate (v : Int) (s : State) : Answer :=
  s.outsideProduction fun s =>
    s.ranged (s.tracker.cpr != 0 && inRange v 1 (4 * s.tracker.cpr))
      { s with discharge := { s.discharge with gate := v.toNat } }

def State.writePulseWidth (v : Int) (s : State) : Answer :=
  s.outsideProduction fun s =>
    s.ranged (inRange v 5 250) { s with discharge := { s.discharge with pulseWidth := v.toNat } }

/-! ### Fault Unit (R132, R142, R143, R146) -/

/-- The action table: a class outside the fourteen, then RESET and LOCKOUT, then the action (R132). -/
def State.writeAction (sel : Byte) (v : Int) (s : State) : Answer :=
  match FaultClass.ofCode sel.toNat with
  | none => s.refuse .badValue
  | some c =>
    if c = .reset ∨ c = .lockout then s.refuse .refusedState
    else
      match Action.ofCode v with
      | some a => (s.updRecord c fun r => { r with action := a }).done
      | none => s.refuse .badValue

/-- The LOCKOUT condition is removed when the count is below the limit; at or above it, LOCKOUT LIMIT is raised where
the condition is absent (R142). -/
def State.recheckLockout (s : State) : State :=
  if s.lockoutCount < s.faults.lockoutLimit then s.setCondition .lockout false else s.checkLockout

def State.writeLockoutLimit (v : Int) (s : State) : Answer :=
  s.ranged (inRange v 1 8)
    ({ s with faults := { s.faults with lockoutLimit := v.toNat } } : State).recheckLockout

/-- The range of a low or high limit of a monitor (R143). -/
def MonitorName.inRange : MonitorName → Int → Bool
  | .pressure, v => Machine.inRange v 0 1000
  | .temperature, v => -500 ≤ v && v ≤ 1000

/-- The monitor's band is not empty (R143). -/
def Monitor.hasBand (m : Monitor) : Bool := m.low + m.hysteresis ≤ m.high - m.hysteresis

/-- A write of one item of a monitor, chosen by the selector (R143). -/
def State.writeMonitor (sel : Byte) (s : State) (ok : MonitorName → Bool) (f : Monitor → Monitor) : Answer :=
  match MonitorName.ofCode sel.toNat with
  | none => s.refuse .badValue
  | some n => s.ranged (ok n && (f (s.monitor n)).hasBand) (s.setMonitor n (f (s.monitor n)))

def State.writeLowLimit (sel : Byte) (v : Int) (s : State) : Answer :=
  s.writeMonitor sel (fun n => n.inRange v) fun m => { m with low := v }

def State.writeHighLimit (sel : Byte) (v : Int) (s : State) : Answer :=
  s.writeMonitor sel (fun n => n.inRange v) fun m => { m with high := v }

def State.writeHysteresis (sel : Byte) (v : Int) (s : State) : Answer :=
  s.writeMonitor sel (fun _ => Machine.inRange v 0 100) fun m => { m with hysteresis := v }

def State.writeSuccessiveCount (sel : Byte) (v : Int) (s : State) : Answer :=
  s.writeMonitor sel (fun _ => Machine.inRange v 1 8) fun m => { m with n := v.toNat }

/-- Heartbeat enable turned on or off; a write of the value held changes nothing (R146). -/
def State.storeHeartbeatEnable (s : State) (on : Bool) : State :=
  let w := s.faults.watchdog
  if w.enable = on then s
  else if on then s.setWatchdog { w.start with enable := true }
  else (s.setWatchdog { w with enable := false, state := .disabled, timer := none }).setCondition .heartbeat false

def State.writeHeartbeatEnable (v : Int) (s : State) : Answer :=
  match onOff v with
  | some on => (s.storeHeartbeatEnable on).done
  | none => s.refuse .badValue

/-- The upper limit, 10–2550 ms in steps of 10 ms; not one that leaves a lower limit above 0 at more than it − 10 ms
(R146). -/
def State.writeHeartbeatUpper (v : Int) (s : State) : Answer :=
  let w := s.faults.watchdog
  s.ranged (inRange v 1 255 && (w.lower == 0 || (w.lower : Int) ≤ v - 1))
    (s.setWatchdog { w with upper := v.toNat })

/-- The lower limit: 0, or 10 ms to upper limit − 10 ms. -/
def State.writeHeartbeatLower (v : Int) (s : State) : Answer :=
  let w := s.faults.watchdog
  s.ranged (v == 0 || (1 ≤ v && v ≤ (w.upper : Int) - 1)) (s.setWatchdog { w with lower := v.toNat })

/-! ### Ring Interface and Report Queue (R153, R156, R163) -/

def State.writeRingLimit (v : Int) (s : State) : Answer :=
  s.ranged (powerLimit v) { s with ring := { s.ring with limit := v.toNat } }

def State.writeThreshold (v : Int) (s : State) : Answer :=
  s.ranged (inRange v 1 32) { s with reports := { s.reports with threshold := v.toNat } }

def State.writePriority (sel : Byte) (v : Int) (s : State) : Answer :=
  match ReportKind.ofCode sel.toNat with
  | none => s.refuse .badValue
  | some k =>
    s.ranged (inRange v 0 3) { s with reports := { s.reports with prios := s.reports.prios.set k.row v.toNat } }

/-- The write of an item given by its code; an item outside the table of section 9.4 is UNKNOWN (R173). -/
def writeItem (item sel : Byte) (v : Int) (s : State) : Answer :=
  match item.toNat with
  | 1 => s.writeCpr v
  | 2 => s.writeMaximumStep v
  | 3 => s.writeAcquireCount v
  | 4 => s.writeGapLimit v
  | 5 => s.writeHoldoverLimit v
  | 6 => s.writeTrackEdge v
  | 7 => s.writeBaseGap v
  | 8 => s.writeSeatEnd v
  | 9 => s.writeDischargeAngle v
  | 10 => s.writeHeadCount v
  | 11 => s.writeStationBase v
  | 12 => s.writeVentLimit v
  | 13 => s.writeReleasePressure v
  | 14 => s.writeStepLimit v
  | 15 => s.writeLeakLimit v
  | 16 => s.writeWeight v
  | 17 => s.writeReplyTimeout v
  | 18 => s.writeMissLimit v
  | 19 => s.writeConfirmWindow v
  | 20 => s.writeMaster v
  | 21 => s.writeGate v
  | 22 => s.writePulseWidth v
  | 23 => s.writeAction sel v
  | 24 => s.writeLockoutLimit v
  | 25 => s.writeLowLimit sel v
  | 26 => s.writeHighLimit sel v
  | 27 => s.writeHysteresis sel v
  | 28 => s.writeSuccessiveCount sel v
  | 29 => s.writeHeartbeatEnable v
  | 30 => s.writeHeartbeatUpper v
  | 31 => s.writeHeartbeatLower v
  | 32 => s.writeRingLimit v
  | 33 => s.writeThreshold v
  | 34 => s.writePriority sel v
  | _ => s.refuse .unknown

end Sys2Proof.Machine
end

