-- ==== Sys2Proof/Machine/ConfigWrites.lean ====
section
/-! DEFINITION. WRITE_CONFIG (R173): one command per item of the table of section 9.4, and one for an item that is not
in it. -/

namespace Sys2Proof.Machine

open Host

/-- A WRITE_CONFIG REQUEST of an item (R181). -/
def State.takeWrite (s : State) (e : Envelope) (item x : Byte) (value : Word) (write : State → Answer) : State :=
  s.takeAddressed e 4 (configBody item x value) write

/-- WRITE_CONFIG of an item given by its code (R173). -/
def execWriteConfig (e : Envelope) (item x : Byte) (value : Word) (s : State) : Outcome State Fault Refusal :=
  .next (s.takeWrite e item x value fun s => writeItem item x value.toInt s)

/-- WRITE_CONFIG of the CPR (R3). -/
def execWriteConfigCpr (e : Envelope) (x : Byte) (value : Word) (s : State) : Outcome State Fault Refusal :=
  .next (s.takeWrite e 1 x value fun s => s.writeCpr value.toInt)

/-- WRITE_CONFIG of the maximum step (R2). -/
def execWriteConfigMaximumStep (e : Envelope) (x : Byte) (value : Word) (s : State) : Outcome State Fault Refusal :=
  .next (s.takeWrite e 2 x value fun s => s.writeMaximumStep value.toInt)

/-- WRITE_CONFIG of the acquire count (R2). -/
def execWriteConfigAcquireCount (e : Envelope) (x : Byte) (value : Word) (s : State) : Outcome State Fault Refusal :=
  .next (s.takeWrite e 3 x value fun s => s.writeAcquireCount value.toInt)

/-- WRITE_CONFIG of the gap limit (R2). -/
def execWriteConfigGapLimit (e : Envelope) (x : Byte) (value : Word) (s : State) : Outcome State Fault Refusal :=
  .next (s.takeWrite e 4 x value fun s => s.writeGapLimit value.toInt)

/-- WRITE_CONFIG of the holdover limit (R2). -/
def execWriteConfigHoldoverLimit (e : Envelope) (x : Byte) (value : Word) (s : State) : Outcome State Fault Refusal :=
  .next (s.takeWrite e 5 x value fun s => s.writeHoldoverLimit value.toInt)

/-- WRITE_CONFIG of the TRACK report edge (R2). -/
def execWriteConfigTrackReportEdge (e : Envelope) (x : Byte) (value : Word) (s : State) : Outcome State Fault Refusal :=
  .next (s.takeWrite e 6 x value fun s => s.writeTrackEdge value.toInt)

/-- WRITE_CONFIG of the base gap (R22). -/
def execWriteConfigBaseGap (e : Envelope) (x : Byte) (value : Word) (s : State) : Outcome State Fault Refusal :=
  .next (s.takeWrite e 7 x value fun s => s.writeBaseGap value.toInt)

/-- WRITE_CONFIG of the seat window end Θs (R22). -/
def execWriteConfigSeatWindowEnd (e : Envelope) (x : Byte) (value : Word) (s : State) : Outcome State Fault Refusal :=
  .next (s.takeWrite e 8 x value fun s => s.writeSeatEnd value.toInt)

/-- WRITE_CONFIG of the discharge angle Θd (R22). -/
def execWriteConfigDischargeAngle (e : Envelope) (x : Byte) (value : Word) (s : State) : Outcome State Fault Refusal :=
  .next (s.takeWrite e 9 x value fun s => s.writeDischargeAngle value.toInt)

/-- WRITE_CONFIG of the head count (R174). -/
def execWriteConfigHeadCount (e : Envelope) (x : Byte) (value : Word) (s : State) : Outcome State Fault Refusal :=
  .next (s.takeWrite e 10 x value fun s => s.writeHeadCount value.toInt)

/-- WRITE_CONFIG of the station base (R175). -/
def execWriteConfigStationBase (e : Envelope) (x : Byte) (value : Word) (s : State) : Outcome State Fault Refusal :=
  .next (s.takeWrite e 11 x value fun s => s.writeStationBase value.toInt)

/-- WRITE_CONFIG of the vent limit (R62). -/
def execWriteConfigVentLimit (e : Envelope) (x : Byte) (value : Word) (s : State) : Outcome State Fault Refusal :=
  .next (s.takeWrite e 12 x value fun s => s.writeVentLimit value.toInt)

/-- WRITE_CONFIG of the release pressure (R62). -/
def execWriteConfigReleasePressure (e : Envelope) (x : Byte) (value : Word) (s : State) : Outcome State Fault Refusal :=
  .next (s.takeWrite e 13 x value fun s => s.writeReleasePressure value.toInt)

/-- WRITE_CONFIG of the step limit (R91). -/
def execWriteConfigStepLimit (e : Envelope) (x : Byte) (value : Word) (s : State) : Outcome State Fault Refusal :=
  .next (s.takeWrite e 14 x value fun s => s.writeStepLimit value.toInt)

/-- WRITE_CONFIG of the leak limit (R91). -/
def execWriteConfigLeakLimit (e : Envelope) (x : Byte) (value : Word) (s : State) : Outcome State Fault Refusal :=
  .next (s.takeWrite e 15 x value fun s => s.writeLeakLimit value.toInt)

/-- WRITE_CONFIG of the learning weight (R91). -/
def execWriteConfigLearningWeight (e : Envelope) (x : Byte) (value : Word) (s : State) : Outcome State Fault Refusal :=
  .next (s.takeWrite e 16 x value fun s => s.writeWeight value.toInt)

/-- WRITE_CONFIG of the reply timeout (R112). -/
def execWriteConfigReplyTimeout (e : Envelope) (x : Byte) (value : Word) (s : State) : Outcome State Fault Refusal :=
  .next (s.takeWrite e 17 x value fun s => s.writeReplyTimeout value.toInt)

/-- WRITE_CONFIG of the miss limit (R112). -/
def execWriteConfigMissLimit (e : Envelope) (x : Byte) (value : Word) (s : State) : Outcome State Fault Refusal :=
  .next (s.takeWrite e 18 x value fun s => s.writeMissLimit value.toInt)

/-- WRITE_CONFIG of the confirm window (R112). -/
def execWriteConfigConfirmWindow (e : Envelope) (x : Byte) (value : Word) (s : State) : Outcome State Fault Refusal :=
  .next (s.takeWrite e 19 x value fun s => s.writeConfirmWindow value.toInt)

/-- WRITE_CONFIG of the master enable (R114, R115). -/
def execWriteConfigMasterEnable (e : Envelope) (x : Byte) (value : Word) (s : State) : Outcome State Fault Refusal :=
  .next (s.takeWrite e 20 x value fun s => s.writeMaster value.toInt)

/-- WRITE_CONFIG of the gate distance (R114). -/
def execWriteConfigGateDistance (e : Envelope) (x : Byte) (value : Word) (s : State) : Outcome State Fault Refusal :=
  .next (s.takeWrite e 21 x value fun s => s.writeGate value.toInt)

/-- WRITE_CONFIG of the reject pulse width (R114). -/
def execWriteConfigRejectPulseWidth (e : Envelope) (x : Byte) (value : Word) (s : State) : Outcome State Fault Refusal :=
  .next (s.takeWrite e 22 x value fun s => s.writePulseWidth value.toInt)

/-- WRITE_CONFIG of the action of a class (R132). -/
def execWriteConfigAction (e : Envelope) (x : Byte) (value : Word) (s : State) : Outcome State Fault Refusal :=
  .next (s.takeWrite e 23 x value fun s => s.writeAction x value.toInt)

/-- WRITE_CONFIG of the lockout limit (R142). -/
def execWriteConfigLockoutLimit (e : Envelope) (x : Byte) (value : Word) (s : State) : Outcome State Fault Refusal :=
  .next (s.takeWrite e 24 x value fun s => s.writeLockoutLimit value.toInt)

/-- WRITE_CONFIG of the low limit of a monitor (R143). -/
def execWriteConfigLowLimit (e : Envelope) (x : Byte) (value : Word) (s : State) : Outcome State Fault Refusal :=
  .next (s.takeWrite e 25 x value fun s => s.writeLowLimit x value.toInt)

/-- WRITE_CONFIG of the high limit of a monitor (R143). -/
def execWriteConfigHighLimit (e : Envelope) (x : Byte) (value : Word) (s : State) : Outcome State Fault Refusal :=
  .next (s.takeWrite e 26 x value fun s => s.writeHighLimit x value.toInt)

/-- WRITE_CONFIG of the hysteresis of a monitor (R143). -/
def execWriteConfigHysteresis (e : Envelope) (x : Byte) (value : Word) (s : State) : Outcome State Fault Refusal :=
  .next (s.takeWrite e 27 x value fun s => s.writeHysteresis x value.toInt)

/-- WRITE_CONFIG of the successive count of a monitor (R143). -/
def execWriteConfigSuccessiveCount (e : Envelope) (x : Byte) (value : Word) (s : State) : Outcome State Fault Refusal :=
  .next (s.takeWrite e 28 x value fun s => s.writeSuccessiveCount x value.toInt)

/-- WRITE_CONFIG of the heartbeat enable (R146). -/
def execWriteConfigHeartbeatEnable (e : Envelope) (x : Byte) (value : Word) (s : State) : Outcome State Fault Refusal :=
  .next (s.takeWrite e 29 x value fun s => s.writeHeartbeatEnable value.toInt)

/-- WRITE_CONFIG of the heartbeat upper limit (R146). -/
def execWriteConfigHeartbeatUpperLimit (e : Envelope) (x : Byte) (value : Word) (s : State) : Outcome State Fault Refusal :=
  .next (s.takeWrite e 30 x value fun s => s.writeHeartbeatUpper value.toInt)

/-- WRITE_CONFIG of the heartbeat lower limit (R146). -/
def execWriteConfigHeartbeatLowerLimit (e : Envelope) (x : Byte) (value : Word) (s : State) : Outcome State Fault Refusal :=
  .next (s.takeWrite e 31 x value fun s => s.writeHeartbeatLower value.toInt)

/-- WRITE_CONFIG of the RING limit (R153). -/
def execWriteConfigRingLimit (e : Envelope) (x : Byte) (value : Word) (s : State) : Outcome State Fault Refusal :=
  .next (s.takeWrite e 32 x value fun s => s.writeRingLimit value.toInt)

/-- WRITE_CONFIG of the backlog threshold (R156). -/
def execWriteConfigBacklogThreshold (e : Envelope) (x : Byte) (value : Word) (s : State) : Outcome State Fault Refusal :=
  .next (s.takeWrite e 33 x value fun s => s.writeThreshold value.toInt)

/-- WRITE_CONFIG of the priority of a report kind (R163). -/
def execWriteConfigPriority (e : Envelope) (x : Byte) (value : Word) (s : State) : Outcome State Fault Refusal :=
  .next (s.takeWrite e 34 x value fun s => s.writePriority x value.toInt)

end Sys2Proof.Machine
end

