-- ==== Sys2Proof/Machine/Events.lean ====
section
/-! DEFINITION. The stop line, the timers, the valve bus and the verifier as commands. While the part is held in reset
no such event is taken (R178). -/

namespace Sys2Proof.Machine

open Host

/-- An event that reaches a block of the part (R178). -/
def State.takeEvent (s : State) (f : State → State) : State := if s.held then s else f s

/-- The stop line is pulled low by another party (R140, R141). -/
def execStopLineFall (s : State) : Outcome State Fault Refusal := .next s.lineFalls

/-- The last other party that pulled the stop line low releases it (R140, R141). -/
def execStopLineRise (s : State) : Outcome State Fault Refusal := .next s.lineRises

/-- The gap timer expires (R9). -/
def execGapTimerExpiry (s : State) : Outcome State Fault Refusal := .next (s.takeEvent State.gapExpired)

/-- The holdover timer expires (R11). -/
def execHoldoverTimerExpiry (s : State) : Outcome State Fault Refusal := .next (s.takeEvent State.holdoverExpired)

/-- A head's vent timer expires (R63). -/
def execVentTimerExpiry (head : HeadId) (s : State) : Outcome State Fault Refusal :=
  .next (s.takeEvent fun s => s.ventExpired head)

/-- A frame is received on the valve bus (R102, R103). -/
def execStatus (frame : BusFrame) (s : State) : Outcome State Fault Refusal :=
  .next (s.takeEvent fun s => s.receive frame)

/-- The reply timer expires (R102): the exchange in flight ends with no frame. -/
def execReplyTimerExpiry (s : State) : Outcome State Fault Refusal :=
  .next (s.takeEvent fun s => s.endExchange none)

/-- The pulse timer expires (R123). -/
def execPulseTimerExpiry (s : State) : Outcome State Fault Refusal :=
  .next (s.takeEvent fun s => { s with discharge := { s.discharge with pulse := none } })

/-- The heartbeat watchdog's timer expires (R147, R148). -/
def execHeartbeatTimerExpiry (s : State) : Outcome State Fault Refusal :=
  .next (s.takeEvent State.heartbeatExpired)

/-- The verification completes (R30, R32). -/
def execVerificationComplete (s : State) : Outcome State Fault Refusal := .next (s.takeEvent State.verification)

end Sys2Proof.Machine
end

