-- ==== Sys2Proof/Machine/Frames.lean ====
section
/-! DEFINITION. Frames on ring-in other than the seventeen requests (R152 to R161). -/

namespace Sys2Proof.Machine

open Host

/-- The backlog mark sent on (R155, R181): "A part that raises the mark writes 1. A mark that arrived set is sent on as
it arrived." -/
def ReportQueue.markSent (q : ReportQueue) (mark : Byte) : Byte :=
  if mark ≠ 0 then mark else if q.threshold ≤ q.queue.length then 1 else 0

/-- The bowl readings go to the two supply monitors (R144, R155); the order of the two is the arbiter's
(notes/assumptions/4.md). -/
def State.takeReadings (s : State) (pressure temp : Half) : State :=
  if s.arbiter.temperatureFirst then (s.sample .temperature temp.toInt).sample .pressure pressure.toNat
  else (s.sample .pressure pressure.toNat).sample .temperature temp.toInt

/-- The two handovers of an ANGLE frame (R155); their order is the arbiter's (notes/assumptions/4.md). -/
def State.handAngle (s : State) (p : Pos) (pressure temp : Half) : State :=
  if s.arbiter.supplyFirst then (s.takeReadings pressure temp).trackAngle p
  else (s.trackAngle p).takeReadings pressure temp

/-- An ANGLE frame is acted on and sent on (R155). Whether its mark is judged before or after the reports that the frame
itself creates is the arbiter's (notes/assumptions/4.md). -/
def State.takeAngleFrame (s : State) (rev count pressure temp : Half) (mark : Byte) : State :=
  let s := s.goodFrame
  let t := s.handAngle ⟨rev.toNat, count.toNat⟩ pressure temp
  let judged := if s.arbiter.markLast then t.reports else s.reports
  t.sendRing (angleBytes rev count pressure temp (judged.markSent mark))

/-- ANGLE (R155). -/
def execAngleFrame (rev count pressure temp : Half) (mark : Byte) (s : State) : Outcome State Fault Refusal :=
  .next (s.takeFrame (angleBytes rev count pressure temp mark) fun s =>
    s.takeAngleFrame rev count pressure temp mark)

/-- CARRIER (R157): filled with the report at the head of the queue, sent on unchanged while the queue is empty. -/
def execCarrierFrame (content : List Byte) (s : State) : Outcome State Fault Refusal :=
  .next (s.takeFrame (carrierBytes content) fun s =>
    let s := s.goodFrame
    match s.reports.queue with
    | r :: rest => s.fillCarrier r rest
    | [] => s.sendRing (carrierBytes content))

/-- A passing DOSE report is taken on the discharge master, unless its source is the part's own address or no address
of the source sequence table (R117); a verdict code outside the list is not one that is rejected
(notes/assumptions/15.md). -/
def State.takePassing (s : State) (source : Nat) (payload : List Byte) : State :=
  if h : s.discharge.master ∧ source ≠ s.management.address ∧ source < 15 then
    s.takeDose ⟨source, h.2.2⟩ (halfAt payload 25).toNat (byteAt payload 3).toNat (halfAt payload 4).toNat
      ((Verdict.ofCode (byteAt payload 1).toNat).getD .good) ⟨(halfAt payload 21).toNat, (halfAt payload 23).toNat⟩
  else s

/-- REPORT (R158). -/
def execReportFrame (source kind : Byte) (transmit : Half) (dropped : Byte) (payload : List Byte) (s : State) :
    Outcome State Fault Refusal :=
  let f := reportBytes source kind transmit dropped payload
  .next (s.takeFrame f fun s =>
    let s := s.goodFrame
    let s := if kind.toNat = ReportKind.dose.code then s.takePassing source.toNat payload else s
    s.sendRing f)

/-- REPLY (R158): sent on unchanged. -/
def execReplyFrame (bytes : Frame) (s : State) : Outcome State Fault Refusal :=
  .next (s.takeFrame bytes fun s => s.goodFrame.sendRing bytes)

/-- A frame of no known kind (R154): sent on unchanged, a good frame for the bad count. -/
def execUnknownKindFrame (bytes : Frame) (s : State) : Outcome State Fault Refusal :=
  .next (s.takeFrame bytes fun s => s.goodFrame.sendRing bytes)

/-- The bad count after a failed frame: RING CRC at the limit (R153). -/
def State.countBad (s : State) : State :=
  let n := s.ring.badCount + 1
  if s.ring.limit ≤ n then
    ({ s with ring := { s.ring with badCount := 0 } } : State).raisePart .ringCrc none none
  else { s with ring := { s.ring with badCount := n } }

/-- A frame that fails the check (R153): counted and sent on unchanged. -/
def execBadFrame (bytes : Frame) (s : State) : Outcome State Fault Refusal :=
  .next (s.takeFrame bytes fun s => s.countBad.sendRing bytes)

/-- The bypass while the part is held in reset (R161): no frame is checked, counted or acted on. -/
def execRingBypass (bytes : Frame) (s : State) : Outcome State Fault Refusal :=
  .next (s.sendRing bytes)

/-- A REQUEST for another part (R159): sent on unchanged. -/
def execRequestNotAddressed (q : RawRequest) (s : State) : Outcome State Fault Refusal :=
  .next (s.takeFrame (requestBytes q) fun s => s.goodFrame.sendRing (requestBytes q))

/-- A broadcast of a kind that broadcast does not take (R160): it restarts the watchdog in plain mode (R148) and is
sent on unchanged. -/
def execBroadcast (q : RawRequest) (s : State) : Outcome State Fault Refusal :=
  .next (s.takeFrame (requestBytes q) fun s => s.goodFrame.plainRestart.sendRing (requestBytes q))

/-- A request of a kind outside the seventeen: answered UNKNOWN (R169). -/
def execUnknown (q : RawRequest) (s : State) : Outcome State Fault Refusal :=
  .next (s.takeRequest q false fun s => s.refuse .unknown)

end Sys2Proof.Machine
end

