-- ==== Sys2Proof/Machine/HeadRequests.lean ====
section
/-! DEFINITION. The requests that act on a head: ENROLL, CALIBRATE, WITHDRAW, RELEASE (R71 to R73, R76). -/

namespace Sys2Proof.Machine

open Host

/-- The head of a request, below the configured head count; every other is BAD_ROW (R174). -/
def State.onHead (s : State) (b : Byte) (f : HeadId → Answer) : Answer :=
  match headOf s.management.headCount b with
  | some h => f h
  | none => s.refuse .badRow

/-- The context of a head just enrolled (R71, R75, R96). -/
def Head.enrol (c : Head) (offset : Nat) (k : Calib) : Head :=
  { Head.blank with
    offset := some offset
    calib := some k
    overrun := k.overrun
    scan := { ScanRecord.blank with seq := c.scan.seq } }

/-- ENROLL's effects (R71). -/
def State.enrolHead (s : State) (h : HeadId) (offset : Nat) (k : Calib) : State :=
  ((s.updHead h fun c => c.enrol offset k).changeState h .idle).post h

/-- ENROLL (R71). -/
def State.enrol (b : Byte) (offset : Half) (f : CalibFields) (s : State) : Answer :=
  s.onHead b fun h =>
    if (s.head h).enrolled then s.refuse .refusedState
    else if offset.toNat < s.tracker.cpr ∧ (calibOf f).inRange then
      ⟨.ok, nat8 (s.station h), s.enrolHead h offset.toNat (calibOf f)⟩
    else s.refuse .badValue

/-- CALIBRATE (R76). -/
def State.calibrate (b : Byte) (f : CalibFields) (s : State) : Answer :=
  s.onHead b fun h =>
    let st := (s.head h).state
    if ¬(st = .off ∨ st = .idle) then s.refuse .refusedState
    else if (calibOf f).inRange then
      (s.updHead h fun c => { c with calib := some (calibOf f), overrun := (calibOf f).overrun }).done
    else s.refuse .badValue

/-- Withdraw-pending is set. -/
def State.setWithdraw (s : State) (h : HeadId) : State := s.updHead h fun c => { c with withdraw := true }

/-- WITHDRAW's effect on a head that is neither OFF nor in LOCKOUT (R72). -/
def State.withdrawHead (s : State) (h : HeadId) : State :=
  match (s.head h).state with
  | .idle => s.enterOff h
  | .seating => (s.setWithdraw h).giveUpSeating h .skipped (some .withdraw)
  | .running => (s.setWithdraw h).enterAborting h
  | .done | .emptyPass | .aborting | .forced => s.setWithdraw h
  | .off | .lockout => s

/-- WITHDRAW (R72); a flag already set changes nothing more. A parity error of the context is taken as for every event
of the head, and the reply stands (notes/assumptions/9.md). -/
def State.withdraw (b : Byte) (s : State) : Answer :=
  s.onHead b fun h =>
    let c := s.head h
    if c.state = .off ∨ c.state = .lockout then s.refuse .refusedState
    else if c.withdraw then s.done
    else (s.headEvent h fun s => s.withdrawHead h).done

/-- RELEASE's effect: the hold flag cleared, and LOCKOUT left (R73), with the lockout count looked at again (R142). -/
def State.releaseHead (s : State) (h : HeadId) : State :=
  let s := s.updHead h fun c => { c with hold := false }
  if (s.head h).state = .lockout then (s.leaveSafeClose h).recheckLockout else s

/-- RELEASE (R73). -/
def State.release (b : Byte) (s : State) : Answer :=
  s.onHead b fun h =>
    if s.faults.mode = .production then s.refuse .refusedMode
    else if (s.head h).state = .lockout ∨ (s.head h).hold then (s.headEvent h fun s => s.releaseHead h).done
    else s.refuse .refusedState

/-- ENROLL (R71). -/
def execEnroll (e : Envelope) (head : Byte) (offset : Half) (f : CalibFields) (s : State) :
    Outcome State Fault Refusal :=
  .next (s.takeAddressed e 11 (head :: halfBytes offset ++ calibBytes f) fun s => s.enrol head offset f)

/-- CALIBRATE (R76). -/
def execCalibrate (e : Envelope) (head : Byte) (f : CalibFields) (s : State) : Outcome State Fault Refusal :=
  .next (s.takeAddressed e 12 (head :: calibBytes f) fun s => s.calibrate head f)

/-- WITHDRAW (R72). -/
def execWithdraw (e : Envelope) (head : Byte) (s : State) : Outcome State Fault Refusal :=
  .next (s.takeAddressed e 13 [head] fun s => s.withdraw head)

/-- RELEASE (R73). -/
def execRelease (e : Envelope) (head : Byte) (s : State) : Outcome State Fault Refusal :=
  .next (s.takeAddressed e 14 [head] fun s => s.release head)

end Sys2Proof.Machine
end

