-- ==== Sys2Proof/Machine/Management.lean ====
section
/-! DEFINITION. HEARTBEAT, SET_MODE, CLEAR_FAULT, POP_SNAPSHOT and RESET_PART (R129 to R131, R138, R146 to R150,
R178). -/

namespace Sys2Proof.Machine

open Host

/-! ### Modes -/

/-- The leave conditions, for SAFE to STANDBY (R129). -/
def State.mayLeaveSafe (s : State) : Bool :=
  s.stopEmpty && s.sensedHigh && s.lockoutCount < s.faults.lockoutLimit &&
    s.faults.records.toList.all fun r => !(r.condition && r.action == .stop)

/-- The start conditions, for STANDBY to PRODUCTION (R129). -/
def State.mayStartProduction (s : State) : Bool :=
  s.tracker.cpr != 0 && s.zones.seatEnd != 0 && s.zones.dischargeAngle != 0 && s.zones.rows.toList.any (·.valid) &&
    s.heads.toList.any Head.enrolled

/-- A change of mode by request, with its MODE report (R128, R131). -/
def State.changeMode (s : State) (m : Mode) : State :=
  let left := s.faults.mode
  ({ s with faults := { s.faults with mode := m } } : State).report (.mode left m none)

/-- The status and effect of SET_MODE for one of the three modes (R129). -/
def State.requestMode (s : State) (m : Mode) : ReplyStatus × State :=
  match m, s.faults.mode with
  | .safe, _ => (.ok, s.enterSafe none)
  | .standby, .safe => if s.mayLeaveSafe then (.ok, s.changeMode .standby) else (.refusedState, s)
  | .standby, .standby => (.ok, s)
  | .standby, .production => (.ok, s.changeMode .standby)
  | .production, .safe => (.refusedMode, s)
  | .production, .standby =>
    if s.mayStartProduction then (.ok, s.changeMode .production) else (.refusedState, s)
  | .production, .production => (.ok, s)

/-- SET_MODE (R129): its reply carries "the mode as it stands after the request" whatever the status (R170). -/
def State.setMode (b : Byte) (s : State) : Answer :=
  let r := match Mode.ofCode b.toNat with
    | some m => s.requestMode m
    | none => (.badValue, s)
  ⟨r.1, nat8 r.2.faults.mode.code, r.2⟩

/-! ### Faults and snapshots -/

/-- CLEAR_FAULT (R138). -/
def State.clear (b : Byte) (s : State) : Answer :=
  match FaultClass.ofCode b.toNat with
  | none => s.refuse .badValue
  | some c => if (s.record c).condition then s.refuse .refusedState else (s.clearFault c).done

/-- POP_SNAPSHOT (R150); the overflow flag is cleared if the stack is then empty. -/
def State.pop (s : State) : Answer :=
  let flag := flag8 s.faults.overflow
  match s.faults.snapshots with
  | x :: rest =>
    ⟨.ok, flag ++ x.bytes,
      { s with faults := { s.faults with snapshots := rest, overflow := s.faults.overflow && !rest.isEmpty } }⟩
  | [] => ⟨.empty, flag, { s with faults := { s.faults with overflow := false } }⟩

/-! ### The commands -/

/-- HEARTBEAT (R146 to R148): in plain mode the request itself has restarted the watchdog; the mode that counts is
that at the arrival. -/
def execHeartbeat (e : Envelope) (elapsed : Nat) (s : State) : Outcome State Fault Refusal :=
  .next (s.takeEither e 1 [] fun t => (if s.windowMode then t.windowHeartbeat elapsed else t).done)

/-- SET_MODE (R129). -/
def execSetMode (e : Envelope) (mode : Byte) (s : State) : Outcome State Fault Refusal :=
  .next (s.takeEither e 2 [mode] fun s => s.setMode mode)

/-- CLEAR_FAULT (R138). -/
def execClearFault (e : Envelope) (cls : Byte) (s : State) : Outcome State Fault Refusal :=
  .next (s.takeEither e 15 [cls] fun s => s.clear cls)

/-- POP_SNAPSHOT (R150). -/
def execPopSnapshot (e : Envelope) (s : State) : Outcome State Fault Refusal :=
  .next (s.takeAddressed e 16 [] State.pop)

/-- RESET_PART (R178): answered OK; from then on the part is held until its reset ends (R161). -/
def execResetPart (e : Envelope) (s : State) : Outcome State Fault Refusal :=
  .next (s.takeAddressed e 17 [] fun s => State.done { s with resets := { s.resets with ringPending := true } })

end Sys2Proof.Machine
end

