-- ==== Sys2Proof/Machine/Reads.lean ====
section
/-! DEFINITION. READ (R171): one command per table, and one for a table that is not among the eleven. -/

namespace Sys2Proof.Machine

open Host

/-- A row returned: nothing changes (R171). -/
def State.show (s : State) (bytes : List Byte) : Answer := ⟨.ok, bytes, s⟩

/-- A table of one row. -/
def State.readSingle (s : State) (r : Byte) (bytes : List Byte) : Answer :=
  if r = 0 then s.show bytes else s.refuse .badRow

def State.readZoneRow (s : State) (r : Byte) : Answer :=
  if h : r.toNat < 8 then s.show s.zones.rows[r.toNat].bytes else s.refuse .badRow

def State.readSlotRow (s : State) (r : Byte) : Answer :=
  match slotOf r with
  | some j => s.show (s.slotRow j)
  | none => s.refuse .badRow

/-- The SEGMENT table (R41): EMPTY for an index at or above the segment count, in a FREE slot, or unwritten. -/
def State.readSegmentRow (s : State) (slot index : Byte) : Answer :=
  match slotOf slot, indexOf index with
  | some j, some k =>
    let t := s.slot j
    let cell := t.cells[k]
    if t.state = .free ∨ t.segCount.getD 0 ≤ k.val ∨ !cell.written then s.refuse .empty
    else s.show cell.record.bytes
  | _, _ => s.refuse .badRow

def State.readHeadRow (s : State) (r : Byte) : Answer :=
  if h : r.toNat < 48 then s.show (s.headRow ⟨r.toNat, h⟩) else s.refuse .badRow

def State.readCalibRow (s : State) (r : Byte) : Answer :=
  if h : r.toNat < 48 then s.show (s.head ⟨r.toNat, h⟩).calibRow else s.refuse .badRow

def State.readFaultRow (s : State) (r : Byte) : Answer :=
  match FaultClass.ofCode r.toNat with
  | some c => s.show (s.record c).row
  | none => s.refuse .badRow

/-- READ of any table; the second row byte is the index of the SEGMENT table (R181). A table outside the eleven is
UNKNOWN. -/
def State.readTable (s : State) (table r index : Byte) : Answer :=
  match table.toNat with
  | 1 => s.readSingle r s.partRow
  | 2 => s.readSingle r s.trackerRow
  | 3 => s.readZoneRow r
  | 4 => s.readSlotRow r
  | 5 => s.readSegmentRow r index
  | 6 => s.readHeadRow r
  | 7 => s.readCalibRow r
  | 8 => s.readFaultRow r
  | 9 => s.readSingle r s.supplyRow
  | 10 => s.readSingle r s.queuesRow
  | 11 => s.readSingle r s.rejectRow
  | _ => s.refuse .unknown

/-- READ of a table given by its code (R171). -/
def execRead (e : Envelope) (table r : Byte) (s : State) : Outcome State Fault Refusal :=
  .next (s.takeAddressed e 3 [table, r] fun s => s.readTable table r (byteAt e.tail 0))

/-- READ PART (R172). -/
def execReadPart (e : Envelope) (r : Byte) (s : State) : Outcome State Fault Refusal :=
  .next (s.takeAddressed e 3 [1, r] fun s => s.readSingle r s.partRow)

/-- READ TRACKER (R1). -/
def execReadTracker (e : Envelope) (r : Byte) (s : State) : Outcome State Fault Refusal :=
  .next (s.takeAddressed e 3 [2, r] fun s => s.readSingle r s.trackerRow)

/-- READ ZONE (R18). -/
def execReadZone (e : Envelope) (r : Byte) (s : State) : Outcome State Fault Refusal :=
  .next (s.takeAddressed e 3 [3, r] fun s => s.readZoneRow r)

/-- READ SLOT (R41). -/
def execReadSlot (e : Envelope) (r : Byte) (s : State) : Outcome State Fault Refusal :=
  .next (s.takeAddressed e 3 [4, r] fun s => s.readSlotRow r)

/-- READ SEGMENT (R41). -/
def execReadSegment (e : Envelope) (slot index : Byte) (s : State) : Outcome State Fault Refusal :=
  .next (s.takeAddressed e 3 [5, slot, index] fun s => s.readSegmentRow slot index)

/-- READ HEAD (R74, R113). -/
def execReadHead (e : Envelope) (r : Byte) (s : State) : Outcome State Fault Refusal :=
  .next (s.takeAddressed e 3 [6, r] fun s => s.readHeadRow r)

/-- READ CALIB (R94). -/
def execReadCalib (e : Envelope) (r : Byte) (s : State) : Outcome State Fault Refusal :=
  .next (s.takeAddressed e 3 [7, r] fun s => s.readCalibRow r)

/-- READ FAULT (R151). -/
def execReadFault (e : Envelope) (r : Byte) (s : State) : Outcome State Fault Refusal :=
  .next (s.takeAddressed e 3 [8, r] fun s => s.readFaultRow r)

/-- READ SUPPLY (R151). -/
def execReadSupply (e : Envelope) (r : Byte) (s : State) : Outcome State Fault Refusal :=
  .next (s.takeAddressed e 3 [9, r] fun s => s.readSingle r s.supplyRow)

/-- READ QUEUES (R167, R113, R151, R127). -/
def execReadQueues (e : Envelope) (r : Byte) (s : State) : Outcome State Fault Refusal :=
  .next (s.takeAddressed e 3 [10, r] fun s => s.readSingle r s.queuesRow)

/-- READ REJECT (R127). -/
def execReadReject (e : Envelope) (r : Byte) (s : State) : Outcome State Fault Refusal :=
  .next (s.takeAddressed e 3 [11, r] fun s => s.readSingle r s.rejectRow)

end Sys2Proof.Machine
end

