-- ==== Sys2Proof/Machine/ResetEvents.lean ====
section
/-! DEFINITION. The three resets: their beginnings and their ends (R161, R177 to R179). -/

namespace Sys2Proof.Machine

open Host

/-- A frame cut short: of the last frame sent on from ring-out only the first bytes had left it (R161;
notes/assumptions/7.md). -/
def cutShort (cut : Option Nat) (out : List Frame) : List Frame :=
  match cut with
  | some n => out.dropLast ++ (out.getLast?.map (·.take n)).toList
  | none => out

/-- The beginning of a power-on or pin reset: unless the part is in reset already, everything takes its reset value
(R139, R177), and a frame being sent on is cut short as the bypass begins. While the part is held already, as it is from
the REPLY to a RESET_PART on, frames pass unchanged and none is cut; that REPLY still leaves whole, and the reset of its
RESET_PART then begins as another condition (R161, R177; notes/assumptions/23.md). -/
def State.beginReset (s : State) (cause : ResetCause) (cut : Option Nat) : State :=
  if s.inReset then s
  else ({ s with ringOut := if s.held then s.ringOut else cutShort cut s.ringOut } : State).cleared cause

/-- A reset condition has ended: once no other is in force the reset ends with its cause (R177). -/
def State.conditionEnded (s : State) (cause : ResetCause) (straps : BitVec 4) : State :=
  if s.inReset then s else s.resetEnded cause straps

/-- The reset of a RESET_PART begins once its REPLY has left ring-out (R178). -/
def execResetPartResetBegin (s : State) : Outcome State Fault Refusal :=
  .next (
    if s.resets.ringPending then
      let s := s.cleared .ring
      { s with resets := { s.resets with ringPending := false, ringActive := true } }
    else s)

/-- The reset of a RESET_PART ends (R177). -/
def execResetPartResetEnd (straps : BitVec 4) (s : State) : Outcome State Fault Refusal :=
  .next (
    if s.resets.ringActive then
      ({ s with resets := { s.resets with ringActive := false } } : State).conditionEnded .ring straps
    else s)

/-- The supply leaves its operating range: power-on reset begins (R177). -/
def execSupplyLeavesRange (cut : Option Nat) (s : State) : Outcome State Fault Refusal :=
  let t := s.beginReset .power cut
  .next { t with resets := { t.resets with powerOn := true, supplyOut := true } }

/-- The supply re-enters its operating range; power-on reset ends 10 ms later (R177). -/
def execSupplyReentersRange (s : State) : Outcome State Fault Refusal :=
  .next { s with resets := { s.resets with supplyOut := false } }

/-- The end of power-on reset (R177); nothing while the supply is out of its range or no power-on reset is in force. -/
def execPowerOnResetEnd (straps : BitVec 4) (s : State) : Outcome State Fault Refusal :=
  .next (
    if s.resets.powerOn ∧ !s.resets.supplyOut then
      ({ s with resets := { s.resets with powerOn := false } } : State).conditionEnded .power straps
    else s)

/-- The reset pin is asserted (R177). -/
def execResetPinAssert (cut : Option Nat) (s : State) : Outcome State Fault Refusal :=
  let t := s.beginReset .pin cut
  .next { t with resets := { t.resets with pin := true } }

/-- The reset pin is released (R177). -/
def execResetPinRelease (straps : BitVec 4) (s : State) : Outcome State Fault Refusal :=
  .next (
    if s.resets.pin then
      ({ s with resets := { s.resets with pin := false } } : State).conditionEnded .pin straps
    else s)

end Sys2Proof.Machine
end

