-- ==== Sys2Proof/Machine/Tables.lean ====
section
/-! DEFINITION. WRITE_ZONE (R19) and the load protocol of the Profile Store (R27 to R29, R33, R34). -/

namespace Sys2Proof.Machine

open Host

/-! ### The zone map -/

/-- The arcs of two rows share an angle (R19). -/
def ZoneRow.overlaps (a b : ZoneRow) : Bool := a.start < b.stop && b.start < a.stop

/-- The row a WRITE_ZONE with valid 1 stores; bit 7 of the permitted set is ignored (R180). -/
def zoneRowOf (z : ZoneFields) : ZoneRow :=
  ⟨true, z.start.toNat, z.stop.toNat, z.permitted.setWidth 7, z.guard.toNat, z.gap.toNat⟩

/-- The value check of a row (R19). -/
def ZoneRow.inRange (r : ZoneRow) (cpr : Nat) : Bool :=
  1 ≤ r.start && r.start < r.stop && r.stop ≤ cpr && r.guard ≤ 1023 && r.gap ≤ 255

/-- Some valid row other than the one written shares an angle with it (R19). -/
def ZoneMap.overlapped (z : ZoneMap) (i : Nat) (r : ZoneRow) : Bool :=
  z.rows.toList.zipIdx.any fun p => p.2 != i && p.1.valid && r.overlaps p.1

/-- Store a row of the zone map. -/
def State.setZone (s : State) (i : Fin 8) (r : ZoneRow) : State :=
  { s with zones := { s.zones with rows := s.zones.rows.set i r } }

/-- WRITE_ZONE, checked in the order of R19. -/
def State.writeZoneRow (b : Byte) (z : ZoneFields) (s : State) : Answer :=
  s.outsideProduction fun s =>
    if h : b.toNat < 8 then
      if z.valid = 0 then (s.setZone ⟨b.toNat, h⟩ .blank).done
      else if z.valid ≠ 1 ∨ !(zoneRowOf z).inRange s.tracker.cpr then s.refuse .badValue
      else if s.zones.overlapped b.toNat (zoneRowOf z) then s.refuse .overlap
      else (s.setZone ⟨b.toNat, h⟩ (zoneRowOf z)).done
    else s.refuse .badRow

/-! ### Loading a profile -/

/-- The slot number and the generation that a reply carries (R170). -/
def State.slotReply (s : State) (st : ReplyStatus) (j : SlotId) : Answer := ⟨st, nat8 j ++ nat8 (s.slot j).gen, s⟩

/-- A verification is abandoned: the verifier becomes idle (R30). -/
def State.abandon (s : State) (j : SlotId) : State :=
  if s.store.verifier = some j then { s with store := { s.store with verifier := none } } else s

/-- BEGIN is accepted in this state (R27). -/
def Slot.beginnable (t : Slot) : Bool :=
  match t.state with
  | .free | .loading | .verifying => true
  | .ready | .corrupt => t.users == 0
  | .active | .retiring => false

/-- The slot begun (R27); its header is written with fresh parity (R39). -/
def Slot.begun (t : Slot) (h : HeaderFields) : Slot :=
  { t with
    state := .loading
    gen := (t.gen + 1) % 256
    profile := some h.profileId.toNat
    segCount := some h.segCount.toNat
    crc := none
    header := headerOf h
    headerClean := true
    cells := t.cells.map fun c => { c with written := false } }

/-- BEGIN (R27). -/
def State.beginSlot (b : Byte) (h : HeaderFields) (s : State) : Answer :=
  match slotOf b with
  | none => s.refuse .badRow
  | some j =>
    if !headerInRange h then s.refuse .badValue
    else if (s.slot j).beginnable then ((s.abandon j).setSlot j ((s.slot j).begun h)).slotReply .ok j
    else s.refuse .refusedState

/-- A record written at an index with fresh parity (R28). -/
def Slot.write (t : Slot) (k : Fin 12) (r : SegRecord) : Slot := { t with cells := t.cells.set k ⟨r, true, true⟩ }

/-- SEGMENT (R28). -/
def State.writeSegment (b index : Byte) (f : SegmentFields) (s : State) : Answer :=
  match slotOf b with
  | none => s.refuse .badRow
  | some j =>
    let t := s.slot j
    if t.state = .verifying then s.refuse .busy
    else if t.state ≠ .loading then s.refuse .refusedState
    else
      match indexOf index with
      | none => s.refuse .badRow
      | some k =>
        if t.segCount.getD 0 ≤ k.val then s.refuse .badRow
        else
          match recordOf f with
          | none => s.refuse .badValue
          | some r => (s.setSlot j (t.write k r)).done

/-- The verifier takes a slot with its committed CRC (R29). -/
def State.verify (s : State) (j : SlotId) (crc : Word) : State :=
  let s := s.setSlot j { s.slot j with state := .verifying, crc := some crc }
  { s with store := { s.store with verifier := some j } }

/-- COMMIT (R29). -/
def State.commit (b : Byte) (crc : Word) (s : State) : Answer :=
  match slotOf b with
  | none => s.refuse .badRow
  | some j =>
    if s.store.verifier.isSome then s.refuse .busy
    else if (s.slot j).state ≠ .loading then s.refuse .refusedState
    else (s.verify j crc).slotReply .accepted j

/-- The slot becomes ACTIVE and the one that was becomes READY (R33). -/
def State.makeActive (s : State) (j : SlotId) : State :=
  let s := match s.activeSlot with
    | some i => s.setSlot i { s.slot i with state := .ready }
    | none => s
  s.setSlot j { s.slot j with state := .active }

/-- SELECT (R33). -/
def State.select (b : Byte) (s : State) : Answer :=
  match slotOf b with
  | none => s.refuse .badRow
  | some j =>
    match (s.slot j).state with
    | .ready => (s.makeActive j).done
    | .active => s.done
    | _ => s.refuse .refusedState

/-- DROP (R34). -/
def State.drop (b : Byte) (s : State) : Answer :=
  match slotOf b with
  | none => s.refuse .badRow
  | some j =>
    let t := s.slot j
    match t.state with
    | .ready | .active =>
      (s.setSlot j (if t.users = 0 then .freed t.gen else { t with state := .retiring })).done
    | .loading => (s.setSlot j (.freed t.gen)).done
    | .verifying => ((s.abandon j).setSlot j (.freed t.gen)).done
    | .free | .retiring | .corrupt => s.refuse .refusedState

/-! ### The commands -/

/-- WRITE_ZONE (R19). -/
def execWriteZone (e : Envelope) (r : Byte) (z : ZoneFields) (s : State) : Outcome State Fault Refusal :=
  .next (s.takeAddressed e 5 (r :: zoneBytes z) fun s => s.writeZoneRow r z)

/-- BEGIN (R27). -/
def execBeginSlot (e : Envelope) (slot : Byte) (h : HeaderFields) (s : State) : Outcome State Fault Refusal :=
  .next (s.takeAddressed e 6 (slot :: headerBytes h) fun s => s.beginSlot slot h)

/-- SEGMENT (R28). -/
def execSegment (e : Envelope) (slot index : Byte) (f : SegmentFields) (s : State) : Outcome State Fault Refusal :=
  .next (s.takeAddressed e 7 (slot :: index :: segmentBytes f) fun s => s.writeSegment slot index f)

/-- COMMIT (R29). -/
def execCommit (e : Envelope) (slot : Byte) (crc : Word) (s : State) : Outcome State Fault Refusal :=
  .next (s.takeAddressed e 8 (slot :: wordBytes crc) fun s => s.commit slot crc)

/-- SELECT (R33). -/
def execSelect (e : Envelope) (slot : Byte) (s : State) : Outcome State Fault Refusal :=
  .next (s.takeAddressed e 9 [slot] fun s => s.select slot)

/-- DROP (R34). -/
def execDrop (e : Envelope) (slot : Byte) (s : State) : Outcome State Fault Refusal :=
  .next (s.takeAddressed e 10 [slot] fun s => s.drop slot)

end Sys2Proof.Machine
end

