-- ==== Sys2Proof/Machine/Dispatch.lean ====
section
/-! DEFINITION. One arm per command: its meaning. -/

namespace Sys2Proof.Machine

/-- The effect of a command on everything but the queue. -/
def exec (i : Instr) (s : State) : Host.Outcome State Fault Refusal :=
  match i with
  | .angleFrame rev count pressure temp mark => Sys2Proof.Machine.execAngleFrame rev count pressure temp mark s
  | .carrierFrame content => Sys2Proof.Machine.execCarrierFrame content s
  | .reportFrame source kind transmit dropped payload => Sys2Proof.Machine.execReportFrame source kind transmit dropped payload s
  | .replyFrame bytes => Sys2Proof.Machine.execReplyFrame bytes s
  | .unknownKindFrame bytes => Sys2Proof.Machine.execUnknownKindFrame bytes s
  | .badFrame bytes => Sys2Proof.Machine.execBadFrame bytes s
  | .ringBypass bytes => Sys2Proof.Machine.execRingBypass bytes s
  | .requestNotAddressed q => Sys2Proof.Machine.execRequestNotAddressed q s
  | .broadcast q => Sys2Proof.Machine.execBroadcast q s
  | .unknown q => Sys2Proof.Machine.execUnknown q s
  | .heartbeat e elapsed => Sys2Proof.Machine.execHeartbeat e elapsed s
  | .setMode e mode => Sys2Proof.Machine.execSetMode e mode s
  | .read e table row => Sys2Proof.Machine.execRead e table row s
  | .readPart e row => Sys2Proof.Machine.execReadPart e row s
  | .readTracker e row => Sys2Proof.Machine.execReadTracker e row s
  | .readZone e row => Sys2Proof.Machine.execReadZone e row s
  | .readSlot e row => Sys2Proof.Machine.execReadSlot e row s
  | .readSegment e slot index => Sys2Proof.Machine.execReadSegment e slot index s
  | .readHead e row => Sys2Proof.Machine.execReadHead e row s
  | .readCalib e row => Sys2Proof.Machine.execReadCalib e row s
  | .readFault e row => Sys2Proof.Machine.execReadFault e row s
  | .readSupply e row => Sys2Proof.Machine.execReadSupply e row s
  | .readQueues e row => Sys2Proof.Machine.execReadQueues e row s
  | .readReject e row => Sys2Proof.Machine.execReadReject e row s
  | .writeConfig e item selector value => Sys2Proof.Machine.execWriteConfig e item selector value s
  | .writeConfigCpr e selector value => Sys2Proof.Machine.execWriteConfigCpr e selector value s
  | .writeConfigMaximumStep e selector value => Sys2Proof.Machine.execWriteConfigMaximumStep e selector value s
  | .writeConfigAcquireCount e selector value => Sys2Proof.Machine.execWriteConfigAcquireCount e selector value s
  | .writeConfigGapLimit e selector value => Sys2Proof.Machine.execWriteConfigGapLimit e selector value s
  | .writeConfigHoldoverLimit e selector value => Sys2Proof.Machine.execWriteConfigHoldoverLimit e selector value s
  | .writeConfigTrackReportEdge e selector value => Sys2Proof.Machine.execWriteConfigTrackReportEdge e selector value s
  | .writeConfigBaseGap e selector value => Sys2Proof.Machine.execWriteConfigBaseGap e selector value s
  | .writeConfigSeatWindowEnd e selector value => Sys2Proof.Machine.execWriteConfigSeatWindowEnd e selector value s
  | .writeConfigDischargeAngle e selector value => Sys2Proof.Machine.execWriteConfigDischargeAngle e selector value s
  | .writeConfigHeadCount e selector value => Sys2Proof.Machine.execWriteConfigHeadCount e selector value s
  | .writeConfigStationBase e selector value => Sys2Proof.Machine.execWriteConfigStationBase e selector value s
  | .writeConfigVentLimit e selector value => Sys2Proof.Machine.execWriteConfigVentLimit e selector value s
  | .writeConfigReleasePressure e selector value => Sys2Proof.Machine.execWriteConfigReleasePressure e selector value s
  | .writeConfigStepLimit e selector value => Sys2Proof.Machine.execWriteConfigStepLimit e selector value s
  | .writeConfigLeakLimit e selector value => Sys2Proof.Machine.execWriteConfigLeakLimit e selector value s
  | .writeConfigLearningWeight e selector value => Sys2Proof.Machine.execWriteConfigLearningWeight e selector value s
  | .writeConfigReplyTimeout e selector value => Sys2Proof.Machine.execWriteConfigReplyTimeout e selector value s
  | .writeConfigMissLimit e selector value => Sys2Proof.Machine.execWriteConfigMissLimit e selector value s
  | .writeConfigConfirmWindow e selector value => Sys2Proof.Machine.execWriteConfigConfirmWindow e selector value s
  | .writeConfigMasterEnable e selector value => Sys2Proof.Machine.execWriteConfigMasterEnable e selector value s
  | .writeConfigGateDistance e selector value => Sys2Proof.Machine.execWriteConfigGateDistance e selector value s
  | .writeConfigRejectPulseWidth e selector value => Sys2Proof.Machine.execWriteConfigRejectPulseWidth e selector value s
  | .writeConfigAction e selector value => Sys2Proof.Machine.execWriteConfigAction e selector value s
  | .writeConfigLockoutLimit e selector value => Sys2Proof.Machine.execWriteConfigLockoutLimit e selector value s
  | .writeConfigLowLimit e selector value => Sys2Proof.Machine.execWriteConfigLowLimit e selector value s
  | .writeConfigHighLimit e selector value => Sys2Proof.Machine.execWriteConfigHighLimit e selector value s
  | .writeConfigHysteresis e selector value => Sys2Proof.Machine.execWriteConfigHysteresis e selector value s
  | .writeConfigSuccessiveCount e selector value => Sys2Proof.Machine.execWriteConfigSuccessiveCount e selector value s
  | .writeConfigHeartbeatEnable e selector value => Sys2Proof.Machine.execWriteConfigHeartbeatEnable e selector value s
  | .writeConfigHeartbeatUpperLimit e selector value => Sys2Proof.Machine.execWriteConfigHeartbeatUpperLimit e selector value s
  | .writeConfigHeartbeatLowerLimit e selector value => Sys2Proof.Machine.execWriteConfigHeartbeatLowerLimit e selector value s
  | .writeConfigRingLimit e selector value => Sys2Proof.Machine.execWriteConfigRingLimit e selector value s
  | .writeConfigBacklogThreshold e selector value => Sys2Proof.Machine.execWriteConfigBacklogThreshold e selector value s
  | .writeConfigPriority e selector value => Sys2Proof.Machine.execWriteConfigPriority e selector value s
  | .writeZone e row z => Sys2Proof.Machine.execWriteZone e row z s
  | .beginSlot e slot h => Sys2Proof.Machine.execBeginSlot e slot h s
  | .segment e slot index f => Sys2Proof.Machine.execSegment e slot index f s
  | .commit e slot crc => Sys2Proof.Machine.execCommit e slot crc s
  | .select e slot => Sys2Proof.Machine.execSelect e slot s
  | .drop e slot => Sys2Proof.Machine.execDrop e slot s
  | .enroll e head offset f => Sys2Proof.Machine.execEnroll e head offset f s
  | .calibrate e head f => Sys2Proof.Machine.execCalibrate e head f s
  | .withdraw e head => Sys2Proof.Machine.execWithdraw e head s
  | .release e head => Sys2Proof.Machine.execRelease e head s
  | .clearFault e cls => Sys2Proof.Machine.execClearFault e cls s
  | .popSnapshot e => Sys2Proof.Machine.execPopSnapshot e s
  | .resetPart e => Sys2Proof.Machine.execResetPart e s
  | .resetPartResetBegin => Sys2Proof.Machine.execResetPartResetBegin s
  | .resetPartResetEnd straps => Sys2Proof.Machine.execResetPartResetEnd straps s
  | .supplyLeavesRange cut => Sys2Proof.Machine.execSupplyLeavesRange cut s
  | .supplyReentersRange => Sys2Proof.Machine.execSupplyReentersRange s
  | .powerOnResetEnd straps => Sys2Proof.Machine.execPowerOnResetEnd straps s
  | .resetPinAssert cut => Sys2Proof.Machine.execResetPinAssert cut s
  | .resetPinRelease straps => Sys2Proof.Machine.execResetPinRelease straps s
  | .stopLineFall => Sys2Proof.Machine.execStopLineFall s
  | .stopLineRise => Sys2Proof.Machine.execStopLineRise s
  | .gapTimerExpiry => Sys2Proof.Machine.execGapTimerExpiry s
  | .holdoverTimerExpiry => Sys2Proof.Machine.execHoldoverTimerExpiry s
  | .ventTimerExpiry head => Sys2Proof.Machine.execVentTimerExpiry head s
  | .status frame => Sys2Proof.Machine.execStatus frame s
  | .replyTimerExpiry => Sys2Proof.Machine.execReplyTimerExpiry s
  | .pulseTimerExpiry => Sys2Proof.Machine.execPulseTimerExpiry s
  | .heartbeatTimerExpiry => Sys2Proof.Machine.execHeartbeatTimerExpiry s
  | .verificationComplete => Sys2Proof.Machine.execVerificationComplete s

end Sys2Proof.Machine
end

