-- ==== Sys2Proof/Safety.lean ====
section
/-! DEFINITION. The vocabulary of the statements: what a request finds, which command a ring frame brings, and the
invariants of the state. -/

namespace Sys2Proof.Machine

/-! ### Requests -/

/-- A request is addressed to the part, which listens (R159, R161). -/
def State.hears (s : State) (e : Envelope) : Prop :=
  s.held = false ∧ e.address.toNat = s.management.address ∧ s.management.address ≤ 14

/-- The state on which a request addressed to the part is executed: a good frame has been counted (R153) and the
watchdog in plain mode restarted (R148). -/
def State.taken (s : State) : State := s.goodFrame.plainRestart

/-- The state once a REPLY of a kind, status and contents has been sent on (R159). -/
def State.replied (s : State) (e : Envelope) (kind : Byte) (st : ReplyStatus) (contents : List Byte) : State :=
  { s with ringOut := s.ringOut ++ [replyBytes e.address kind e.tag (BitVec.ofNat 8 st.code) contents] }

/-- WRITE_CONFIG accepted, leaving a state (R173). -/
def State.wrote (s : State) (e : Envelope) : State := s.replied e 4 .ok []

/-- WRITE_CONFIG refused with BAD_VALUE (R169). -/
def State.badValue (s : State) (e : Envelope) : State := s.replied e 4 .badValue []

/-! ### The valve bus -/

/-- The frame `f` is the good STATUS of the exchange `x` in flight (R103), of a head with a clean context whose last
observation is `p`, and it raises nothing: no confirmation is awaited, no node fault shown, neither increment passes the
step limit, and the leak sum of a head that should be dry stays within the leak limit or has raised already (R81, R83,
R106, R108). -/
def State.QuietStatus (s : State) (x : InFlight) (f : Frame) (p : Obs) : Prop :=
  let c := s.head x.head
  let o := (statusAt f).obs
  let gain := increment o.liquid p.liquid + increment o.syrup p.syrup
  s.held = false ∧ s.scanner.inFlight = some x ∧ x.discard = false ∧ x.answeredBy f = true ∧
  (statusAt f).nodeFault = false ∧ c.clean = true ∧ c.scan.confirm = none ∧ c.lastObs = some p ∧
  increment o.liquid p.liquid ≤ s.meterUnit.stepLimit ∧ increment o.syrup p.syrup ≤ s.meterUnit.stepLimit ∧
  (c.shouldBeDry = true → min 65535 (c.meter.leakSum + gain) ≤ s.meterUnit.leakLimit ∨ c.meter.leakRaised = true)

/-! ### After a reset -/

/-- The action of R132's table for each class. -/
def FaultClass.defaultAction : FaultClass → Action
  | .timebase | .heartbeat | .reject | .external | .lockout | .reset => .stop
  | .supply => .hold
  | .ring | .meter => .note
  | .table | .comm | .valve | .deadline | .zone => .halt

/-- The Fault Unit right after a reset with a cause (R128, R132, R133, R137, R139, R142, R143, R146, R149). -/
def FaultUnit.JustReset (f : FaultUnit) (c : ResetCause) : Prop :=
  f.mode = .safe ∧
  (∀ k : FaultClass, k ≠ .reset →
    f.records[k.row] = { latched := false, condition := false, lastCause := none, lastStation := none
                         bars := false, inStop := false, action := k.defaultAction }) ∧
  f.records[FaultClass.reset.row] =
    { latched := true, condition := false, lastCause := some c.toCause, lastStation := none
      bars := false, inStop := true, action := .stop } ∧
  f.lockoutLimit = 2 ∧
  f.pressure = { sample := none, count := 0, condition := false, low := 150, high := 700, hysteresis := 10, n := 3 } ∧
  f.temperature = { sample := none, count := 0, condition := false, low := 0, high := 200, hysteresis := 5, n := 3 } ∧
  f.watchdog = { enable := false, upper := 50, lower := 0, state := .disabled, timer := none, lowerTaken := 0 } ∧
  f.snapshots = [] ∧ f.overflow = false

/-- A FREE slot of a generation: it "discards its header, its segments, its written marks and its committed CRC. It keeps
its generation." (R23) What its header and segment records then read as is not said. -/
def Slot.Discarded (t : Slot) (gen : Nat) : Prop :=
  t.state = .free ∧ t.gen = gen ∧ t.users = 0 ∧ t.profile = none ∧ t.segCount = none ∧ t.crc = none ∧
  ∀ k : Fin 12, t.cells[k].written = false

/-- A slot right after a reset (R23). -/
def Slot.JustReset (t : Slot) : Prop := t.Discarded 0

/-- The slot `t` has become `u` by one release claim: its user count is lower by 1, and where that leaves 0 in RETIRING or
CORRUPT the slot is FREE (R35, R37). -/
def Slot.GivesBack (t u : Slot) : Prop :=
  (t.users - 1 = 0 → t.state = .retiring ∨ t.state = .corrupt → u.Discarded t.gen) ∧
  (t.users - 1 ≠ 0 ∨ (t.state ≠ .retiring ∧ t.state ≠ .corrupt) → u = { t with users := t.users - 1 })

/-- A head right after a reset (R43, R44, R75, R96). -/
def Head.JustReset (c : Head) : Prop :=
  c.offset = none ∧ c.calib = none ∧ c.state = .off ∧ c.level = 0 ∧ c.cycle = 0 ∧ c.pin = none ∧ c.segIndex = 0 ∧
  c.phase = none ∧ c.startAngle = none ∧ c.lastClosed = none ∧ c.rampPos = none ∧ c.valves = .rest ∧ c.arm = none ∧
  c.bases = none ∧ c.liquidTotal = 0 ∧ c.syrupTotal = 0 ∧ c.lastObs = none ∧ c.overrun = 0 ∧ c.hold = false ∧
  c.withdraw = false ∧ c.ventTimer = none ∧ c.lastFault = none ∧ c.record = none ∧
  c.meter = { leakSum := 0, leakRaised := false, productStarted := false, finalCut := none, estimateUsed := none
              finalDone := false } ∧
  c.scan.seq = 0 ∧ c.scan.lastSent = none ∧ c.scan.miss = 0 ∧ c.scan.confirm = none ∧ c.scan.nodeFault = false

/-- Every piece of state the manual gives a reset value holds it, as the chapters' tables say; the reports in the queue and
the reset cause record, which the end of a reset sets (R177), apart. -/
def State.HoldsResetValues (s : State) (c : ResetCause) : Prop :=
  s.ring = { badCount := 0, transmit := 0, limit := 4 } ∧
  s.tracker = { state := .noTimebase, ref := none, pos := none, run := 0, jumpPending := false, gapTimer := none
                holdoverTimer := none, cpr := 0, maxStep := 64, acquireCount := 4, gapLimit := 4, holdoverLimit := 50
                edge := .both } ∧
  (∀ i : Fin 8, s.zones.rows[i] = { valid := false, start := 0, stop := 0, permitted := 0, guard := 0, gap := 0 }) ∧
  s.zones.baseGap = 16 ∧ s.zones.seatEnd = 0 ∧ s.zones.dischargeAngle = 0 ∧
  (∀ j, (s.slot j).JustReset) ∧ s.store.verifier = none ∧
  s.sequencer = { ventLimit := 1500, releasePressure := 20 } ∧
  s.meterUnit = { stepLimit := 1024, leakLimit := 20, weight := 2 } ∧
  (∀ h, (s.head h).JustReset) ∧
  s.scanner = { inFlight := none, scanPos := none, urgent := [], replyTimeout := 20, missLimit := 2
                confirmWindow := 3 } ∧
  (∀ a : Fin 15, s.discharge.last a = none) ∧ s.discharge.schedule = [] ∧ s.discharge.pulse = none ∧
  s.discharge.made = 0 ∧ s.discharge.master = false ∧ s.discharge.gate = 0 ∧ s.discharge.pulseWidth = 40 ∧
  s.faults.JustReset c ∧
  s.reports.prioOf .dose = 3 ∧ s.reports.prioOf .fault = 3 ∧ s.reports.prioOf .profile = 2 ∧
  s.reports.prioOf .mode = 2 ∧ s.reports.prioOf .track = 1 ∧ s.reports.dropped = false ∧ s.reports.doseSeq = 0 ∧
  s.reports.threshold = 16 ∧
  s.management.headCount = 0 ∧ s.management.stationBase = 0

/-- Every piece of state the manual gives a reset value holds it, with the RESET FAULT report of R139 in the queue and the
cause in the reset cause record (R177). -/
def State.JustReset (s : State) (c : ResetCause) : Prop :=
  s.HoldsResetValues c ∧
  s.reports.queue = [{ prio := 3, body := .fault { cause := c.toCause, station := none, slot := none, action := .stop
                                                   condition := false } }] ∧
  s.management.resetCause = c

/-! ### An exchange -/

/-- From `s` to `t` an exchange `x` has been sent to the head `h`, and nothing but the bus, the in-flight record and the
scanner's fields of that head has changed (R95, R99, R107): the COMMAND carries the advanced sequence and the context's
command; its valves become the last sent ones; confirm tracking starts where they differ from those or none were sent, and
at the first COMMAND since the entry to FORCED, but never in LOCKOUT. -/
def State.SendsTo (s t : State) (h : HeadId) (urgent : Bool) (x : InFlight) : Prop :=
  let c := s.head h
  let d := t.head h
  let next := (c.scan.seq + 1) % 16
  let starts := c.state ≠ .lockout ∧ (c.scan.forcedUnsent = true ∨ c.scan.lastSent ≠ some c.valves)
  x.head = h ∧ x.urgent = urgent ∧ x.seq = next ∧ x.valves = c.valves ∧ x.arm = c.arm ∧ x.predates = false ∧
  x.discard = false ∧ x.timer = s.scanner.replyTimeout ∧
  (x.rampDone = true ↔ c.valves.l = 0 ∨ ∃ w, c.work = some w ∧ c.valves.l = w.record.aperture) ∧
  t.busOut = s.busOut ++ [commandBytes h next c.valves c.arm] ∧
  (starts → d.scan.confirm = some s.scanner.confirmWindow) ∧ (¬starts → d.scan.confirm = c.scan.confirm) ∧
  d = { c with
    scan := { c.scan with
      seq := next, lastSent := some c.valves, confirm := d.scan.confirm, forcedUnsent := false } } ∧
  (∀ g, g ≠ h → t.head g = s.head g) ∧
  { t with heads := s.heads, scanner := s.scanner, busOut := s.busOut } = s

/-! ### A head's event -/

/-- From `s` to `t` nothing has changed but the head `h`, the profile slots and what the scanner and the valve bus hold:
of the other heads only the scanner's own fields, where an exchange has been sent to one of them. -/
def State.OnlyHead (s t : State) (h : HeadId) : Prop :=
  t.faults = s.faults ∧ t.reports = s.reports ∧ t.discharge = s.discharge ∧ t.tracker = s.tracker ∧
  t.zones = s.zones ∧ t.ringOut = s.ringOut ∧ t.store.verifier = s.store.verifier ∧ t.resets = s.resets ∧
  t.lineHeld = s.lineHeld ∧ t.ring = s.ring ∧ t.sequencer = s.sequencer ∧ t.meterUnit = s.meterUnit ∧
  t.management = s.management ∧ ∀ g, g ≠ h → { t.head g with scan := (s.head g).scan } = s.head g

/-- An urgent exchange of the head waits or is in flight (R97, R98). -/
def State.Posted (s : State) (h : HeadId) : Prop :=
  h ∈ s.scanner.urgent ∨ ∃ x, s.scanner.inFlight = some x ∧ x.head = h ∧ x.urgent = true

/-- The head `c` after steps 1 to 3 of the end of its segment `w` at a cycle angle (R56): the closed valve is that of the
kind, SETTLE closing none, the cut arm is NONE, and the next segment is PENDING. -/
def Head.ended (c : Head) (w : Work) (θ : Nat) : Head :=
  { c with
    lastClosed :=
      match w.record.kind with
      | .purge | .snift => some (θ, .v)
      | .pressurize => some (θ, .g)
      | .syrup => some (θ, .s)
      | .fill | .trim => some (θ, .l)
      | .settle => c.lastClosed
    arm := none, segIndex := c.segIndex + 1, phase := some .pending, startAngle := none, rampPos := none, work := none
    deadlineMet := false }

/-- A good STATUS `o` ends the ACTIVE segment `w` of the head `c`, which started at the cycle angle `a`, at the cycle angle
`θ`; `sent` is the cut arm of the COMMAND it answers (R53). -/
def State.EndsSegment (s : State) (c : Head) (w : Work) (θ a : Nat) (o : Obs) (sent : Option Arm) : Prop :=
  let dwell := w.record.dwell ≤ (θ + s.tracker.cpr - a) % s.tracker.cpr
  (w.record.ending = .volume ∧ sent ≠ none ∧ sent = c.arm ∧ o.cut = true) ∨
  (w.record.ending = .probe ∧ o.probe = true ∧ dwell) ∨
  (w.record.ending = .pressureEq ∧ dwell ∧
    ∃ bowl, s.faults.pressure.sample = some bowl ∧ (o.pressure : Int) - bowl ≤ w.record.param ∧
      bowl - (o.pressure : Int) ≤ w.record.param) ∨
  (w.record.ending = .pressureLow ∧ o.pressure ≤ w.record.param ∧ dwell)

/-- A good STATUS `o` completes the safe close of the head `c`; `predates` is the mark of the exchange it answers (R63,
R64). -/
def State.CompletesClose (s : State) (c : Head) (o : Obs) (predates : Bool) : Prop :=
  predates = false ∧ o.valves.g = c.valves.g ∧ o.valves.s = c.valves.s ∧ o.valves.v = c.valves.v ∧ o.valves.l = 0 ∧
  ((c.state = .aborting ∧ o.pressure ≤ s.sequencer.releasePressure) ∨ c.state = .forced)

/-- What follows steps 1 to 3 of a segment end, which left `s`, in `t` (R56, R57): after the last segment of the profile
the bottle is judged by the header read at that segment's start, the overrun learned, the pin given back, and the head is
DONE; before it, with the next segment read without a parity error, that segment starts if it may, and else waits with
every valve closed; an urgent exchange is posted. -/
def State.GoesOn (s t : State) (h : HeadId) (header : Header) (θ : Nat) : Prop :=
  let c := s.head h
  let d := t.head h
  ∀ (q : Pin) (n : Nat) (k : Calib), c.state = .running → c.pin = some q → (s.slot q.slot).segCount = some n →
    c.calib = some k → c.record = none →
    (n ≤ c.segIndex →
      let vl := volumeOf k.liquidK k.liquidTrim c.liquidTotal
      let vs := volumeOf k.syrupK k.syrupTrim c.syrupTotal
      let lesson := c.learn s.meterUnit.weight vl
      s.OnlyHead t h ∧ t.Posted h ∧ (s.slot q.slot).GivesBack (t.slot q.slot) ∧
      (∀ j, j ≠ q.slot → t.slot j = s.slot j) ∧
      { d with scan := c.scan } =
        { c with
          state := .done, level := 0, valves := .rest, arm := none, phase := none, startAngle := none, rampPos := none
          work := none, deadlineMet := false, pin := none
          overrun := match lesson with | some (e, _) => e | none => c.overrun
          record := some
            { verdict := verdictOf header vl vs, skip := none, cycle := c.cycle, pin := some q, liquid := vl, syrup := vs
              estimate := c.meter.estimateUsed, observed := lesson.map (·.2), fault := c.lastFault
              completed := c.segIndex } }) ∧
    ∀ i : Fin 12, c.segIndex = i.val → i.val < n → (s.slot q.slot).state ≠ .corrupt →
      (s.slot q.slot).headerClean = true → (s.slot q.slot).cells[i].clean = true →
      let record := (s.slot q.slot).cells[i].record
      s.OnlyHead t h ∧ t.Posted h ∧ t.store = s.store ∧
      (s.mayStart c record.kind θ = true →
        { d with scan := c.scan } = c.startSegment { header := (s.slot q.slot).header, record := record } θ) ∧
      (s.mayStart c record.kind θ = false → { d with scan := c.scan } = { c with valves := .rest })

/-! ### Invariants -/

/-- "whenever that set is non-empty the mode is SAFE" (R137). -/
def State.StopsAreSafe (s : State) : Prop := (∃ c, (s.record c).inStop = true) → s.faults.mode = .safe

/-- The commanded valves of a state other than RUNNING (R45). -/
def HeadState.valves : HeadState → Valves
  | .aborting | .forced | .lockout => .venting
  | _ => .rest

/-- The command of a RUNNING head (R45): the rest pattern while its segment is PENDING, and while it is ACTIVE the
pattern of its kind (R26), L at most the aperture target. A pattern that R56 carries over is carried within one step. -/
def Head.CommandsSegment (c : Head) : Prop :=
  (c.phase = some .pending ∧ c.valves = .rest) ∨
  (c.phase = some .active ∧
    ∃ w, c.work = some w ∧ c.valves.l ≤ w.record.aperture ∧
      c.valves =
        match w.record.kind with
        | .purge => { g := true, s := false, l := 0, v := true }
        | .pressurize => { g := true, s := false, l := 0, v := false }
        | .syrup => { g := true, s := true, l := 0, v := false }
        | .fill | .trim => { g := true, s := false, l := c.valves.l, v := false }
        | .settle => { g := false, s := false, l := 0, v := false }
        | .snift => { g := false, s := false, l := 0, v := true })

/-- The level of every head is that of its state; a head that is not RUNNING commands the valves of its state, and one
that is commands those of its segment (R45). -/
def State.HeadsCommand (s : State) : Prop :=
  ∀ h, (s.head h).level = (s.head h).state.level ∧
    ((s.head h).state ≠ .running → (s.head h).valves = (s.head h).state.valves) ∧
    ((s.head h).state = .running → (s.head h).CommandsSegment)

/-- "The report queue holds at most 32 reports, ordered by non-increasing priority" and "none of them has priority 0"
(R162); every priority, of a report held and of a kind, is at most 3 (R162, R163). -/
def State.QueueOrdered (s : State) : Prop :=
  s.reports.queue.length ≤ 32 ∧ s.reports.queue.Pairwise (fun a b => b.prio ≤ a.prio) ∧
    (∀ r ∈ s.reports.queue, 0 < r.prio ∧ r.prio ≤ 3) ∧ ∀ k, s.reports.prioOf k ≤ 3

/-- "At most one profile slot is ACTIVE." (R33) -/
def State.OneActive (s : State) : Prop :=
  ∀ i j, (s.slot i).state = .active → (s.slot j).state = .active → i = j

/-- How many heads are pinned to a slot (R36). -/
def State.pinned (s : State) (j : SlotId) : Nat :=
  s.heads.toList.countP fun c => c.pin.map (·.slot) == some j

/-- "Each slot's user count equals the number of head contexts in SEATING or RUNNING that are pinned to that slot."
(R36); a head is pinned exactly in SEATING and RUNNING (R44), a slot in FREE, LOADING or VERIFYING has no users, and the slot
that is VERIFYING is the one the verifier is busy with (R29, R30). -/
def State.UsersCounted (s : State) : Prop :=
  (∀ j, (s.slot j).users = s.pinned j) ∧
  (∀ h, (s.head h).pin.isSome = ((s.head h).state == .seating || (s.head h).state == .running)) ∧
  (∀ j, (s.slot j).state = .free ∨ (s.slot j).state = .loading ∨ (s.slot j).state = .verifying →
    (s.slot j).users = 0) ∧
  ∀ j, (s.slot j).state = .verifying ↔ s.store.verifier = some j

/-- The urgent queue "never holds one head twice, and never holds an OFF head" (R98), and the bus is idle only while
every head is OFF (R97). -/
def State.UrgentOnce (s : State) : Prop :=
  s.scanner.urgent.Nodup ∧ (∀ h ∈ s.scanner.urgent, (s.head h).state ≠ .off) ∧
    (s.scanner.inFlight = none → ∀ h, (s.head h).state = .off)

/-- The reject schedule holds at most 64 entries, none with verdict GOOD or EMPTY, no two of one source and dose
sequence, and is empty in a part not configured as master (R115, R116). -/
def State.ScheduleSound (s : State) : Prop :=
  s.discharge.schedule.length ≤ 64 ∧
  (∀ e ∈ s.discharge.schedule, e.verdict ≠ .good ∧ e.verdict ≠ .empty) ∧
  s.discharge.schedule.Pairwise (fun a b => ¬(a.source = b.source ∧ a.seq = b.seq)) ∧
  (s.discharge.master = false → s.discharge.schedule = [])

/-- "The snapshot stack holds at most 16 entries" (R149). -/
def State.SnapshotsFit (s : State) : Prop := s.faults.snapshots.length ≤ 16

/-- The LOCKOUT condition is present exactly while the number of heads in LOCKOUT is at least the lockout limit, and
the mode is then SAFE (R133, R142). -/
def State.LockoutGuarded (s : State) : Prop :=
  ((s.record .lockout).condition = true ↔ s.faults.lockoutLimit ≤ s.lockoutCount) ∧
  (s.faults.lockoutLimit ≤ s.lockoutCount → s.faults.mode = .safe)

end Sys2Proof.Machine

namespace Sys2Proof

open Machine

/-! ### The command a ring frame brings -/

/-- The command is one that a frame on ring-in brings to this part: its label is what the check, the kind, the address
and the fields of the frame give (R153, R154, R159 to R161, R169, R171, R173). -/
def Instr.arrives (held : Bool) (own elapsed : Nat) (i : Instr) : Bool :=
  match i with
  | .ringBypass _ => held
  | .requestNotAddressed q => !held && q.address.toNat != own
  | .heartbeat e t => !held && t == elapsed && (e.address.toNat == own || e.address == 15)
  | .setMode e _ | .clearFault e _ => !held && (e.address.toNat == own || e.address == 15)
  | .broadcast _ => !held
  | i => !held && (match requestOf i with | some q => q.address.toNat == own | none => true)

end Sys2Proof
end

