-- ==== Sys2Proof/Certificates/Slice0/Obligations.lean ====
section
/-! DEFINITION. The statements for the provers.

`s.taken` is the state on which a request is executed (RequestsAndWatchdog says what it is), `t.replied e kind st contents` is `t` with
the REPLY sent on, and `t.wrote e` and `t.badValue e` are the two replies of WRITE_CONFIG. -/

open Sys2Proof Sys2Proof.Machine

/-! ## The machine -/

/-- A step runs the command at the front of the queue on the queue's rest; on an empty queue the block idles
(notes/assumptions/1.md). -/
def Obligations.StepRunsFrontCommand : Prop :=
  (∀ (s : State) (c : Instr) (rest : List Instr), s.pending = c :: rest →
    step s = exec c { s with pending := rest }) ∧
  ∀ s : State, s.pending = [] → step s = .next s

/-- Every command answers a next state and leaves the queue and the model's choice of orders alone; both are the model's
own fields (notes/assumptions/1.md, 4.md). -/
def Obligations.EveryCommandCompletes : Prop :=
  ∀ (i : Instr) (s : State), ∃ t : State, exec i s = .next t ∧ t.pending = s.pending ∧ t.arbiter = s.arbiter

/-- `State.reset` holds the value the manual gives for reset in every piece of state that the manual gives one; that the
cause is POWER and that no reset condition is in force is the model's choice of the state right after reset
(notes/assumptions/2.md, 3.md). -/
def Obligations.ResetHoldsManualValues : Prop :=
  State.reset.JustReset .power ∧ State.reset.inReset = false ∧ State.reset.held = false ∧ State.reset.drives = true

/-- Every invariant of the model holds right after reset. -/
def Obligations.InvariantsHoldAtReset : Prop :=
  State.reset.StopsAreSafe ∧ State.reset.HeadsCommand ∧ State.reset.QueueOrdered ∧ State.reset.OneActive ∧
  State.reset.UsersCounted ∧ State.reset.UrgentOnce ∧ State.reset.ScheduleSound ∧ State.reset.SnapshotsFit ∧
  State.reset.LockoutGuarded

/-! ## The ring -/

/-- While the part is held in reset, every frame passes through unchanged and changes nothing else (R161). -/
def Obligations.HeldPartBypassesFrames : Prop :=
  ∀ (i : Instr) (s : State) (f : Frame), s.held = true → ringFrameOf i = some f →
    exec i s = .next { s with ringOut := s.ringOut ++ [f] }

/-- A good frame of a kind that is none of the five is sent on unchanged, is not acted on, and counts as a good frame
(R154). -/
def Obligations.UnknownKindSentOn : Prop :=
  ∀ (f : Frame) (s : State), s.held = false →
    exec (.unknownKindFrame f) s =
      .next { s with ring := { s.ring with badCount := 0 }, ringOut := s.ringOut ++ [f] }

/-- A frame that fails the check is counted and sent on unchanged; the count that reaches the RING limit raises RING
CRC and becomes 0 (R153). -/
def Obligations.BadFramesAreCounted : Prop :=
  ∀ (f : Frame) (s : State), s.held = false →
    (s.ring.badCount + 1 < s.ring.limit →
      exec (.badFrame f) s =
        .next { s with ring := { s.ring with badCount := s.ring.badCount + 1 }, ringOut := s.ringOut ++ [f] }) ∧
    (s.ring.limit ≤ s.ring.badCount + 1 →
      exec (.badFrame f) s =
        .next ((({ s with ring := { s.ring with badCount := 0 } } : State).raisePart .ringCrc none none).sendRing f))

/-- A carrier takes the report at the head of the queue, with the transmit sequence and the dropped flag; at an empty
queue it is sent on unchanged (R157). -/
def Obligations.CarrierTakesHeadReport : Prop :=
  ∀ (content : List Byte) (s : State), s.held = false →
    (∀ (r : Report) (rest : List Report), s.reports.queue = r :: rest →
      exec (.carrierFrame content) s =
        .next
          { s with
            ring := { s.ring with badCount := 0, transmit := (s.ring.transmit + 1) % 65536 }
            reports := { s.reports with queue := rest, dropped := false }
            ringOut := s.ringOut ++
              [reportBytes (BitVec.ofNat 8 s.management.address) (BitVec.ofNat 8 r.body.kind.code)
                (BitVec.ofNat 16 s.ring.transmit) (if s.reports.dropped then 1 else 0) (pad 27 r.body.payload)] }) ∧
    (s.reports.queue = [] →
      exec (.carrierFrame content) s =
        .next { s with ring := { s.ring with badCount := 0 }, ringOut := s.ringOut ++ [carrierBytes content] })

/-- A REPLY and a REQUEST for another part are sent on unchanged, and so is every REPORT, taken or not; one that is no
DOSE report, or that the part does not take because it is not the master, because the source is its own address, or
because the source is 15 or above, changes nothing more (R117, R153, R158, R159; for a source above 15, which no part
has, notes/assumptions/15.md). -/
def Obligations.PassingFramesGoOn : Prop :=
  ∀ s : State, s.held = false →
    let good : State := { s with ring := { s.ring with badCount := 0 } }
    (∀ f : Frame, exec (.replyFrame f) s = .next { good with ringOut := s.ringOut ++ [f] }) ∧
    (∀ q : RawRequest, exec (.requestNotAddressed q) s =
      .next { good with ringOut := s.ringOut ++ [requestBytes q] }) ∧
    ∀ (source kind : Byte) (transmit : Half) (dropped : Byte) (payload : List Byte),
      (∃ t : State, exec (.reportFrame source kind transmit dropped payload) s = .next t ∧
        t.ringOut = s.ringOut ++ [reportBytes source kind transmit dropped payload] ∧ t.ring = good.ring) ∧
      (kind ≠ 1 ∨ s.discharge.master = false ∨ source.toNat = s.management.address ∨ 15 ≤ source.toNat →
        exec (.reportFrame source kind transmit dropped payload) s =
          .next { good with ringOut := s.ringOut ++ [reportBytes source kind transmit dropped payload] })

/-- How a discharge master takes a DOSE report, in any state: a duplicate is ignored; a gap in the dose sequence of its
source raises REJECT GAP and the report goes on as one in order does; the sequence is kept for its source, and then a GOOD
or EMPTY bottle changes nothing more, a late one raises REJECT LATE, one that finds the schedule full raises REJECT FULL,
and every other is inserted with its due position, after the entries from the first on whose due position is reached at
its own and before the first whose is not (R118 to R121; that an entry goes before the first not reached even where later
ones are reached is notes/assumptions/31.md). A passing DOSE report of another part is taken so, with the fields that the
frame carries, and sent on unchanged (R117). -/
def Obligations.DoseReportsJudged : Prop :=
  (∀ (cpr : Nat) (e : RejectEntry) (l : List RejectEntry),
    ∃ before after, l = before ++ after ∧ insertEntry cpr e l = before ++ e :: after ∧
      (∀ x ∈ before, reached cpr x.due e.due = true) ∧ ∀ x ∈ after.head?, reached cpr x.due e.due = false) ∧
  (∀ (s : State) (a : Fin 15) (seq station cycle : Nat) (v : Verdict) (pos : Pos),
    let t := s.takeDose a seq station cycle v pos
    let due := (pos.rev * s.tracker.cpr + pos.count + s.discharge.gate) % (65536 * s.tracker.cpr)
    let told : State :=
      match s.discharge.last a with
      | some l => if seq = (l + 1) % 65536 then s else s.raisePart .rejectGap (some station) none
      | none => s
    let known : State := { told with discharge := { s.discharge with lastSeq := s.discharge.lastSeq.set a (some seq) } }
    let duplicate := (∃ e ∈ s.discharge.schedule, e.source = a.val ∧ e.seq = seq) ∨ s.discharge.last a = some seq
    let late := ∃ q, s.tracker.pos = some q ∧ reached s.tracker.cpr due (absolute s.tracker.cpr q) = true
    (duplicate → t = s) ∧
    (¬duplicate → (v = .good ∨ v = .empty) → t = known) ∧
    (¬duplicate → v ≠ .good → v ≠ .empty → late → t = known.raisePart .rejectLate (some station) none) ∧
    (¬duplicate → v ≠ .good → v ≠ .empty → ¬late → 64 ≤ s.discharge.schedule.length →
      t = known.raisePart .rejectFull (some station) none) ∧
    (¬duplicate → v ≠ .good → v ≠ .empty → ¬late → s.discharge.schedule.length < 64 →
      t =
        { known with
          discharge := { known.discharge with
            schedule := insertEntry s.tracker.cpr
              { source := a, seq := seq, station := station, cycle := cycle, verdict := v, pos := pos, due := due }
              s.discharge.schedule } })) ∧
  ∀ (a : Fin 15) (transmit : Half) (dropped : Byte) (p : List Byte) (s : State) (v : Verdict),
    s.held = false → s.discharge.master = true → a.val ≠ s.management.address →
    Verdict.ofCode (byteAt p 1).toNat = some v →
    let good : State := { s with ring := { s.ring with badCount := 0 } }
    exec (.reportFrame (BitVec.ofNat 8 a.val) 1 transmit dropped p) s =
      .next ((good.takeDose a (halfAt p 25).toNat (byteAt p 3).toNat (halfAt p 4).toNat v
        { rev := (halfAt p 21).toNat, count := (halfAt p 23).toNat }).sendRing
        (reportBytes (BitVec.ofNat 8 a.val) 1 transmit dropped p))

/-- A broadcast of a kind that broadcast does not take is sent on unchanged once it has restarted the watchdog; one of
HEARTBEAT, SET_MODE or CLEAR_FAULT has the effect of the addressed request, which differs from it in the REPLY alone, and
is sent on unchanged (R160; the time since the watchdog's start is an operand by notes/assumptions/5.md); a request of a
kind outside the seventeen is answered UNKNOWN (R169). -/
def Obligations.BroadcastsAndUnknownRequests : Prop :=
  ∀ s : State, s.held = false →
    (∀ q : RawRequest,
      exec (.broadcast q) s = .next { s.taken with ringOut := s.ringOut ++ [requestBytes q] }) ∧
    (∀ q : RawRequest, q.address.toNat = s.management.address → s.management.address ≤ 14 →
      exec (.unknown q) s =
        .next { s.taken with ringOut := s.ringOut ++ [replyBytes q.address q.kind q.tag 9 []] }) ∧
    (∀ (e : Envelope) (m : Byte),
      let a := State.setMode m s.taken
      (e.address = 15 → exec (.setMode e m) s = .next (a.after.sendRing (requestBytes (rawOf e 2 [m])))) ∧
      (s.hears e → exec (.setMode e m) s = .next (a.after.replied e 2 a.status a.contents))) ∧
    (∀ (e : Envelope) (c : Byte),
      let a := State.clear c s.taken
      (e.address = 15 → exec (.clearFault e c) s = .next (a.after.sendRing (requestBytes (rawOf e 15 [c])))) ∧
      (s.hears e → exec (.clearFault e c) s = .next (a.after.replied e 15 a.status a.contents))) ∧
    ∀ (e : Envelope) (n : Nat),
      let t := if 0 < s.faults.watchdog.lowerTaken then s.taken.windowHeartbeat n else s.taken
      (e.address = 15 → exec (.heartbeat e n) s = .next (t.sendRing (requestBytes (rawOf e 1 [])))) ∧
      (s.hears e → exec (.heartbeat e n) s = .next (t.replied e 1 .ok []))

/-- What taking a request does before it is executed: the bad count becomes 0, and in plain mode a watchdog that is
WATCHING or WAITING is restarted with the limits as they stand, the HEARTBEAT condition being removed from WAITING
(R148, R153). HEARTBEAT is answered OK in every state; in plain mode and in DISABLED it does what every request does, and
in window mode it restarts the watchdog or, before the lower limit has passed, raises HEARTBEAT EARLY (R146, R147; the
time since the watchdog's start is an operand by notes/assumptions/5.md). -/
def Obligations.RequestsAndWatchdog : Prop :=
  (∀ s : State,
    let good : State := { s with ring := { s.ring with badCount := 0 } }
    let restarted : State :=
      { good with
        faults := { s.faults with
          watchdog := { s.faults.watchdog with
            state := .watching, timer := some s.faults.watchdog.upper, lowerTaken := s.faults.watchdog.lower } } }
    (0 < s.faults.watchdog.lowerTaken ∨ s.faults.watchdog.state = .disabled → s.taken = good) ∧
    (s.faults.watchdog.lowerTaken = 0 → s.faults.watchdog.state = .watching → s.taken = restarted) ∧
    (s.faults.watchdog.lowerTaken = 0 → s.faults.watchdog.state = .waiting →
      s.taken = restarted.updRecord .heartbeat fun r => { r with condition := false })) ∧
  ∀ (e : Envelope) (elapsed : Nat) (s : State), s.hears e →
    let w := s.faults.watchdog
    let good : State := { s with ring := { s.ring with badCount := 0 } }
    let restarted : State :=
      { good with
        faults := { s.faults with
          watchdog := { w with state := .watching, timer := some w.upper, lowerTaken := w.lower } } }
    (w.lowerTaken = 0 ∨ w.state = .disabled →
      exec (.heartbeat e elapsed) s = .next (s.taken.replied e 1 .ok [])) ∧
    (0 < w.lowerTaken → w.state = .watching → w.lowerTaken * 10000 ≤ elapsed →
      exec (.heartbeat e elapsed) s = .next (restarted.replied e 1 .ok [])) ∧
    (0 < w.lowerTaken → w.state = .waiting →
      exec (.heartbeat e elapsed) s =
        .next ((restarted.updRecord .heartbeat fun r => { r with condition := false }).replied e 1 .ok [])) ∧
    (0 < w.lowerTaken → w.state = .watching → elapsed < w.lowerTaken * 10000 →
      exec (.heartbeat e elapsed) s =
        .next ((({ good with
            faults := { s.faults with watchdog := { w with state := .waiting, timer := none } } } : State).raisePart
          .heartbeatEarly none none).replied e 1 .ok []))

/-! ## ANGLE frames -/

/-- Every ANGLE frame hands its readings to the two supply monitors, whatever the tracker does with its position, and
is sent on with its mark raised at the backlog threshold and otherwise as it arrived (R144, R153, R155). A monitor
counts samples outside its limits up to N, sets its condition and raises when the count reaches N with the condition
clear, and clears the condition only inside the band; SUPPLY is raised with the cause of the monitor and of the sample's
side, and its condition is present while either monitor's is (R144, R145). Which monitor goes first, and whether the mark
is judged before or after the reports that the frame itself creates, is notes/assumptions/4.md; that a count at or above a
lowered N comes down to N is notes/assumptions/32.md. -/
def Obligations.AngleReadingsReachMonitors : Prop :=
  (∀ (m : Monitor) (v : Int),
    (v < m.low ∨ m.high < v →
      m.take v =
        ({ m with
            sample := some v, count := min (m.count + 1) m.n
            condition := m.condition || decide (m.n ≤ m.count + 1) },
          decide (m.n ≤ m.count + 1) && !m.condition)) ∧
    (m.low ≤ v → v ≤ m.high → ¬(m.low + m.hysteresis ≤ v ∧ v ≤ m.high - m.hysteresis) →
      m.take v = ({ m with sample := some v, count := 0 }, false)) ∧
    (m.low ≤ v → v ≤ m.high → m.low + m.hysteresis ≤ v → v ≤ m.high - m.hysteresis →
      m.take v = ({ m with sample := some v, count := 0, condition := false }, false))) ∧
  (∀ (s : State) (n : MonitorName) (v : Int),
    let m := s.monitor n
    let cause := match n with
      | .pressure => if v < m.low then Cause.pressureLow else .pressureHigh
      | .temperature => if v < m.low then .tempLow else .tempHigh
    let u := s.setMonitor n (m.take v).1
    let marked := u.updRecord .supply fun r =>
      { r with condition := u.faults.pressure.condition || u.faults.temperature.condition }
    ((m.take v).2 = false → s.sample n v = marked) ∧
    ((m.take v).2 = true → s.sample n v = marked.raisePart cause none none)) ∧
  ∀ (rev count pressure temp : Half) (mark : Byte) (s : State), s.held = false →
    let p := s.faults.pressure
    let q := s.faults.temperature
    let pRaises := (p.take pressure.toNat).2 = true
    let qRaises := (q.take temp.toInt).2 = true
    let pCause := if (pressure.toNat : Int) < p.low then Cause.pressureLow else .pressureHigh
    let qCause := if temp.toInt < q.low then Cause.tempLow else .tempHigh
    let r := s.record .supply
    ∃ t : State, exec (.angleFrame rev count pressure temp mark) s = .next t ∧
      (t.record .supply).condition = (t.faults.pressure.condition || t.faults.temperature.condition) ∧
      (¬pRaises → ¬qRaises →
        t.record .supply =
          { r with condition := t.faults.pressure.condition || t.faults.temperature.condition }) ∧
      (pRaises ∨ qRaises →
        (t.record .supply).latched = true ∧ (t.record .supply).lastStation = none ∧
        (t.record .supply).lastCause =
          some (if qRaises ∧ (pRaises → s.arbiter.temperatureFirst = false) then qCause else pCause) ∧
        (r.action = .hold ∨ r.action = .halt → (t.record .supply).bars = true) ∧
        (r.action = .stop → (t.record .supply).inStop = true ∧ t.faults.mode = .safe)) ∧
      t.faults.pressure = (s.faults.pressure.take pressure.toNat).1 ∧
      t.faults.temperature = (s.faults.temperature.take temp.toInt).1 ∧
      t.ring = { s.ring with badCount := 0 } ∧
      t.ringOut = s.ringOut ++
        [angleBytes rev count pressure temp
          (if mark = 0 ∧ s.reports.threshold ≤ (if s.arbiter.markLast then t else s).reports.queue.length then 1
            else mark)] ∧
      t.zones = s.zones ∧ t.sequencer = s.sequencer ∧ t.meterUnit = s.meterUnit ∧ t.management = s.management ∧
      t.resets = s.resets ∧ t.lineHeld = s.lineHeld ∧ t.store.verifier = s.store.verifier ∧
      t.faults.watchdog = s.faults.watchdog ∧ t.faults.lockoutLimit = s.faults.lockoutLimit ∧
      t.reports.prios = s.reports.prios ∧ t.reports.threshold = s.reports.threshold

/-- A frame is classed by its advance on the reference position, the difference of the counts modulo CPR: out of range at or
above CPR, forward up to the maximum step with a consistent revolution (the next one after a wrap of the count, otherwise the
same) and JUMP with another, REVERSE in the band of the maximum step below CPR, and JUMP anywhere else (R4).
From no timebase to lock: a frame below CPR is taken as a base in NO_TIMEBASE and LOST and in ACQUIRING with no
run, a forward frame adds to the run, the frame that completes the run locks the tracker at its position and removes
the TIMEBASE condition, and every other frame starts the run anew or, out of range, ends it (R5, R6, R11; that the
acquire run keeps its last value in LOCKED is notes/assumptions/28.md). The frame that locks hands its position to the due
test and, where the edge is GAIN or BOTH, queues the TRACK report GAIN with the state LOCKED and that position; of the
other frames none does either (R12, R13). -/
def Obligations.AngleAcquiresTimebase : Prop :=
  (∀ (t : Tracker) (ref p : Pos),
    let ahead := advanceBy t.cpr p.count ref.count
    let consistent :=
      (p.count < ref.count → p.rev = (ref.rev + 1) % 65536) ∧ (ref.count ≤ p.count → p.rev = ref.rev)
    (p.count < t.cpr → ref.count < t.cpr → (ahead : Int) = ((p.count : Int) - ref.count) % t.cpr) ∧
    (revConsistent ref p = true ↔ consistent) ∧
    (t.cpr ≤ p.count → t.classify ref p = .outOfRange) ∧
    (p.count < t.cpr → ahead ≤ t.maxStep → consistent → t.classify ref p = .forward) ∧
    (p.count < t.cpr → ahead ≤ t.maxStep → ¬consistent → t.classify ref p = .jump) ∧
    (p.count < t.cpr → t.maxStep < ahead → t.cpr ≤ ahead + t.maxStep → t.classify ref p = .reverse) ∧
    (p.count < t.cpr → t.maxStep < ahead → ahead + t.maxStep < t.cpr → t.classify ref p = .jump)) ∧
  ∀ (rev count pressure temp : Half) (mark : Byte) (s : State), s.held = false →
    let p : Pos := ⟨rev.toNat, count.toNat⟩
    let tr := s.tracker
    let base : Tracker :=
      { tr with
        state := .acquiring, ref := some p, run := 1, jumpPending := false, gapTimer := some tr.gapLimit
        holdoverTimer := none }
    let quiet := (s.faults.pressure.take pressure.toNat).2 = false ∧ (s.faults.temperature.take temp.toInt).2 = false
    let locks := ∃ ref, tr.state = .acquiring ∧ tr.ref = some ref ∧ tr.classify ref p = .forward ∧
      tr.acquireCount ≤ tr.run + 1
    ∃ t : State, exec (.angleFrame rev count pressure temp mark) s = .next t ∧
      (locks → t.discharge = (s.dueTest p).discharge) ∧
      (locks → quiet → tr.edge = .gain ∨ tr.edge = .both →
        t.reports = s.reports.create (.track .gain .locked (some p))) ∧
      (locks → quiet → tr.edge = .none ∨ tr.edge = .loss → t.reports = s.reports) ∧
      (tr.state = .noTimebase ∨ tr.state = .lost ∨ tr.state = .acquiring → ¬locks →
        t.discharge = s.discharge ∧ (quiet → t.reports = s.reports)) ∧
      (tr.state = .noTimebase ∨ tr.state = .lost ∨ (tr.state = .acquiring ∧ tr.ref = none) →
        t.tracker = if count.toNat < tr.cpr then base else tr) ∧
      ∀ ref, tr.state = .acquiring → tr.ref = some ref →
        (tr.classify ref p = .forward → tr.run + 1 < tr.acquireCount →
          t.tracker = { tr with ref := some p, run := tr.run + 1, gapTimer := some tr.gapLimit }) ∧
        (tr.classify ref p = .forward → tr.acquireCount ≤ tr.run + 1 →
          t.tracker =
            { tr with
              state := .locked, ref := some p, pos := some p, run := tr.run + 1, jumpPending := false
              gapTimer := some tr.gapLimit, holdoverTimer := none } ∧
          (t.record .timebase).condition = false) ∧
        (tr.classify ref p = .reverse ∨ tr.classify ref p = .jump → t.tracker = base) ∧
        (tr.classify ref p = .outOfRange →
          t.tracker =
            { tr with
              state := .acquiring, ref := none, run := 0, jumpPending := false, gapTimer := none
              holdoverTimer := none })

/-- In LOCKED and HOLDOVER: a forward frame moves the position, the first JUMP only sets jump-pending, a second one and
a REVERSE fall to ACQUIRING with TIMEBASE latched, and in HOLDOVER a consistent advance of up to a quarter revolution
recovers while every other frame falls; a fall does the TIMEBASE raise and nothing more, so that neither it nor a recovery
makes a TRACK report; a standstill frame crosses nothing (R7, R8, R10, R12, R17). At an accepted frame every
head that is not OFF walks the angles of the advance one by one, each head once, and the new position goes to the due test
(R7, R10, R13, R16; the order of heads, readings and due test is notes/assumptions/4.md and 26.md, and that the acquire run
keeps its last value in LOCKED and HOLDOVER is notes/assumptions/28.md). The due test removes the entries from the first on
whose due position is reached, up to the first whose is not, adds their number to the rejections made, and, where it
removed one, starts the pulse with the configured width, so that the reject output is active (R122). -/
def Obligations.AngleInLockAndHoldover : Prop :=
  (∀ s : State, s.headOrder.Perm (List.finRange 48)) ∧
  (∀ (s : State) (p : Pos),
    let size := 65536 * s.tracker.cpr
    let due := fun e : RejectEntry =>
      ((p.rev * s.tracker.cpr + p.count) % size + size - e.due % size) % size < size / 2
    ∃ removed kept, s.discharge.schedule = removed ++ kept ∧ (∀ e ∈ removed, due e) ∧ (∀ e ∈ kept.head?, ¬due e) ∧
      s.dueTest p =
        { s with
          discharge := { s.discharge with
            schedule := kept, made := (s.discharge.made + removed.length) % 65536
            pulse := if removed = [] then s.discharge.pulse else some s.discharge.pulseWidth } } ∧
      (removed ≠ [] → s.held = false → (s.dueTest p).rejectOutput = true)) ∧
  (∀ (s : State) (old : Pos) (n : Nat),
    s.walkAll old n =
      s.headOrder.foldl
        (fun u h =>
          match (u.head h).offset with
          | some o =>
            if (u.head h).state = .off then u
            else State.walkHead h n ((old.count + u.tracker.cpr - o % u.tracker.cpr) % u.tracker.cpr) old u
          | none => u) s) ∧
  (∀ (h : HeadId) (n a : Nat) (q : Pos) (s : State),
    let cpr := s.tracker.cpr
    let b := (a + 1) % cpr
    let after : Pos :=
      if q.count + 1 < cpr then { q with count := q.count + 1 } else { rev := (q.rev + 1) % 65536, count := 0 }
    State.walkHead h 0 a q s = s ∧
    State.walkHead h (n + 1) a q s = State.walkHead h n b after (s.takeAngle h b after)) ∧
  ∀ (rev count pressure temp : Half) (mark : Byte) (s : State) (ref : Pos), s.held = false →
    s.tracker.ref = some ref →
    let p : Pos := ⟨rev.toNat, count.toNat⟩
    let tr := s.tracker
    let accepted : Tracker :=
      { tr with
        state := .locked, ref := some p, pos := some p, jumpPending := false, gapTimer := some tr.gapLimit
        holdoverTimer := none }
    let fallen : Tracker :=
      { tr with
        state := .acquiring, ref := if count.toNat < tr.cpr then some p else none
        run := if count.toNat < tr.cpr then 1 else 0, jumpPending := false
        gapTimer := if count.toNat < tr.cpr then some tr.gapLimit else none, holdoverTimer := none }
    let near := count.toNat < tr.cpr ∧ advanceBy tr.cpr p.count ref.count ≤ tr.cpr / 4 ∧ revConsistent ref p = true
    let bad := tr.classify ref p = .jump ∨ tr.classify ref p = .outOfRange
    let good : State := { s with ring := { s.ring with badCount := 0 } }
    let told := fun t k =>
      let fall := fun u : State => ({ u with tracker := fallen } : State).raisePart k none none
      ∃ f : Frame,
        t =
          ((if s.arbiter.supplyFirst then fall (good.takeReadings pressure temp)
            else (fall good).takeReadings pressure temp).sendRing f)
    ∃ t : State, exec (.angleFrame rev count pressure temp mark) s = .next t ∧
      (tr.state = .locked → tr.classify ref p = .forward → t.tracker = accepted) ∧
      (tr.state = .locked → tr.classify ref p = .forward → tr.pos = some p →
        (s.faults.pressure.take pressure.toNat).2 = false → (s.faults.temperature.take temp.toInt).2 = false →
        t.heads = s.heads) ∧
      (tr.state = .locked → bad → tr.jumpPending = false → t.tracker = { tr with jumpPending := true }) ∧
      (tr.state = .locked → bad → tr.jumpPending = true →
        t.tracker = fallen ∧ (t.record .timebase).latched = true ∧
          (t.record .timebase).lastCause = some .timebaseJump ∧ told t .timebaseJump) ∧
      (tr.state = .locked → tr.classify ref p = .reverse →
        t.tracker = fallen ∧ (t.record .timebase).latched = true ∧
          (t.record .timebase).lastCause = some .timebaseReverse ∧ told t .timebaseReverse) ∧
      (∀ old, tr.pos = some old →
        (tr.state = .locked ∧ tr.classify ref p = .forward) ∨ (tr.state = .holdover ∧ near) →
        let moving := fun u : State => ({ u with tracker := { accepted with pos := tr.pos } } : State)
        let counts := (p.count + tr.cpr - old.count) % tr.cpr
        let cross := fun u : State =>
          if s.arbiter.dischargeFirst then ((u.setPos p).dueTest p).walkAll old counts
          else ((u.walkAll old counts).setPos p).dueTest p
        ∃ f : Frame,
          t =
            ((if s.arbiter.supplyFirst then cross (moving (good.takeReadings pressure temp))
              else (cross (moving good)).takeReadings pressure temp).sendRing f)) ∧
      (tr.state = .holdover → near → t.tracker = accepted) ∧
      (tr.state = .holdover → ¬near →
        t.tracker = fallen ∧ (t.record .timebase).latched = true ∧
          (t.record .timebase).lastCause = some .timebaseJump ∧ told t .timebaseJump)

/-! ## SET_MODE and READ -/

/-- SET_MODE by mode requested and mode held, with the leave and start conditions (R128, R129). -/
def Obligations.SetModeTable : Prop :=
  ∀ (e : Envelope) (b : Byte) (s : State), s.hears e →
    let u := s.taken
    let change := fun m : Mode =>
      ({ u with faults := { u.faults with mode := m } } : State).report (.mode u.faults.mode m none)
    let mayLeave := (∀ c, (u.record c).inStop = false) ∧ u.lineHeld = false ∧ u.lockoutCount < u.faults.lockoutLimit ∧
      ∀ c, ¬((u.record c).condition = true ∧ (u.record c).action = .stop)
    let mayStart := u.tracker.cpr ≠ 0 ∧ u.zones.seatEnd ≠ 0 ∧ u.zones.dischargeAngle ≠ 0 ∧
      (∃ i : Fin 8, u.zones.rows[i].valid = true) ∧ ∃ h, (u.head h).state ≠ .off
    (3 ≤ b.toNat → exec (.setMode e b) s = .next (u.replied e 2 .badValue (nat8 u.faults.mode.code))) ∧
    (b = 0 → exec (.setMode e b) s = .next ((u.enterSafe none).replied e 2 .ok (nat8 0))) ∧
    (b = 1 → u.faults.mode = .safe → mayLeave →
      exec (.setMode e b) s = .next ((change .standby).replied e 2 .ok (nat8 1))) ∧
    (b = 1 → u.faults.mode = .safe → ¬mayLeave →
      exec (.setMode e b) s = .next (u.replied e 2 .refusedState (nat8 0))) ∧
    (b = 1 → u.faults.mode = .standby → exec (.setMode e b) s = .next (u.replied e 2 .ok (nat8 1))) ∧
    (b = 1 → u.faults.mode = .production →
      exec (.setMode e b) s = .next ((change .standby).replied e 2 .ok (nat8 1))) ∧
    (b = 2 → u.faults.mode = .safe → exec (.setMode e b) s = .next (u.replied e 2 .refusedMode (nat8 0))) ∧
    (b = 2 → u.faults.mode = .standby → mayStart →
      exec (.setMode e b) s = .next ((change .production).replied e 2 .ok (nat8 2))) ∧
    (b = 2 → u.faults.mode = .standby → ¬mayStart →
      exec (.setMode e b) s = .next (u.replied e 2 .refusedState (nat8 1))) ∧
    (b = 2 → u.faults.mode = .production → exec (.setMode e b) s = .next (u.replied e 2 .ok (nat8 2)))

/-- Entry to SAFE from another mode, with clean contexts: every RUNNING head aborts with level 1, an ABORTED record and
no pin, every SEATING head goes to EMPTY_PASS with a SKIPPED record and reason MODE, every other head keeps its state,
and no snapshot is pushed; in SAFE nothing changes (R62, R69, R130). -/
def Obligations.SafeEntryAbortsHeads : Prop :=
  ∀ (s : State) (cause : Option Cause),
    (s.faults.mode = .safe → s.enterSafe cause = s) ∧
    (s.faults.mode ≠ .safe → (∀ h, (s.head h).clean = true) →
      let t := s.enterSafe cause
      t.faults.mode = .safe ∧ t.faults.snapshots = s.faults.snapshots ∧
      (∀ c, t.record c = s.record c) ∧
      t.reports = s.reports.create (.mode s.faults.mode .safe (cause.map Cause.cls)) ∧
      ∀ h,
        ((s.head h).state = .running →
          (t.head h).state = .aborting ∧ (t.head h).level = 1 ∧ (t.head h).valves = .venting ∧
          (t.head h).arm = none ∧ (t.head h).pin = none ∧ (t.head h).phase = none ∧
          (t.head h).ventTimer = some s.sequencer.ventLimit ∧
          ((s.head h).record = none →
            ∃ r, (t.head h).record = some r ∧ r.verdict = .aborted ∧ r.pin = (s.head h).pin ∧
              r.fault = cause.or (s.head h).lastFault ∧ r.completed = (s.head h).segIndex)) ∧
        ((s.head h).state = .seating →
          (t.head h).state = .emptyPass ∧ (t.head h).pin = none ∧
          ((s.head h).record = none →
            ∃ r, (t.head h).record = some r ∧ r.verdict = .skipped ∧ r.skip = some .mode ∧
              r.pin = (s.head h).pin)) ∧
        ((s.head h).state ≠ .running → (s.head h).state ≠ .seating →
          { t.head h with scan := (s.head h).scan } = s.head h))

/-- READ of a row of each of the eleven tables is answered OK with the row as it stands, and changes nothing else
(R171; the rows' byte layouts are notes/assumptions/14.md). READ of a row outside its table is answered BAD_ROW, of an
index that a slot does not hold EMPTY, of a table outside the eleven UNKNOWN; and the HEAD row has 92 bytes (R41, R171,
R181). -/
def Obligations.ReadsAnswered : Prop :=
  (∀ (e : Envelope) (s : State), s.hears e →
    let u := s.taken
    exec (.readPart e 0) s = .next (u.replied e 3 .ok u.partRow) ∧
    exec (.readTracker e 0) s = .next (u.replied e 3 .ok u.trackerRow) ∧
    (∀ i : Fin 8, exec (.readZone e (BitVec.ofNat 8 i.val)) s = .next (u.replied e 3 .ok u.zones.rows[i].bytes)) ∧
    (∀ j : SlotId, exec (.readSlot e (BitVec.ofNat 8 j.val)) s = .next (u.replied e 3 .ok (u.slotRow j))) ∧
    (∀ (j : SlotId) (k : Fin 12) (n : Nat), (u.slot j).state ≠ .free → (u.slot j).segCount = some n → k.val < n →
      (u.slot j).cells[k].written = true →
      exec (.readSegment e (BitVec.ofNat 8 j.val) (BitVec.ofNat 8 k.val)) s =
        .next (u.replied e 3 .ok (u.slot j).cells[k].record.bytes)) ∧
    (∀ h : HeadId, exec (.readHead e (BitVec.ofNat 8 h.val)) s = .next (u.replied e 3 .ok (u.headRow h))) ∧
    (∀ h : HeadId, exec (.readCalib e (BitVec.ofNat 8 h.val)) s = .next (u.replied e 3 .ok (u.head h).calibRow)) ∧
    (∀ c : FaultClass, exec (.readFault e (BitVec.ofNat 8 c.code)) s = .next (u.replied e 3 .ok (u.record c).row)) ∧
    exec (.readSupply e 0) s = .next (u.replied e 3 .ok u.supplyRow) ∧
    exec (.readQueues e 0) s = .next (u.replied e 3 .ok u.queuesRow) ∧
    exec (.readReject e 0) s = .next (u.replied e 3 .ok u.rejectRow)) ∧
  (∀ (e : Envelope) (r k : Byte) (s : State), s.hears e →
    let u := s.taken
    let badRow : Host.Outcome State Fault Refusal := .next (u.replied e 3 .badRow [])
    (r ≠ 0 → exec (.readPart e r) s = badRow ∧ exec (.readTracker e r) s = badRow ∧
      exec (.readSupply e r) s = badRow ∧ exec (.readQueues e r) s = badRow ∧ exec (.readReject e r) s = badRow) ∧
    (8 ≤ r.toNat → exec (.readZone e r) s = badRow ∧ exec (.readSlot e r) s = badRow) ∧
    (8 ≤ r.toNat ∨ 12 ≤ k.toNat → exec (.readSegment e r k) s = badRow) ∧
    (48 ≤ r.toNat → exec (.readHead e r) s = badRow ∧ exec (.readCalib e r) s = badRow) ∧
    (14 ≤ r.toNat → exec (.readFault e r) s = badRow) ∧
    (∀ (j : SlotId) (i : Fin 12), r.toNat = j.val → k.toNat = i.val →
      (u.slot j).state = .free ∨ (u.slot j).segCount.getD 0 ≤ i.val ∨ (u.slot j).cells[i].written = false →
      exec (.readSegment e r k) s = .next (u.replied e 3 .empty [])) ∧
    (k = 0 ∨ 11 < k.toNat → exec (.read e k r) s = .next (u.replied e 3 .unknown []))) ∧
  ∀ (s : State) (h : HeadId), (s.headRow h).length = 92

/-! ## WRITE_CONFIG -/

/-- The items written in any mode that are stored and nothing more: each value in its range is stored (R2, R62, R91,
R112, R153, R156). -/
def Obligations.WritesInEveryMode : Prop :=
  ∀ (e : Envelope) (x : Byte) (v : Word) (s : State), s.hears e →
    let u := s.taken
    let n := v.toInt.toNat
    (1 ≤ v.toInt → v.toInt ≤ 32 →
      exec (.writeConfigGapLimit e x v) s =
        .next (({ u with tracker := { u.tracker with gapLimit := n } } : State).wrote e)) ∧
    (1 ≤ v.toInt → v.toInt ≤ 250 →
      exec (.writeConfigHoldoverLimit e x v) s =
        .next (({ u with tracker := { u.tracker with holdoverLimit := n } } : State).wrote e)) ∧
    (∀ g : TrackEdge, v.toInt = g.code →
      exec (.writeConfigTrackReportEdge e x v) s =
        .next (({ u with tracker := { u.tracker with edge := g } } : State).wrote e)) ∧
    (100 ≤ v.toInt → v.toInt ≤ 5000 →
      exec (.writeConfigVentLimit e x v) s =
        .next (({ u with sequencer := { u.sequencer with ventLimit := n } } : State).wrote e)) ∧
    (0 ≤ v.toInt → v.toInt ≤ 200 →
      exec (.writeConfigReleasePressure e x v) s =
        .next (({ u with sequencer := { u.sequencer with releasePressure := n } } : State).wrote e)) ∧
    (16 ≤ v.toInt → v.toInt ≤ 4095 →
      exec (.writeConfigStepLimit e x v) s =
        .next (({ u with meterUnit := { u.meterUnit with stepLimit := n } } : State).wrote e)) ∧
    (1 ≤ v.toInt → v.toInt ≤ 255 →
      exec (.writeConfigLeakLimit e x v) s =
        .next (({ u with meterUnit := { u.meterUnit with leakLimit := n } } : State).wrote e)) ∧
    (1 ≤ v.toInt → v.toInt ≤ 4 →
      exec (.writeConfigLearningWeight e x v) s =
        .next (({ u with meterUnit := { u.meterUnit with weight := n } } : State).wrote e)) ∧
    (2 ≤ v.toInt → v.toInt ≤ 100 →
      exec (.writeConfigReplyTimeout e x v) s =
        .next (({ u with scanner := { u.scanner with replyTimeout := n } } : State).wrote e)) ∧
    (v.toInt = 1 ∨ v.toInt = 2 ∨ v.toInt = 4 ∨ v.toInt = 8 →
      exec (.writeConfigMissLimit e x v) s =
        .next (({ u with scanner := { u.scanner with missLimit := n } } : State).wrote e)) ∧
    (1 ≤ v.toInt → v.toInt ≤ 8 →
      exec (.writeConfigConfirmWindow e x v) s =
        .next (({ u with scanner := { u.scanner with confirmWindow := n } } : State).wrote e)) ∧
    (v.toInt = 1 ∨ v.toInt = 2 ∨ v.toInt = 4 ∨ v.toInt = 8 →
      exec (.writeConfigRingLimit e x v) s =
        .next (({ u with ring := { u.ring with limit := n } } : State).wrote e)) ∧
    (1 ≤ v.toInt → v.toInt ≤ 32 →
      exec (.writeConfigBacklogThreshold e x v) s =
        .next (({ u with reports := { u.reports with threshold := n } } : State).wrote e))

/-- The items written outside PRODUCTION that are stored and nothing more, with the cross-checks of each (R2, R22, R114,
R174, R175). -/
def Obligations.WritesOutsideProduction : Prop :=
  ∀ (e : Envelope) (x : Byte) (v : Word) (s : State), s.hears e → s.faults.mode ≠ .production →
    let u := s.taken
    let n := v.toInt.toNat
    (1 ≤ v.toInt → v.toInt ≤ 4096 → (u.tracker.cpr = 0 ∨ 2 * n < u.tracker.cpr) →
      exec (.writeConfigMaximumStep e x v) s =
        .next (({ u with tracker := { u.tracker with maxStep := n } } : State).wrote e)) ∧
    (2 ≤ v.toInt → v.toInt ≤ 16 →
      exec (.writeConfigAcquireCount e x v) s =
        .next (({ u with tracker := { u.tracker with acquireCount := n } } : State).wrote e)) ∧
    (0 ≤ v.toInt → v.toInt ≤ 255 →
      exec (.writeConfigBaseGap e x v) s =
        .next (({ u with zones := { u.zones with baseGap := n } } : State).wrote e)) ∧
    (1 ≤ v.toInt → n < u.tracker.cpr → (u.zones.dischargeAngle = 0 ∨ n < u.zones.dischargeAngle) →
      exec (.writeConfigSeatWindowEnd e x v) s =
        .next (({ u with zones := { u.zones with seatEnd := n } } : State).wrote e)) ∧
    (1 ≤ v.toInt → n < u.tracker.cpr → u.zones.seatEnd < n →
      exec (.writeConfigDischargeAngle e x v) s =
        .next (({ u with zones := { u.zones with dischargeAngle := n } } : State).wrote e)) ∧
    (1 ≤ v.toInt → v.toInt ≤ 48 → u.management.stationBase + n ≤ 256 →
      (∀ h : HeadId, n ≤ h.val → (u.head h).state = .off) →
      exec (.writeConfigHeadCount e x v) s =
        .next (({ u with management := { u.management with headCount := n } } : State).wrote e)) ∧
    (1 ≤ v.toInt → v.toInt ≤ 48 → u.management.stationBase + n ≤ 256 →
      (∃ h : HeadId, n ≤ h.val ∧ (u.head h).state ≠ .off) →
      exec (.writeConfigHeadCount e x v) s = .next (u.replied e 4 .refusedState [])) ∧
    (0 ≤ v.toInt → v.toInt ≤ 255 → (u.management.headCount = 0 ∨ n + u.management.headCount ≤ 256) →
      exec (.writeConfigStationBase e x v) s =
        .next (({ u with management := { u.management with stationBase := n } } : State).wrote e)) ∧
    (u.tracker.cpr ≠ 0 → 1 ≤ v.toInt → n ≤ 4 * u.tracker.cpr →
      exec (.writeConfigGateDistance e x v) s =
        .next (({ u with discharge := { u.discharge with gate := n } } : State).wrote e)) ∧
    (5 ≤ v.toInt → v.toInt ≤ 250 →
      exec (.writeConfigRejectPulseWidth e x v) s =
        .next (({ u with discharge := { u.discharge with pulseWidth := n } } : State).wrote e))

/-- A write of CPR with every head OFF restarts the tracker, removes the TIMEBASE condition and empties the Discharge
Tracker's schedule and source sequence table; with a head enrolled it is refused (R3, R11, R125). Master enable: turned on
with a gate distance and an address of 0 to 14, turned off it empties the Discharge Tracker, and a write of the value held
changes nothing (R114, R115). -/
def Obligations.CprAndMasterEnableWrites : Prop :=
  (∀ (e : Envelope) (x : Byte) (v : Word) (s : State), s.hears e → s.faults.mode ≠ .production →
    let u := s.taken
    let n := v.toInt.toNat
    ((∃ h, (u.head h).state ≠ .off) →
      exec (.writeConfigCpr e x v) s = .next (u.replied e 4 .refusedState [])) ∧
    ((∀ h, (u.head h).state = .off) → 1024 ≤ v.toInt → v.toInt ≤ 65535 → 2 * u.tracker.maxStep < n →
      (∀ i : Fin 8, u.zones.rows[i].valid = true → u.zones.rows[i].stop ≤ n) → u.zones.dischargeAngle < n →
      exec (.writeConfigCpr e x v) s =
        .next ((({ u with
            tracker := { u.tracker with
              cpr := n, state := .noTimebase, ref := none, pos := none, run := 0, jumpPending := false
              gapTimer := none, holdoverTimer := none }
            discharge := { u.discharge with
              schedule := [], lastSeq := Vector.replicate 15 none, pulse := none } } : State).updRecord
          .timebase fun r => { r with condition := false }).wrote e))) ∧
  ∀ (e : Envelope) (x : Byte) (v : Word) (s : State), s.hears e → s.faults.mode ≠ .production →
    let u := s.taken
    (v = 1 → u.discharge.gate = 0 →
      exec (.writeConfigMasterEnable e x v) s = .next (u.replied e 4 .refusedState [])) ∧
    (v = 1 → u.discharge.gate ≠ 0 →
      exec (.writeConfigMasterEnable e x v) s =
        .next (({ u with discharge := { u.discharge with master := true } } : State).wrote e)) ∧
    (v = 0 → u.discharge.master = true →
      exec (.writeConfigMasterEnable e x v) s =
        .next (({ u with
          discharge := { u.discharge with
            master := false, schedule := [], lastSeq := Vector.replicate 15 none, pulse := none } } : State).wrote
          e)) ∧
    (v = 0 → u.discharge.master = false → exec (.writeConfigMasterEnable e x v) s = .next (u.wrote e))

/-- The items chosen by a selector: the action of each class but RESET and LOCKOUT, the priority of each report kind,
and the four items of each supply monitor while its band stays non-empty (R132, R143, R163). -/
def Obligations.SelectorWrites : Prop :=
  ∀ (e : Envelope) (v : Word) (s : State), s.hears e →
    let u := s.taken
    let band := fun m : Monitor => m.low + m.hysteresis ≤ m.high - m.hysteresis
    (∀ (c : FaultClass) (a : Action), c ≠ .reset → c ≠ .lockout → v.toInt = a.code →
      exec (.writeConfigAction e (BitVec.ofNat 8 c.code) v) s =
        .next ((u.updRecord c fun r => { r with action := a }).wrote e)) ∧
    (∀ c : FaultClass, c = .reset ∨ c = .lockout →
      exec (.writeConfigAction e (BitVec.ofNat 8 c.code) v) s = .next (u.replied e 4 .refusedState [])) ∧
    (∀ k : ReportKind, 0 ≤ v.toInt → v.toInt ≤ 3 →
      exec (.writeConfigPriority e (BitVec.ofNat 8 k.code) v) s =
        .next (({ u with
          reports := { u.reports with prios := u.reports.prios.set k.row v.toInt.toNat } } : State).wrote e)) ∧
    (∀ n : MonitorName,
      let x : Byte := match n with | .pressure => 0 | .temperature => 1
      let m := u.monitor n
      let ranged := match n with
        | .pressure => 0 ≤ v.toInt ∧ v.toInt ≤ 1000
        | .temperature => -500 ≤ v.toInt ∧ v.toInt ≤ 1000
      (ranged → band { m with low := v.toInt } →
        exec (.writeConfigLowLimit e x v) s = .next ((u.setMonitor n { m with low := v.toInt }).wrote e)) ∧
      (ranged → band { m with high := v.toInt } →
        exec (.writeConfigHighLimit e x v) s = .next ((u.setMonitor n { m with high := v.toInt }).wrote e)) ∧
      (0 ≤ v.toInt → v.toInt ≤ 100 → band { m with hysteresis := v.toInt } →
        exec (.writeConfigHysteresis e x v) s =
          .next ((u.setMonitor n { m with hysteresis := v.toInt }).wrote e)) ∧
      (1 ≤ v.toInt → v.toInt ≤ 8 → band m →
        exec (.writeConfigSuccessiveCount e x v) s =
          .next ((u.setMonitor n { m with n := v.toInt.toNat }).wrote e)) ∧
      (¬(ranged ∧ band { m with low := v.toInt }) → exec (.writeConfigLowLimit e x v) s = .next (u.badValue e)) ∧
      (¬(ranged ∧ band { m with high := v.toInt }) → exec (.writeConfigHighLimit e x v) s = .next (u.badValue e)) ∧
      (¬(0 ≤ v.toInt ∧ v.toInt ≤ 100 ∧ band { m with hysteresis := v.toInt }) →
        exec (.writeConfigHysteresis e x v) s = .next (u.badValue e)) ∧
      (¬(1 ≤ v.toInt ∧ v.toInt ≤ 8 ∧ band m) → exec (.writeConfigSuccessiveCount e x v) s = .next (u.badValue e)))

/-- The lockout limit: a limit above the lockout count removes the LOCKOUT condition, one at or below it while the
condition stands changes nothing more, and one at or below it with the condition absent marks it, raises LOCKOUT LIMIT
and puts the part in SAFE with LOCKOUT in the stop-cause set (R142). The three items of the heartbeat watchdog (R146). -/
def Obligations.LockoutAndHeartbeatWrites : Prop :=
  (∀ (e : Envelope) (x : Byte) (v : Word) (s : State), s.hears e → 1 ≤ v.toInt → v.toInt ≤ 8 →
    let u := s.taken
    let n := v.toInt.toNat
    let w : State := { u with faults := { u.faults with lockoutLimit := n } }
    (u.lockoutCount < n →
      exec (.writeConfigLockoutLimit e x v) s =
        .next ((w.updRecord .lockout fun r => { r with condition := false }).wrote e)) ∧
    (n ≤ u.lockoutCount → (u.record .lockout).condition = true →
      exec (.writeConfigLockoutLimit e x v) s = .next (w.wrote e)) ∧
    (n ≤ u.lockoutCount → (u.record .lockout).condition = false →
      ∃ t : State, exec (.writeConfigLockoutLimit e x v) s = .next (t.wrote e) ∧ t.faults.mode = .safe ∧
        t.faults.lockoutLimit = n ∧ (t.record .lockout).condition = true ∧ (t.record .lockout).latched = true ∧
        (t.record .lockout).lastCause = some .lockoutLimit ∧ (t.record .lockout).lastStation = none ∧
        (t.record .lockout).inStop = true)) ∧
  ∀ (e : Envelope) (x : Byte) (v : Word) (s : State), s.hears e →
    let u := s.taken
    let w := u.faults.watchdog
    let put := fun w : Watchdog => ({ u with faults := { u.faults with watchdog := w } } : State)
    (v = 1 → w.enable = false →
      exec (.writeConfigHeartbeatEnable e x v) s =
        .next ((put { w with enable := true, state := .watching, timer := some w.upper, lowerTaken := w.lower }).wrote
          e)) ∧
    (v = 0 → w.enable = true →
      exec (.writeConfigHeartbeatEnable e x v) s =
        .next (((put { w with enable := false, state := .disabled, timer := none }).updRecord .heartbeat fun r =>
          { r with condition := false }).wrote e)) ∧
    (v = 1 → w.enable = true → exec (.writeConfigHeartbeatEnable e x v) s = .next (u.wrote e)) ∧
    (v = 0 → w.enable = false → exec (.writeConfigHeartbeatEnable e x v) s = .next (u.wrote e)) ∧
    (1 ≤ v.toInt → v.toInt ≤ 255 → (w.lower = 0 ∨ w.lower < v.toInt.toNat) →
      exec (.writeConfigHeartbeatUpperLimit e x v) s = .next ((put { w with upper := v.toInt.toNat }).wrote e)) ∧
    (0 ≤ v.toInt → (v.toInt = 0 ∨ v.toInt.toNat < w.upper) →
      exec (.writeConfigHeartbeatLowerLimit e x v) s = .next ((put { w with lower := v.toInt.toNat }).wrote e))

/-- The items marked as refused in PRODUCTION, and WRITE_ZONE, are answered REFUSED_MODE in PRODUCTION, whatever they
carry; a value outside its range or failing a cross-check of its item, or a selector that is none of those defined, is
answered BAD_VALUE, and an item outside the table UNKNOWN; a refused write changes nothing (R2, R3, R19, R22, R62, R91,
R112, R114, R132, R142, R143, R146, R153, R156, R163, R173, R174, R175). -/
def Obligations.WritesRefused : Prop :=
  ∀ (e : Envelope) (x : Byte) (v : Word) (s : State), s.hears e →
    let refused : Host.Outcome State Fault Refusal := .next (s.taken.replied e 4 .refusedMode [])
    let bad : Host.Outcome State Fault Refusal := .next (s.taken.badValue e)
    let outside := fun lo hi : Int => v.toInt < lo ∨ hi < v.toInt
    let noPower := ¬(v.toInt = 1 ∨ v.toInt = 2 ∨ v.toInt = 4 ∨ v.toInt = 8)
    (s.faults.mode = .production →
      exec (.writeConfigCpr e x v) s = refused ∧ exec (.writeConfigMaximumStep e x v) s = refused ∧
      exec (.writeConfigAcquireCount e x v) s = refused ∧ exec (.writeConfigBaseGap e x v) s = refused ∧
      exec (.writeConfigSeatWindowEnd e x v) s = refused ∧ exec (.writeConfigDischargeAngle e x v) s = refused ∧
      exec (.writeConfigHeadCount e x v) s = refused ∧ exec (.writeConfigStationBase e x v) s = refused ∧
      exec (.writeConfigMasterEnable e x v) s = refused ∧ exec (.writeConfigGateDistance e x v) s = refused ∧
      exec (.writeConfigRejectPulseWidth e x v) s = refused ∧
      ∀ z : ZoneFields, exec (.writeZone e x z) s = .next (s.taken.replied e 5 .refusedMode [])) ∧
    (s.faults.mode ≠ .production →
      ((∀ h, (s.head h).state = .off) →
        outside 1024 65535 ∨ v.toInt ≤ 2 * s.tracker.maxStep ∨
          (∃ i : Fin 8, s.zones.rows[i].valid = true ∧ v.toInt < s.zones.rows[i].stop) ∨
          v.toInt ≤ s.zones.dischargeAngle →
        exec (.writeConfigCpr e x v) s = bad) ∧
      (outside 1 4096 ∨ (s.tracker.cpr ≠ 0 ∧ (s.tracker.cpr : Int) ≤ 2 * v.toInt) →
        exec (.writeConfigMaximumStep e x v) s = bad) ∧
      (outside 2 16 → exec (.writeConfigAcquireCount e x v) s = bad) ∧
      (outside 0 255 → exec (.writeConfigBaseGap e x v) s = bad) ∧
      (v.toInt < 1 ∨ s.tracker.cpr ≤ v.toInt ∨
          (s.zones.dischargeAngle ≠ 0 ∧ (s.zones.dischargeAngle : Int) ≤ v.toInt) →
        exec (.writeConfigSeatWindowEnd e x v) s = bad) ∧
      (v.toInt < 1 ∨ s.tracker.cpr ≤ v.toInt ∨ v.toInt ≤ s.zones.seatEnd →
        exec (.writeConfigDischargeAngle e x v) s = bad) ∧
      (outside 1 48 ∨ 256 < s.management.stationBase + v.toInt → exec (.writeConfigHeadCount e x v) s = bad) ∧
      (outside 0 255 ∨ (s.management.headCount ≠ 0 ∧ 256 < v.toInt + s.management.headCount) →
        exec (.writeConfigStationBase e x v) s = bad) ∧
      (outside 0 1 → exec (.writeConfigMasterEnable e x v) s = bad) ∧
      (s.tracker.cpr = 0 ∨ v.toInt < 1 ∨ 4 * s.tracker.cpr < v.toInt →
        exec (.writeConfigGateDistance e x v) s = bad) ∧
      (outside 5 250 → exec (.writeConfigRejectPulseWidth e x v) s = bad)) ∧
    (outside 1 32 → exec (.writeConfigGapLimit e x v) s = bad) ∧
    (outside 1 250 → exec (.writeConfigHoldoverLimit e x v) s = bad) ∧
    (outside 0 3 → exec (.writeConfigTrackReportEdge e x v) s = bad) ∧
    (outside 100 5000 → exec (.writeConfigVentLimit e x v) s = bad) ∧
    (outside 0 200 → exec (.writeConfigReleasePressure e x v) s = bad) ∧
    (outside 16 4095 → exec (.writeConfigStepLimit e x v) s = bad) ∧
    (outside 1 255 → exec (.writeConfigLeakLimit e x v) s = bad) ∧
    (outside 1 4 → exec (.writeConfigLearningWeight e x v) s = bad) ∧
    (outside 2 100 → exec (.writeConfigReplyTimeout e x v) s = bad) ∧
    (noPower → exec (.writeConfigMissLimit e x v) s = bad) ∧
    (outside 1 8 → exec (.writeConfigConfirmWindow e x v) s = bad) ∧
    (noPower → exec (.writeConfigRingLimit e x v) s = bad) ∧
    (outside 1 32 → exec (.writeConfigBacklogThreshold e x v) s = bad) ∧
    (outside 1 8 → exec (.writeConfigLockoutLimit e x v) s = bad) ∧
    (outside 0 1 → exec (.writeConfigHeartbeatEnable e x v) s = bad) ∧
    (outside 1 255 ∨ (s.faults.watchdog.lower ≠ 0 ∧ v.toInt ≤ s.faults.watchdog.lower) →
      exec (.writeConfigHeartbeatUpperLimit e x v) s = bad) ∧
    (v.toInt < 0 ∨ (v.toInt ≠ 0 ∧ s.faults.watchdog.upper ≤ v.toInt) →
      exec (.writeConfigHeartbeatLowerLimit e x v) s = bad) ∧
    (13 < x.toNat → exec (.writeConfigAction e x v) s = bad) ∧
    (∀ c : FaultClass, c ≠ .reset → c ≠ .lockout → outside 0 3 →
      exec (.writeConfigAction e (BitVec.ofNat 8 c.code) v) s = bad) ∧
    (x.toNat = 0 ∨ 5 < x.toNat ∨ outside 0 3 → exec (.writeConfigPriority e x v) s = bad) ∧
    (1 < x.toNat → exec (.writeConfigLowLimit e x v) s = bad ∧ exec (.writeConfigHighLimit e x v) s = bad ∧
      exec (.writeConfigHysteresis e x v) s = bad ∧ exec (.writeConfigSuccessiveCount e x v) s = bad) ∧
    ∀ i : Byte, i = 0 ∨ 34 < i.toNat →
      exec (.writeConfig e i x v) s = .next (s.taken.replied e 4 .unknown [])

/-! ## WRITE_ZONE and the Profile Store -/

/-- WRITE_ZONE outside PRODUCTION: a row with valid 0 is blanked, a row in range that meets no other valid row is
stored, an overlapping one is answered OVERLAP, a row out of range BAD_VALUE, and a row number above 7 BAD_ROW
(R19). -/
def Obligations.WriteZoneRow : Prop :=
  ∀ (e : Envelope) (z : ZoneFields) (s : State), s.hears e → s.faults.mode ≠ .production →
    let u := s.taken
    (∀ r : Byte, 8 ≤ r.toNat → exec (.writeZone e r z) s = .next (u.replied e 5 .badRow [])) ∧
    ∀ i : Fin 8,
      let run := exec (.writeZone e (BitVec.ofNat 8 i.val) z) s
      let put := fun r : ZoneRow => ({ u with zones := { u.zones with rows := u.zones.rows.set i r } } : State)
      let ranged := z.valid = 1 ∧ 1 ≤ z.start.toNat ∧ z.start.toNat < z.stop.toNat ∧
        z.stop.toNat ≤ u.tracker.cpr ∧ z.guard.toNat ≤ 1023
      let shares := ∃ k : Fin 8, k ≠ i ∧ u.zones.rows[k].valid = true ∧
        u.zones.rows[k].start < z.stop.toNat ∧ z.start.toNat < u.zones.rows[k].stop
      (z.valid = 0 →
        run = .next ((put { valid := false, start := 0, stop := 0, permitted := 0, guard := 0, gap := 0 }).replied e 5
          .ok [])) ∧
      (z.valid ≠ 0 → ¬ranged → run = .next (u.replied e 5 .badValue [])) ∧
      (ranged → shares → run = .next (u.replied e 5 .overlap [])) ∧
      (ranged → ¬shares →
        run =
          .next ((put
            { valid := true, start := z.start.toNat, stop := z.stop.toNat, permitted := z.permitted.setWidth 7
              guard := z.guard.toNat, gap := z.gap.toNat }).replied e 5 .ok []))

/-- BEGIN by slot state (R27). -/
def Obligations.BeginBySlotState : Prop :=
  ∀ (e : Envelope) (hd : HeaderFields) (s : State), s.hears e →
    let u := s.taken
    let ranged := 1 ≤ hd.segCount.toNat ∧ hd.segCount.toNat ≤ 12 ∧ 1 ≤ hd.target.toNat ∧
      hd.target.toNat ≤ 30000 ∧ hd.underTol.toNat ≤ 2000 ∧ hd.overTol.toNat ≤ 2000 ∧ hd.ratio.toNat ≤ 500 ∧
      hd.ratioTol.toNat ≤ 100
    (∀ b : Byte, 8 ≤ b.toNat → exec (.beginSlot e b hd) s = .next (u.replied e 6 .badRow [])) ∧
    ∀ j : SlotId,
      let t := u.slot j
      let run := exec (.beginSlot e (BitVec.ofNat 8 j.val) hd) s
      let open_ := t.state = .free ∨ t.state = .loading ∨ t.state = .verifying ∨
        ((t.state = .ready ∨ t.state = .corrupt) ∧ t.users = 0)
      (¬ranged → run = .next (u.replied e 6 .badValue [])) ∧
      (ranged → ¬open_ → run = .next (u.replied e 6 .refusedState [])) ∧
      (ranged → open_ →
        ∃ w : State, run = .next (w.replied e 6 .ok (nat8 j ++ nat8 ((t.gen + 1) % 256))) ∧
          w.slot j =
            { t with
              state := .loading, gen := (t.gen + 1) % 256, profile := some hd.profileId.toNat
              segCount := some hd.segCount.toNat, crc := none, headerClean := true
              header :=
                { target := hd.target.toNat, underTol := hd.underTol.toNat, overTol := hd.overTol.toNat
                  ratio := hd.ratio.toNat, ratioTol := hd.ratioTol.toNat }
              cells := t.cells.map fun c => { c with written := false } } ∧
          (∀ i, i ≠ j → w.slot i = u.slot i) ∧
          w.store.verifier = (if u.store.verifier = some j then none else u.store.verifier) ∧
          { w with store := u.store } = u)

/-- SEGMENT, checked in order, with the ranges of the record for its kind and end condition, and written with its mark and
fresh parity (R28; the ranges of R25). -/
def Obligations.SegmentWritesRecord : Prop :=
  ∀ (e : Envelope) (f : SegmentFields) (s : State), s.hears e →
    let u := s.taken
    let ap := f.aperture.toNat
    let st := f.step.toNat
    let gap := f.interval.toNat
    let par := f.param.toNat
    let ranged := fun (kind : SegKind) (ending : EndCond) =>
      f.kind.toNat = kind.code ∧ f.ending.toNat = ending.code ∧
      (kind = .fill ∨ kind = .trim → 1 ≤ ap ∧ ap ≤ 15 ∧ 1 ≤ st ∧ st ≤ 15 ∧ 1 ≤ gap) ∧
      (kind ≠ .fill → kind ≠ .trim → ap = 0 ∧ st = 0 ∧ gap = 0) ∧
      (kind = .syrup → ending = .volume ∧ par = 0) ∧
      (kind ≠ .syrup → kind ≠ .fill → kind ≠ .trim → ending ≠ .volume) ∧
      (kind ≠ .syrup → ending = .volume → 1 ≤ par ∧ par ≤ 1000) ∧
      (ending = .probe → par = 0) ∧ (ending = .pressureEq → 1 ≤ par ∧ par ≤ 100) ∧
      (ending = .pressureLow → par ≤ 1000) ∧ (ending = .angle → 1 ≤ par) ∧
      f.dwell.toNat ≤ 1023 ∧ 1 ≤ f.deadline.toNat
    (∀ b k : Byte, 8 ≤ b.toNat → exec (.segment e b k f) s = .next (u.replied e 7 .badRow [])) ∧
    ∀ (j : SlotId) (k : Byte),
      let t := u.slot j
      let n := t.segCount.getD 0
      let run := exec (.segment e (BitVec.ofNat 8 j.val) k f) s
      (t.state = .verifying → run = .next (u.replied e 7 .busy [])) ∧
      (t.state ≠ .verifying → t.state ≠ .loading → run = .next (u.replied e 7 .refusedState [])) ∧
      (t.state = .loading → 12 ≤ k.toNat ∨ n ≤ k.toNat → run = .next (u.replied e 7 .badRow [])) ∧
      (∀ i : Fin 12, t.state = .loading → k.toNat = i.val → i.val < n → (¬∃ kind ending, ranged kind ending) →
        run = .next (u.replied e 7 .badValue [])) ∧
      ∀ (i : Fin 12) (kind : SegKind) (ending : EndCond), t.state = .loading → k.toNat = i.val → i.val < n →
        ranged kind ending →
        let r : SegRecord :=
          { kind := kind, aperture := ap, step := st, interval := gap, ending := ending, param := par
            dwell := f.dwell.toNat, deadline := f.deadline.toNat }
        run =
          .next ((u.setSlot j { t with cells := t.cells.set i { record := r, written := true, clean := true } }).replied
            e 7 .ok [])

/-- COMMIT, checked in order; accepted, the CRC is stored, the slot is VERIFYING and the verifier takes it (R29). -/
def Obligations.CommitStartsVerifier : Prop :=
  ∀ (e : Envelope) (crc : Word) (s : State), s.hears e →
    let u := s.taken
    (∀ b : Byte, 8 ≤ b.toNat → exec (.commit e b crc) s = .next (u.replied e 8 .badRow [])) ∧
    ∀ j : SlotId,
      let t := u.slot j
      let run := exec (.commit e (BitVec.ofNat 8 j.val) crc) s
      (u.store.verifier ≠ none → run = .next (u.replied e 8 .busy [])) ∧
      (u.store.verifier = none → t.state ≠ .loading → run = .next (u.replied e 8 .refusedState [])) ∧
      (u.store.verifier = none → t.state = .loading →
        run =
          .next (({ u with
            store :=
              { slots := u.store.slots.set j { t with state := .verifying, crc := some crc }
                verifier := some j } } : State).replied e 8 .accepted (nat8 j ++ nat8 t.gen)))

/-- SELECT and DROP by slot state, in a store with at most one ACTIVE slot (R33, R34; what a freed slot's header and
segment records read as is notes/assumptions/19.md). -/
def Obligations.SelectAndDropBySlotState : Prop :=
  ∀ (e : Envelope) (s : State), s.hears e → s.OneActive →
    let u := s.taken
    (∀ b : Byte, 8 ≤ b.toNat → exec (.select e b) s = .next (u.replied e 9 .badRow []) ∧
      exec (.drop e b) s = .next (u.replied e 10 .badRow [])) ∧
    ∀ j : SlotId,
      let t := u.slot j
      let freed := { Slot.freed t.gen with state := .free }
      let select := exec (.select e (BitVec.ofNat 8 j.val)) s
      let drop := exec (.drop e (BitVec.ofNat 8 j.val)) s
      (t.state = .ready → (∀ i, (u.slot i).state ≠ .active) →
        select = .next ((u.setSlot j { t with state := .active }).replied e 9 .ok [])) ∧
      (∀ i, t.state = .ready → (u.slot i).state = .active →
        select =
          .next (((u.setSlot i { u.slot i with state := .ready }).setSlot j { t with state := .active }).replied e 9
            .ok [])) ∧
      (t.state = .active → select = .next (u.replied e 9 .ok [])) ∧
      (t.state ≠ .ready → t.state ≠ .active → select = .next (u.replied e 9 .refusedState [])) ∧
      (t.state = .ready ∨ t.state = .active → t.users = 0 →
        drop = .next ((u.setSlot j freed).replied e 10 .ok [])) ∧
      (t.state = .ready ∨ t.state = .active → t.users ≠ 0 →
        drop = .next ((u.setSlot j { t with state := .retiring }).replied e 10 .ok [])) ∧
      (t.state = .loading → drop = .next ((u.setSlot j freed).replied e 10 .ok [])) ∧
      (t.state = .verifying → u.store.verifier = some j →
        drop =
          .next (({ u with
            store := { slots := u.store.slots.set j freed, verifier := none } } : State).replied e 10 .ok [])) ∧
      (t.state = .free ∨ t.state = .retiring ∨ t.state = .corrupt →
        drop = .next (u.replied e 10 .refusedState []))

/-- The five checks of a verification, in their order, each with its index: MISSING at the lowest unwritten index,
CRC_MISMATCH, BAD_SEQUENCE at the lowest index at which a condition of a well-formed profile fails, NO_ZONE at the lowest
index whose kind is nowhere permitted, PARITY at the first segment in error or without an index for the header, and OK when
none fails (R31, with the byte sequence of the CRC of R180; that a second fraction of 1000 fails at its own index is
notes/assumptions/11.md, and that PARITY has no index when a segment is in error as well as the header is
notes/assumptions/36.md). The verifier's completion puts its slot in READY, LOADING or CORRUPT by the result, becomes idle
and queues a PROFILE report (R32); a completion while the verifier is idle, which no part has, or while the part is held in
reset does nothing (notes/assumptions/6.md). -/
def Obligations.VerificationOutcome : Prop :=
  (∀ (t : Slot) (z : ZoneMap) (n : Nat), t.segCount = some n → 1 ≤ n → n ≤ 12 →
    let cell := fun i : Fin 12 => t.cells[i]
    let record := fun i : Fin 12 => t.cells[i].record
    let fills := fun i : Fin 12 => (record i).kind = .fill ∨ (record i).kind = .trim
    let cuts := fun i : Fin 12 => fills i ∧ (record i).ending = .volume
    let lastFill := fun i : Fin 12 => fills i ∧ ∀ k : Fin 12, k.val < n → fills k → k ≤ i
    let last := fun i : Fin 12 => i.val + 1 = n
    let header := nat16 (t.profile.getD 0) ++ nat8 n ++ nat16 t.header.target ++ nat16 t.header.underTol ++
      nat16 t.header.overTol ++ nat16 t.header.ratio ++ nat8 t.header.ratioTol
    let crc := ringCrc (header ++ ((t.cells.toList.take n).map fun c => c.record.bytes).flatten)
    let illFormed := fun i : Fin 12 =>
      ((record i).kind = .syrup ∧ (t.header.ratio = 0 ∨ ∃ k : Fin 12, k < i ∧ (record k).kind = .syrup)) ∨
      (cuts i ∧ ∃ k : Fin 12, k < i ∧ cuts k ∧ (record i).param < (record k).param) ∨
      (last i ∧ ∀ k : Fin 12, k.val < n → ¬fills k) ∨
      (lastFill i ∧ ¬((record i).ending = .volume ∧ (record i).param = 1000)) ∨
      (cuts i ∧ (record i).param = 1000 ∧ ¬lastFill i) ∨
      (last i ∧ (record i).kind ≠ .snift) ∨
      (∃ k : Fin 12, k < i ∧ (record i).deadline < (record k).deadline) ∨
      z.dischargeAngle ≤ (record i).deadline
    let somewhere := fun i : Fin 12 => (record i).kind = .settle ∨
      ∃ j : Fin 8, z.rows[j].valid = true ∧ z.rows[j].permitted.getLsbD ((record i).kind.code - 1) = true
    let none_ := fun fails : Fin 12 → Prop => ∀ i : Fin 12, i.val < n → ¬fails i
    let first := fun (fails : Fin 12 → Prop) (i : Fin 12) => i.val < n ∧ fails i ∧ ∀ k : Fin 12, k < i → ¬fails k
    let unwritten := fun i => (cell i).written = false
    let nowhere := fun i => ¬somewhere i
    let inError := fun i => (cell i).clean = false
    let read := none_ unwritten ∧ t.crc = some crc
    (∀ i, first unwritten i → t.verify z = (.missing, some i.val)) ∧
    (none_ unwritten → t.crc ≠ some crc → t.verify z = (.crcMismatch, none)) ∧
    (∀ i, read → first illFormed i → t.verify z = (.badSequence, some i.val)) ∧
    (∀ i, read → none_ illFormed → first nowhere i → t.verify z = (.noZone, some i.val)) ∧
    (read → none_ illFormed → none_ nowhere → t.headerClean = false → t.verify z = (.parity, none)) ∧
    (∀ i, read → none_ illFormed → none_ nowhere → t.headerClean = true → first inError i →
      t.verify z = (.parity, some i.val)) ∧
    (read → none_ illFormed → none_ nowhere → t.headerClean = true → none_ inError → t.verify z = (.ok, none))) ∧
  (∀ (s : State) (j : SlotId), s.held = false → s.store.verifier = some j →
    let t := s.slot j
    let r := t.verify s.zones
    let after : Slot :=
      match r.1 with
      | .ok => { t with state := .ready }
      | .parity => { t with state := .corrupt }
      | _ => { t with state := .loading, crc := none }
    exec .verificationComplete s =
      .next (({ s with store := { slots := s.store.slots.set j after, verifier := none } } : State).report
        (.profile { slot := j, gen := t.gen, profile := t.profile.getD 0, result := r.1, index := r.2 }))) ∧
  ∀ s : State, s.held = true ∨ s.store.verifier = none → exec .verificationComplete s = .next s

/-! ## Requests that act on a head -/

/-- ENROLL of an OFF head and CALIBRATE of an OFF or IDLE head, and their refusals; the bus serves the new head's rest
pattern (R71, R76; the ranges of R43). -/
def Obligations.EnrollAndCalibrate : Prop :=
  ∀ (e : Envelope) (o : Half) (f : CalibFields) (s : State), s.hears e →
    let u := s.taken
    let k : Calib :=
      { liquidK := f.liquidK.toNat, liquidTrim := f.liquidTrim.toInt, syrupK := f.syrupK.toNat
        syrupTrim := f.syrupTrim.toInt, overrun := f.overrun.toNat }
    let ranged := 500 ≤ k.liquidK ∧ k.liquidK ≤ 20000 ∧ -500 ≤ k.liquidTrim ∧ k.liquidTrim ≤ 500 ∧
      500 ≤ k.syrupK ∧ k.syrupK ≤ 20000 ∧ -500 ≤ k.syrupTrim ∧ k.syrupTrim ≤ 500 ∧ k.overrun ≤ 500
    (∀ b : Byte, u.management.headCount ≤ b.toNat → exec (.enroll e b o f) s = .next (u.replied e 11 .badRow []) ∧
      exec (.calibrate e b f) s = .next (u.replied e 12 .badRow [])) ∧
    ∀ h : HeadId, h.val < u.management.headCount →
      let c := u.head h
      let enroll := exec (.enroll e (BitVec.ofNat 8 h.val) o f) s
      let calibrate := exec (.calibrate e (BitVec.ofNat 8 h.val) f) s
      (c.state ≠ .off → enroll = .next (u.replied e 11 .refusedState [])) ∧
      (c.state = .off → ¬(o.toNat < u.tracker.cpr ∧ ranged) →
        enroll = .next (u.replied e 11 .badValue [])) ∧
      (c.state = .off → o.toNat < u.tracker.cpr → ranged → u.UrgentOnce →
        ∃ t : State, enroll = .next (t.replied e 11 .ok (nat8 (u.management.stationBase + h.val))) ∧
          (t.head h).state = .idle ∧ (t.head h).level = 0 ∧ (t.head h).offset = some o.toNat ∧
          (t.head h).calib = some k ∧ (t.head h).overrun = k.overrun ∧ (t.head h).valves = .rest ∧
          (t.head h).arm = none ∧ (t.head h).cycle = 0 ∧ (t.head h).pin = none ∧ (t.head h).record = none ∧
          (t.head h).hold = false ∧ (t.head h).withdraw = false ∧ (t.head h).lastObs = none ∧
          (h ∈ t.scanner.urgent ∨ ∃ x, t.scanner.inFlight = some x ∧ x.head = h ∧ x.urgent = true) ∧
          (∀ g, g ≠ h → t.head g = u.head g) ∧ t.store = u.store ∧ t.faults = u.faults ∧ t.reports = u.reports ∧
          t.discharge = u.discharge ∧ t.tracker = u.tracker ∧ t.zones = u.zones) ∧
      (c.state ≠ .off → c.state ≠ .idle → calibrate = .next (u.replied e 12 .refusedState [])) ∧
      (c.state = .off ∨ c.state = .idle → ¬ranged → calibrate = .next (u.replied e 12 .badValue [])) ∧
      (c.state = .off ∨ c.state = .idle → ranged →
        calibrate = .next ((u.setHead h { c with calib := some k, overrun := k.overrun }).replied e 12 .ok []))

/-- WITHDRAW by head state, for a head with a clean context (R35, R37, R62, R72; a context in error is
notes/assumptions/9.md, and that a head in LOCKOUT is refused even with withdraw-pending set is
notes/assumptions/18.md). -/
def Obligations.WithdrawByState : Prop :=
  ∀ (e : Envelope) (s : State), s.hears e →
    let u := s.taken
    (∀ b : Byte, u.management.headCount ≤ b.toNat → exec (.withdraw e b) s = .next (u.replied e 13 .badRow [])) ∧
    ∀ h : HeadId, h.val < u.management.headCount →
      let c := u.head h
      let run := exec (.withdraw e (BitVec.ofNat 8 h.val)) s
      (c.state = .off ∨ c.state = .lockout → run = .next (u.replied e 13 .refusedState [])) ∧
      (c.state ≠ .off → c.state ≠ .lockout → c.withdraw = true → run = .next (u.replied e 13 .ok [])) ∧
      (c.state = .done ∨ c.state = .emptyPass ∨ c.state = .aborting ∨ c.state = .forced → c.withdraw = false →
        c.clean = true → run = .next ((u.setHead h { c with withdraw := true }).replied e 13 .ok [])) ∧
      (c.state = .idle → c.withdraw = false → c.clean = true →
        ∃ t : State, run = .next (t.replied e 13 .ok []) ∧ (t.head h).state = .off ∧ (t.head h).offset = c.offset ∧
          (t.head h).calib = c.calib ∧ (t.head h).cycle = 0 ∧ (t.head h).withdraw = false ∧ (t.head h).hold = false ∧
          (t.head h).lastObs = none ∧ h ∉ t.scanner.urgent ∧
          (∀ x, t.scanner.inFlight = some x → x.head = h → x.discard = true) ∧
          (∀ g, g ≠ h → t.head g = u.head g) ∧ t.store = u.store ∧ t.faults = u.faults ∧ t.reports = u.reports ∧
          t.discharge = u.discharge) ∧
      (∀ p, c.state = .seating → c.withdraw = false → c.clean = true → c.pin = some p → c.record = none →
        ∃ (t : State) (r : DoseRecord), run = .next (t.replied e 13 .ok []) ∧ (t.head h).state = .emptyPass ∧
          (t.head h).level = 0 ∧
          (t.head h).withdraw = true ∧ (t.head h).pin = none ∧ (t.head h).record = some r ∧ r.verdict = .skipped ∧
          r.skip = some .withdraw ∧ r.pin = some p ∧ (u.slot p.slot).GivesBack (t.slot p.slot) ∧
          (∀ g, g ≠ h → t.head g = u.head g) ∧ t.faults = u.faults ∧ t.reports = u.reports) ∧
      (∀ p, c.state = .running → c.withdraw = false → c.clean = true → c.pin = some p → c.record = none →
        ∃ (t : State) (r : DoseRecord), run = .next (t.replied e 13 .ok []) ∧ (t.head h).state = .aborting ∧
          (t.head h).level = 1 ∧
          (t.head h).withdraw = true ∧ (t.head h).pin = none ∧ (t.head h).valves = .venting ∧ (t.head h).arm = none ∧
          (t.head h).phase = none ∧ (t.head h).ventTimer = some u.sequencer.ventLimit ∧ (t.head h).record = some r ∧
          r.verdict = .aborted ∧ r.pin = some p ∧ r.fault = c.lastFault ∧ r.completed = c.segIndex ∧
          (u.slot p.slot).GivesBack (t.slot p.slot) ∧ t.faults = u.faults ∧ t.reports = u.reports)

/-- RELEASE: its checks, the hold flag cleared, and a head taken out of LOCKOUT to DONE, OFF or IDLE (R73; a context in
error is notes/assumptions/9.md). -/
def Obligations.ReleaseRows : Prop :=
  ∀ (e : Envelope) (s : State), s.hears e →
    let u := s.taken
    (∀ b : Byte, u.management.headCount ≤ b.toNat → exec (.release e b) s = .next (u.replied e 14 .badRow [])) ∧
    ∀ h : HeadId, h.val < u.management.headCount →
      let c := u.head h
      let run := exec (.release e (BitVec.ofNat 8 h.val)) s
      (u.faults.mode = .production → run = .next (u.replied e 14 .refusedMode [])) ∧
      (u.faults.mode ≠ .production → c.state ≠ .lockout → c.hold = false →
        run = .next (u.replied e 14 .refusedState [])) ∧
      (u.faults.mode ≠ .production → c.state ≠ .lockout → c.state ≠ .off → c.hold = true → c.clean = true →
        run = .next ((u.setHead h { c with hold := false }).replied e 14 .ok [])) ∧
      (u.faults.mode ≠ .production → c.state = .lockout → c.clean = true →
        ∃ t : State, run = .next (t.replied e 14 .ok []) ∧ (t.head h).hold = false ∧ (t.head h).level = 0 ∧
          (t.head h).valves = .rest ∧
          (c.record.isSome = true → (t.head h).state = .done ∧ (t.head h).record = c.record) ∧
          (c.record = none → c.withdraw = true → (t.head h).state = .off) ∧
          (c.record = none → c.withdraw = false → (t.head h).state = .idle))

/-- CLEAR_FAULT: the class's latch, barring and place in the stop-cause set are cleared unless its condition is
present, and a line that another party still holds low when the part ceases to drive marks the EXTERNAL condition
(R138, R140); POP_SNAPSHOT returns and removes the newest entry and clears the overflow flag of an empty stack
(R150; the bytes of a snapshot are notes/assumptions/14.md). -/
def Obligations.ClearFaultAndPopSnapshot : Prop :=
  ∀ (e : Envelope) (s : State), s.hears e →
    let u := s.taken
    (∀ b : Byte, 14 ≤ b.toNat → exec (.clearFault e b) s = .next (u.replied e 15 .badValue [])) ∧
    (∀ c : FaultClass,
      let run := exec (.clearFault e (BitVec.ofNat 8 c.code)) s
      let cleared := u.updRecord c fun r => { r with latched := false, bars := false, inStop := false }
      ((u.record c).condition = true → run = .next (u.replied e 15 .refusedState [])) ∧
      ((u.record c).condition = false → (u.record c).latched = false → run = .next (u.replied e 15 .ok [])) ∧
      ((u.record c).condition = false → (u.record c).latched = true →
        ((∀ k, (u.record k).inStop = false) ∨ (∃ k, k ≠ c ∧ (u.record k).inStop = true) ∨ u.lineHeld = false) →
        run = .next (cleared.replied e 15 .ok [])) ∧
      ((u.record c).condition = false → (u.record c).latched = true → (u.record c).inStop = true →
        (∀ k, k ≠ c → (u.record k).inStop = false) → u.lineHeld = true →
        run =
          .next ((cleared.updRecord .external fun r => { r with condition := true }).replied e 15 .ok []))) ∧
    (∀ (x : Snapshot) (rest : List Snapshot), u.faults.snapshots = x :: rest →
      exec (.popSnapshot e) s =
        .next (({ u with
          faults := { u.faults with
            snapshots := rest, overflow := if rest = [] then false else u.faults.overflow } } : State).replied e 16 .ok
          (flag8 u.faults.overflow ++ x.bytes))) ∧
    (u.faults.snapshots = [] →
      exec (.popSnapshot e) s =
        .next (({ u with faults := { u.faults with overflow := false } } : State).replied e 16 .empty
          (flag8 u.faults.overflow)))

/-! ## Resets and the stop line -/

/-- RESET_PART is answered OK and holds the part, with its reject output inactive; at its beginning the reset puts every
piece of state that the manual gives a reset value at that value, so that the verification, the exchange in flight, the
pulse and the queued reports are abandoned, with no report queued, the address and the reset cause record as they were, and
the line driven; its end reads the straps, sets the reset cause record and queues the RESET FAULT report (R30, R95, R116,
R139, R161, R177, R178, R179). The straps are an operand by notes/assumptions/2.md; that the reset values stand from the
beginning on is notes/assumptions/22.md; that the line is driven before the beginning by the stop-cause set alone is
notes/assumptions/29.md; a begin or an end that is not due does nothing by notes/assumptions/6.md. -/
def Obligations.ResetPartSequence : Prop :=
  (∀ (e : Envelope) (s : State), s.hears e →
    ∃ t : State, exec (.resetPart e) s = .next (t.replied e 17 .ok []) ∧ t.held = true ∧ t.rejectOutput = false ∧
      (t.drives = true ↔ ∃ c, (s.record c).inStop = true) ∧
      t = { s.taken with resets := { s.resets with ringPending := true } }) ∧
  (∀ s : State, s.resets.ringPending = true →
    ∃ t : State, exec .resetPartResetBegin s = .next t ∧ t.inReset = true ∧ t.drives = true ∧ t.HoldsResetValues .ring ∧
      t.reports.queue = [] ∧ t.ringOut = s.ringOut ∧ t.management.address = s.management.address ∧
      t.management.resetCause = s.management.resetCause) ∧
  (∀ s : State, s.resets.ringPending = false → exec .resetPartResetBegin s = .next s) ∧
  ∀ (s : State) (straps : BitVec 4),
    (s.resets.ringActive = true → s.resets.powerOn = false → s.resets.pin = false →
      ∃ t : State, exec (.resetPartResetEnd straps) s = .next t ∧ t.JustReset .ring ∧ t.management.address = straps.toNat ∧
        t.inReset = false ∧ t.ringOut = s.ringOut) ∧
    (s.resets.ringActive = true → s.resets.powerOn = true ∨ s.resets.pin = true →
      exec (.resetPartResetEnd straps) s = .next { s with resets := { s.resets with ringActive := false } }) ∧
    (s.resets.ringActive = false → exec (.resetPartResetEnd straps) s = .next s)

/-- Power-on and pin resets: from the beginning the part is held with every piece of state that the manual gives a reset
value at that value, no report queued, the address and the reset cause record as they were, and the line driven; the reset
is extended while another condition stands, and ends with the cause of the condition that ended last, the straps read and
the RESET FAULT report queued; the frame being sent on is cut short, but none while the part is held already, as it is from
the REPLY to a RESET_PART on (R139, R161, R177, R179). The straps are an operand by notes/assumptions/2.md and the length of
a cut frame by notes/assumptions/7.md; that the reset values stand from the beginning on is notes/assumptions/22.md, and
that a RESET_PART answered before is kept is notes/assumptions/23.md. -/
def Obligations.PowerAndPinResets : Prop :=
  (∀ (s : State) (cut : Option Nat), s.inReset = false →
    let cutRight := fun t : State =>
      (s.held = true ∨ cut = none → t.ringOut = s.ringOut) ∧
      ∀ n before f, s.held = false → cut = some n → s.ringOut = before ++ [f] → t.ringOut = before ++ [f.take n]
    let kept := fun t : State =>
      t.management.address = s.management.address ∧ t.management.resetCause = s.management.resetCause
    (∃ t : State, exec (.supplyLeavesRange cut) s = .next t ∧ t.inReset = true ∧ t.drives = true ∧
      t.HoldsResetValues .power ∧ t.reports.queue = [] ∧ kept t ∧
      t.resets = { s.resets with powerOn := true, supplyOut := true } ∧ t.rejectOutput = false ∧ cutRight t) ∧
    ∃ t : State, exec (.resetPinAssert cut) s = .next t ∧ t.inReset = true ∧ t.drives = true ∧
      t.HoldsResetValues .pin ∧ t.reports.queue = [] ∧ kept t ∧
      t.resets = { s.resets with pin := true } ∧ t.rejectOutput = false ∧ cutRight t) ∧
  (∀ (s : State) (cut : Option Nat), s.inReset = true →
    exec (.supplyLeavesRange cut) s = .next { s with resets := { s.resets with powerOn := true, supplyOut := true } } ∧
    exec (.resetPinAssert cut) s = .next { s with resets := { s.resets with pin := true } }) ∧
  (∀ s : State, exec .supplyReentersRange s = .next { s with resets := { s.resets with supplyOut := false } }) ∧
  ∀ (s : State) (straps : BitVec 4),
    (s.resets.powerOn = true → s.resets.supplyOut = false → s.resets.pin = false → s.resets.ringActive = false →
      ∃ t : State, exec (.powerOnResetEnd straps) s = .next t ∧ t.JustReset .power ∧ t.management.address = straps.toNat ∧
        t.inReset = false) ∧
    (s.resets.powerOn = true → s.resets.supplyOut = false → s.resets.pin = true ∨ s.resets.ringActive = true →
      exec (.powerOnResetEnd straps) s = .next { s with resets := { s.resets with powerOn := false } }) ∧
    (s.resets.pin = true → s.resets.powerOn = false → s.resets.ringActive = false →
      ∃ t : State, exec (.resetPinRelease straps) s = .next t ∧ t.JustReset .pin ∧ t.management.address = straps.toNat ∧
        t.inReset = false) ∧
    (s.resets.pin = true → s.resets.powerOn = true ∨ s.resets.ringActive = true →
      exec (.resetPinRelease straps) s = .next { s with resets := { s.resets with pin := false } })

/-- The stop line: a fall that the part senses marks EXTERNAL and raises it, and with the action STOP puts the part in
SAFE without joining the stop-cause set; a rise removes the condition; a part that drives the line, or is held in
reset, senses neither (R140, R141; the level another party holds is a field by notes/assumptions/3.md). -/
def Obligations.StopLineSensed : Prop :=
  ∀ s : State,
    let low : State := { s with lineHeld := true }
    let high : State := { s with lineHeld := false }
    (s.drives = true ∨ s.held = true ∨ s.lineHeld = true → exec .stopLineFall s = .next low) ∧
    (s.drives = false → s.held = false → s.lineHeld = false →
      exec .stopLineFall s =
        .next ((low.updRecord .external fun r => { r with condition := true }).raisePart .lineLow none none) ∧
      ((s.record .external).action = .stop → (∀ h, (s.head h).clean = true) →
        ∃ t : State, exec .stopLineFall s = .next t ∧ t.faults.mode = .safe ∧ t.drives = false ∧
          (t.record .external).condition = true ∧ (t.record .external).latched = true)) ∧
    (s.drives = true ∨ s.held = true → exec .stopLineRise s = .next high) ∧
    (s.drives = false → s.held = false →
      exec .stopLineRise s = .next (high.updRecord .external fun r => { r with condition := false }))

/-! ## Timers and the valve bus -/

/-- The gap timer takes LOCKED to HOLDOVER and empties an acquire run; the holdover timer takes the tracker to LOST with
the TIMEBASE condition marked and TIMEBASE LOST latched and, with clean contexts, queues its FAULT report with the condition
present, the MODE report of an entry to SAFE, and, where the edge is LOSS or BOTH, the TRACK report LOSS with the state LOST
and the frozen position (R9, R11, R12, R134); an expiry in a part held in reset is not taken (R178), and that of a timer that is
stopped, which no part has, has no effect (notes/assumptions/6.md). -/
def Obligations.TimebaseTimers : Prop :=
  ∀ s : State,
    (s.held = false → s.tracker.gapTimer ≠ none → s.tracker.state = .locked →
      exec .gapTimerExpiry s =
        .next { s with
          tracker := { s.tracker with
            state := .holdover, gapTimer := none, holdoverTimer := some s.tracker.holdoverLimit
            jumpPending := false } }) ∧
    (s.held = false → s.tracker.gapTimer ≠ none → s.tracker.state = .acquiring →
      exec .gapTimerExpiry s =
        .next { s with
          tracker := { s.tracker with
            ref := none, run := 0, jumpPending := false, gapTimer := none, holdoverTimer := none } }) ∧
    (s.held = true ∨ s.tracker.gapTimer = none → exec .gapTimerExpiry s = .next s) ∧
    (s.held = false → s.tracker.holdoverTimer ≠ none →
      ∃ t : State, exec .holdoverTimerExpiry s = .next t ∧
        t.tracker = { s.tracker with state := .lost, holdoverTimer := none } ∧
        (t.record .timebase).condition = true ∧ (t.record .timebase).latched = true ∧
        (t.record .timebase).lastCause = some .timebaseLost ∧
        ((s.record .timebase).action = .stop → t.faults.mode = .safe ∧ (t.record .timebase).inStop = true) ∧
        ((∀ h, (s.head h).clean = true) →
          let act := (s.record .timebase).action
          let told := s.reports.create
            (.fault { cause := .timebaseLost, station := none, slot := none, action := act, condition := true })
          let moded := if act = .stop ∧ s.faults.mode ≠ .safe then
              told.create (.mode s.faults.mode .safe (some .timebase)) else told
          (s.tracker.edge = .loss ∨ s.tracker.edge = .both →
            t.reports = moded.create (.track .loss .lost s.tracker.pos)) ∧
          (s.tracker.edge = .none ∨ s.tracker.edge = .gain → t.reports = moded))) ∧
    (s.held = true ∨ s.tracker.holdoverTimer = none → exec .holdoverTimerExpiry s = .next s)

/-- The vent timer escalates an ABORTING head to FORCED whatever the action of VALVE, the pulse timer ends the reject
pulse, and the watchdog's timer marks the HEARTBEAT condition and raises HEARTBEAT LATE (R63, R68, R123, R147, R148); the
expiry of a stopped vent timer or watchdog timer, which no part has, has no effect (notes/assumptions/6.md). An entry to
FORCED is remembered until the next COMMAND is sent (R107; notes/assumptions/17.md). -/
def Obligations.VentPulseHeartbeatTimers : Prop :=
  ∀ s : State, s.held = false →
    (∀ h : HeadId, (s.head h).ventTimer ≠ none → (s.head h).state = .aborting → (s.head h).clean = true →
      ∃ t : State, exec (.ventTimerExpiry h) s = .next t ∧ (t.head h).state = .forced ∧ (t.head h).level = 2 ∧
        (t.head h).valves = .venting ∧ (t.head h).arm = none ∧ (t.head h).ventTimer = none ∧
        (t.head h).record = (s.head h).record ∧ (t.record .valve).latched = true ∧
        (s.scanner.inFlight ≠ none → (t.head h).scan.forcedUnsent = true) ∧
        (t.record .valve).lastCause = some .ventTimeout ∧
        (t.record .valve).lastStation = some (s.management.stationBase + h.val)) ∧
    (∀ h : HeadId, (s.head h).ventTimer = none → exec (.ventTimerExpiry h) s = .next s) ∧
    exec .pulseTimerExpiry s = .next { s with discharge := { s.discharge with pulse := none } } ∧
    (s.faults.watchdog.timer ≠ none → s.faults.watchdog.state = .watching →
      exec .heartbeatTimerExpiry s =
        .next ((({ s with
            faults := { s.faults with
              watchdog := { s.faults.watchdog with state := .waiting, timer := none } } } : State).updRecord .heartbeat
          fun r => { r with condition := true }).raisePart .heartbeatLate none none)) ∧
    (s.faults.watchdog.timer = none → exec .heartbeatTimerExpiry s = .next s)

/-- The outcomes of an exchange: a frame received with none in flight is discarded, that is, with the bus idle or before the
COMMAND in flight was sent, as one received together with the expiry before and taken after it is (which of the two is an
operand of STATUS by notes/assumptions/35.md); every other frame, a late one among them, and the expiry of the reply timer
end the exchange in flight; a discarded exchange touches nothing but the bus; a miss below the miss limit, by a bad or
foreign frame or by the reply timer, raises the head's miss count by one, at the limit it raises COMM MISSES; after each the
scanner makes its next choice: the oldest urgent entry, else the first enrolled head after the scan position, wrapping, else
nothing. A send carries the head's command with the next sequence, keeps it in the in-flight record with the ramp-complete
note, makes its valves the last sent ones, and starts a confirmation where they differ, where none were sent, and at the first
COMMAND since the entry to FORCED, but never in LOCKOUT (R95, R97, R99, R102, R103, R105, R107, R109; that the scanner keeps
whether one has been sent since that entry is notes/assumptions/17.md; the expiry of a reply timer that is stopped, which no part has, has no effect by
notes/assumptions/6.md). -/
def Obligations.ExchangeOutcomes : Prop :=
  (∀ s : State,
    (∀ (h : HeadId) (rest : List HeadId), s.scanner.urgent = h :: rest →
      ∃ x, s.chooseNext.scanner = { s.scanner with urgent := rest, inFlight := some x } ∧
        s.SendsTo s.chooseNext h true x) ∧
    (s.scanner.urgent = [] → (∀ h, (s.head h).state = .off) → s.chooseNext = s) ∧
    (s.scanner.urgent = [] → (∃ h, (s.head h).state ≠ .off) →
      ∃ h x, (s.head h).state ≠ .off ∧
        s.chooseNext.scanner = { s.scanner with scanPos := some h, inFlight := some x } ∧
        s.SendsTo s.chooseNext h false x ∧
        ∀ g, (s.head g).state ≠ .off →
          (s.scanner.scanPos = none → h ≤ g) ∧
          ∀ p, s.scanner.scanPos = some p → (h.val + 47 - p.val) % 48 ≤ (g.val + 47 - p.val) % 48)) ∧
  ∀ s : State, s.held = false →
    let idle := fun t : State => ({ t with scanner := { t.scanner with inFlight := none } } : State)
    (∀ f, exec (.status ⟨f, true⟩) s = .next s) ∧
    (s.scanner.inFlight = none →
      (∀ f, exec (.status f) s = .next s) ∧ exec .replyTimerExpiry s = .next s) ∧
    ∀ x, s.scanner.inFlight = some x →
      let c := s.head x.head
      let foreign := fun f : Frame =>
        statusOk f = false ∨ byteAt f 0 ≠ BitVec.ofNat 8 x.head.val ∨ (byteAt f 1).toNat ≠ x.seq
      let missed := s.setHead x.head { c with scan := { c.scan with miss := c.scan.miss + 1 } }
      let silent := (s.setHead x.head { c with scan := { c.scan with miss := 0 } }).raiseHead x.head .commMisses
      (x.discard = true →
        (∀ f, exec (.status ⟨f, false⟩) s = .next (idle s).chooseNext) ∧
        exec .replyTimerExpiry s = .next (idle s).chooseNext) ∧
      (x.discard = false → c.state ≠ .off → c.state ≠ .lockout → c.scan.miss + 1 < s.scanner.missLimit →
        (∀ f, foreign f → exec (.status ⟨f, false⟩) s = .next (idle missed).chooseNext) ∧
        exec .replyTimerExpiry s = .next (idle missed).chooseNext) ∧
      (x.discard = false → c.state ≠ .off → c.state ≠ .lockout → s.scanner.missLimit ≤ c.scan.miss + 1 →
        (∀ f, foreign f → exec (.status ⟨f, false⟩) s = .next (idle silent).chooseNext) ∧
        exec .replyTimerExpiry s = .next (idle silent).chooseNext) ∧
      (x.discard = false → c.state = .lockout →
        (∀ f, foreign f → exec (.status ⟨f, false⟩) s = .next (idle s).chooseNext) ∧
        exec .replyTimerExpiry s = .next (idle s).chooseNext)

/-- What a good STATUS does by the head's state, when it raises nothing (R14, R35, R48, R53, R56, R57, R60, R63 to R65,
R80 to R83, R90, R104, R109; one that raises is StatusIsTakenInOrder): the miss count becomes 0, the observation replaces
the last one, the admitted increments go to the leak sum where the head should be dry and to the cycle totals of a RUNNING
head and of a pending record, whose volumes follow, and the next exchange is chosen. A SEATING head that sees its bottle
captures the bases and is RUNNING; a RUNNING head whose segment ends goes on to the next segment or, after the last, judges
the bottle, learns, and is DONE; an ABORTING or FORCED head whose STATUS completes its safe close goes to DONE, OFF or
IDLE; a head in DONE, EMPTY_PASS or LOCKOUT only meters it. -/
def Obligations.GoodStatusByHeadState : Prop :=
  ∀ (s : State) (x : InFlight) (f : Frame) (p : Obs), s.QuietStatus x f p →
    let h := x.head
    let c := s.head h
    let o := (statusAt f).obs
    let liquid := (o.liquid + 65536 - p.liquid) % 65536
    let syrup := (o.syrup + 65536 - p.syrup) % 65536
    let lt := min 262143 (c.liquidTotal + liquid)
    let st := min 262143 (c.syrupTotal + syrup)
    let leaked := { c.meter with leakSum := min 65535 (c.meter.leakSum + (liquid + syrup)) }
    let heard : Head := { c with lastObs := some o, scan := { c.scan with miss := 0, nodeFault := false } }
    let run := exec (.status ⟨f, false⟩) s
    let left := fun d : Head => Host.Outcome.next (φ := Fault) (ρ := Refusal)
      (({ s.setHead h d with scanner := { s.scanner with inFlight := none } } : State).chooseNext)
    (c.state = .idle ∨ (c.state = .seating ∧ o.seated = false) → c.record = none → c.bases = none →
      run = left { heard with meter := leaked }) ∧
    (∀ (q : Pin) (i : Fin 12), c.state = .seating → o.seated = true → c.record = none → c.bases = none →
      c.pin = some q → c.segIndex = i.val → (s.slot q.slot).state ≠ .corrupt → (s.slot q.slot).headerClean = true →
      (s.slot q.slot).cells[i].clean = true →
      let bases : Bases := { liquid := o.liquid, syrup := o.syrup }
      let first := (s.slot q.slot).cells[i].record
      let starts := fun θ => s.cycleAngle h = some θ ∧ s.mayStart { c with bases := some bases } first.kind θ = true
      ∃ t : State, run = .next t ∧ s.OnlyHead t h ∧ t.store = s.store ∧
        let d := t.head h
        d.state = .running ∧ d.level = 0 ∧ d.bases = some bases ∧ d.lastObs = some o ∧ d.pin = c.pin ∧
        d.segIndex = c.segIndex ∧ d.liquidTotal = c.liquidTotal ∧ d.syrupTotal = c.syrupTotal ∧ d.record = none ∧
        (∀ θ, starts θ →
          d.phase = some .active ∧ d.startAngle = some θ ∧ d.work = some { header := (s.slot q.slot).header, record := first }) ∧
        ((∀ θ, ¬starts θ) → d.phase = some .pending ∧ d.startAngle = none ∧ d.valves = c.valves ∧ d.arm = c.arm)) ∧
    (∀ (w : Work) (θ a : Nat), c.state = .running → c.phase = some .active → c.work = some w →
      c.startAngle = some a → s.cycleAngle h = some θ → c.bases ≠ none → c.record = none →
      let counted : Head :=
        { heard with
          liquidTotal := lt, syrupTotal := st, meter := if c.meter.productStarted then c.meter else leaked }
      let final := (w.record.kind = .fill ∨ w.record.kind = .trim) ∧ w.record.ending = .volume ∧ w.record.param = 1000
      let finished : Head :=
        { counted with meter := { counted.meter with finalDone := counted.meter.finalDone || decide final } }
      (¬s.EndsSegment c w θ a o x.arm → run = left counted) ∧
      (s.EndsSegment c w θ a o x.arm →
        ∃ t : State, run = .next t ∧ (s.setHead h (finished.ended w θ)).GoesOn t h w.header θ)) ∧
    (c.state = .done ∨ c.state = .emptyPass ∨ c.state = .aborting ∨ c.state = .forced ∨ c.state = .lockout →
      let adds := c.bases ≠ none ∧ c.record ≠ none
      let counted : Head :=
        { heard with
          liquidTotal := if adds then lt else c.liquidTotal
          syrupTotal := if adds then st else c.syrupTotal
          meter := if c.state = .done ∨ c.state = .emptyPass then leaked else c.meter }
      let settled : Head :=
        { counted with
          record := c.record.map fun r => { r with liquid := counted.liquidVolume, syrup := counted.syrupVolume } }
      (¬s.CompletesClose c o x.predates → run = left settled) ∧
      (s.CompletesClose c o x.predates →
        ∃ t : State, run = .next t ∧ s.OnlyHead t h ∧ t.store = s.store ∧
          let d := t.head h
          (c.record ≠ none →
            t.Posted h ∧
            { d with scan := settled.scan } =
              { settled with state := .done, level := 0, valves := .rest, ventTimer := none }) ∧
          (c.record = none → c.withdraw = true →
            d.state = .off ∧ d.offset = c.offset ∧ d.calib = c.calib ∧ d.withdraw = false ∧ h ∉ t.scanner.urgent) ∧
          (c.record = none → c.withdraw = false →
            t.Posted h ∧
            { d with scan := settled.scan } =
              { settled with state := .idle, level := 0, valves := .rest, ventTimer := none })))

/-- How a good STATUS is taken, whatever it raises, in the order of R104 and R80: the miss count becomes 0; while a
confirmation is awaited, and outside LOCKOUT, the valves are compared with those of the COMMAND, adjusted for a cut, and the
last difference of the window raises VALVE MISMATCH; the node-fault flag is kept and raises COMM NODE where it was not seen
before; then, in one event of the head, the increments above the step limit raise METER JUMP and are left out, the admitted
ones go to the totals and to the leak sum, whose crossing of the limit raises METER LEAK once, and only then does the head
take the STATUS by the state it is now in, with its pending record's volumes recomputed (R60, R80 to R83, R93, R104, R106 to
R109; that an addition of 0 counts is notes/assumptions/21.md, the order of JUMP and LEAK notes/assumptions/4.md, and that the
context is checked when the STATUS is handed on notes/assumptions/12.md). A change of a head's state marks its exchange in
flight (R95). -/
def Obligations.StatusIsTakenInOrder : Prop :=
  (∀ (s : State) (x : InFlight) (f : Frame), s.held = false → s.scanner.inFlight = some x → x.discard = false →
    x.answeredBy f = true → (s.head x.head).state ≠ .off →
    let h := x.head
    let c := s.head h
    let o := (statusAt f).obs
    let node := (statusAt f).nodeFault
    let sent : Valves :=
      match x.arm with
      | some a => if o.cut then (if a.meter = .liquid then { x.valves with l := 0 } else { x.valves with s := false })
        else x.valves
      | none => x.valves
    let matched := o.valves.g = sent.g ∧ o.valves.s = sent.s ∧ o.valves.v = sent.v ∧
      (if x.rampDone then o.valves.l = sent.l else (o.valves.l = 0 ↔ sent.l = 0))
    let heard := fun n : Option Nat => s.setHead h { c with scan := { c.scan with miss := 0, confirm := n } }
    ∃ u : State,
      (c.scan.confirm = none ∨ c.state = .lockout → u = heard c.scan.confirm) ∧
      (∀ n, c.scan.confirm = some n → c.state ≠ .lockout → matched → u = heard none) ∧
      (∀ n, c.scan.confirm = some n → c.state ≠ .lockout → ¬matched → 1 < n → u = heard (some (n - 1))) ∧
      (∀ n, c.scan.confirm = some n → c.state ≠ .lockout → ¬matched → n ≤ 1 →
        u = (heard none).raiseHead h .valveMismatch) ∧
      let seen := u.setHead h { u.head h with scan := { (u.head h).scan with nodeFault := node } }
      let told := if node = true ∧ (u.head h).scan.nodeFault = false then seen.raiseHead h .commNode else seen
      let t := told.headEvent h fun v => v.meterStatus h o x.arm
      exec (.status ⟨f, false⟩) s = .next (({ t with scanner := { t.scanner with inFlight := none } } : State).chooseNext)) ∧
  (∀ (s : State) (h : HeadId) (o : Obs) (arm : Option Arm),
    let c := s.head h
    let hand := fun u : State =>
      let v := u.handStatus h o arm
      v.setHead h
        { v.head h with
          record := (v.head h).record.map fun r =>
            { r with liquid := (v.head h).liquidVolume, syrup := (v.head h).syrupVolume } }
    (c.lastObs = none → s.meterStatus h o arm = hand s) ∧
    ∀ p, c.lastObs = some p →
      let liquid := (o.liquid + 65536 - p.liquid) % 65536
      let syrup := (o.syrup + 65536 - p.syrup) % 65536
      let limit := s.meterUnit.stepLimit
      let gain := (if liquid ≤ limit then liquid else 0) + (if syrup ≤ limit then syrup else 0)
      let counts := c.bases ≠ none ∧ (c.state = .running ∨ c.record ≠ none)
      let dry := c.state = .idle ∨ c.state = .seating ∨ c.state = .emptyPass ∨ c.state = .done ∨
        (c.state = .running ∧ c.meter.productStarted = false)
      let adds := dry ∧ (liquid ≤ limit ∨ syrup ≤ limit)
      let sum := min 65535 (c.meter.leakSum + gain)
      let leaks := adds ∧ s.meterUnit.leakLimit < sum ∧ c.meter.leakRaised = false
      let counted := s.setHead h
        { c with
          liquidTotal := if counts ∧ liquid ≤ limit then min 262143 (c.liquidTotal + liquid)
            else if counts then min 262143 c.liquidTotal else c.liquidTotal
          syrupTotal := if counts ∧ syrup ≤ limit then min 262143 (c.syrupTotal + syrup)
            else if counts then min 262143 c.syrupTotal else c.syrupTotal
          meter := { c.meter with
            leakSum := if adds then sum else c.meter.leakSum
            leakRaised := if leaks then true else c.meter.leakRaised } }
      let leak := fun u : State => if leaks then u.raiseHead h .meterLeak else u
      let jumps := fun u : State =>
        let v := if limit < liquid then u.raiseHead h .meterJump else u
        if limit < syrup then v.raiseHead h .meterJump else v
      s.meterStatus h o arm = hand (if s.arbiter.leakFirst then jumps (leak counted) else leak (jumps counted))) ∧
  (∀ (s : State) (h : HeadId) (o : Obs) (arm : Option Arm),
    let c := s.head h
    let w := s.setHead h { c with lastObs := some o }
    let t := s.handStatus h o arm
    (c.state = .idle ∨ c.state = .emptyPass ∨ c.state = .done ∨ c.state = .lockout ∨ c.state = .off ∨
        (c.state = .seating ∧ o.seated = false) → t = w) ∧
    (c.state = .seating → o.seated = true →
      let u := w.changeState h .running
      let v := u.setHead h
        { u.head h with
          bases := some { liquid := o.liquid, syrup := o.syrup }, phase := some .pending, startAngle := none }
      t = v.pendingTest h (v.cycleAngle h)) ∧
    (c.state = .running → c.phase ≠ some .active → t = w.pendingTest h (s.cycleAngle h)) ∧
    (∀ (seg : Work) (θ a : Nat), c.state = .running → c.phase = some .active → c.work = some seg →
      c.startAngle = some a → s.cycleAngle h = some θ →
      let final := (seg.record.kind = .fill ∨ seg.record.kind = .trim) ∧ seg.record.ending = .volume ∧
        seg.record.param = 1000
      let finished : Head :=
        { c with lastObs := some o, meter := { c.meter with finalDone := c.meter.finalDone || decide final } }
      (¬s.EndsSegment c seg θ a o arm → t = w) ∧
      (s.EndsSegment c seg θ a o arm → (s.setHead h (finished.ended seg θ)).GoesOn t h seg.header θ)) ∧
    (c.state = .aborting ∨ c.state = .forced →
      let d := t.head h
      (¬s.CompletesClose c o s.predates → t = w) ∧
      (s.CompletesClose c o s.predates →
        s.OnlyHead t h ∧ t.store = s.store ∧
        (c.record ≠ none →
          t.Posted h ∧
          { d with scan := c.scan } =
            { c with lastObs := some o, state := .done, level := 0, valves := .rest, ventTimer := none }) ∧
        (c.record = none → c.withdraw = true →
          d.state = .off ∧ d.offset = c.offset ∧ d.calib = c.calib ∧ d.withdraw = false ∧ h ∉ t.scanner.urgent) ∧
        (c.record = none → c.withdraw = false →
          t.Posted h ∧
          { d with scan := c.scan } =
            { c with lastObs := some o, state := .idle, level := 0, valves := .rest, ventTimer := none })))) ∧
  ∀ (s : State) (h : HeadId) (st : HeadState),
    s.predates = (match s.scanner.inFlight with | some x => x.predates | none => false) ∧
    s.changeState h st =
      { s.setHead h { s.head h with state := st, level := st.level } with
        scanner := { s.scanner with
          inFlight := s.scanner.inFlight.map fun x =>
            if x.head = h ∧ (s.head h).state ≠ st then { x with predates := true } else x } }

/-! ## Faults -/

/-- A part-scoped raise latches, reports and acts, with clean contexts: NOTE changes nothing more, HOLD bars starts,
HALT bars starts and aborts the cycles, and STOP puts the part in SAFE and, but for EXTERNAL, joins the stop-cause set;
the FAULT report is made first, and with STOP the MODE report of an entry to SAFE after it (R69, R130, R134, R135, R137,
R141). -/
def Obligations.PartRaiseLatchesReportsActs : Prop :=
  ∀ (s : State) (k : Cause) (station slot : Option Nat), (∀ h, (s.head h).clean = true) →
    let t := s.raisePart k station slot
    let r := s.record k.cls
    let latched := { r with latched := true, lastCause := some k, lastStation := station }
    let told : State := (s.updRecord k.cls fun _ => latched).report
      (.fault { cause := k, station := station, slot := slot, action := r.action, condition := r.condition })
    (r.action = .note → t = told) ∧
    (r.action = .hold → t = told.updRecord k.cls fun r => { r with bars := true }) ∧
    (r.action = .halt →
      t.record k.cls = { latched with bars := true } ∧ (∀ c, c ≠ k.cls → t.record c = s.record c) ∧
      t.faults.mode = s.faults.mode ∧ t.reports = told.reports ∧
      ∀ h,
        ((s.head h).state = .running → (t.head h).state = .aborting ∧ (t.head h).lastFault = some k) ∧
        ((s.head h).state = .seating → (t.head h).state = .emptyPass ∧
          ((s.head h).record = none →
            ∃ d, (t.head h).record = some d ∧ d.verdict = .skipped ∧ d.skip = some .hold ∧ d.fault = some k)) ∧
        ((s.head h).state ≠ .running → (s.head h).state ≠ .seating →
          { t.head h with scan := (s.head h).scan } = s.head h)) ∧
    (r.action = .stop →
      t.faults.mode = .safe ∧ (t.record k.cls).latched = true ∧ (t.record k.cls).lastCause = some k ∧
      (t.record k.cls).lastStation = station ∧
      (k.cls ≠ .external → (t.record k.cls).inStop = true) ∧
      (k.cls = .external → (t.record k.cls).inStop = (s.record k.cls).inStop) ∧
      (∀ c, c ≠ k.cls → (t.record c).inStop = (s.record c).inStop ∧ (t.record c).latched = (s.record c).latched) ∧
      (∀ c, (t.record c).bars = (s.record c).bars) ∧
      t.reports = if s.faults.mode = .safe then told.reports
        else told.reports.create (.mode s.faults.mode .safe (some k.cls)))

/-- A head-scoped raise, with clean contexts: discarded for a head in OFF or LOCKOUT, else latched and reported; HALT and
STOP move the head down the safe-close sequence with a snapshot, HOLD sets the hold flag, and NOTE only latches and
reports; under NOTE and HOLD too, VALVE or COMM moves a head in ABORTING to FORCED and one in FORCED to LOCKOUT, and
PROFILE_LOST moves a RUNNING head to ABORTING, each with a snapshot, and the hold flag of HOLD is set all the same; STOP also
puts the part in SAFE with the class in the stop-cause set; an entry to FORCED is remembered until the next COMMAND (R67,
R68, R107, R134, R136, R149; notes/assumptions/17.md). -/
def Obligations.HeadRaiseEscalates : Prop :=
  ∀ (s : State) (h : HeadId) (k : Cause),
    let c := s.head h
    let act := (s.record k.cls).action
    let t := s.raiseHead h k
    (c.state = .off ∨ c.state = .lockout → t = s) ∧
    (c.state ≠ .off → c.state ≠ .lockout → (∀ g, (s.head g).clean = true) → k.cls ≠ .lockout →
      s.lockoutCount < s.faults.lockoutLimit →
      (t.record k.cls).latched = true ∧ (t.record k.cls).lastCause = some k ∧
      (t.record k.cls).lastStation = some (s.management.stationBase + h.val) ∧ (t.head h).lastFault = some k ∧
      let slides := ((k.cls = .valve ∨ k.cls = .comm) ∧ (c.state = .aborting ∨ c.state = .forced)) ∨
        (k = .profileLost ∧ c.state = .running)
      let image := c.snapshot (s.management.stationBase + h.val) k :: s.faults.snapshots
      (s.lockoutCount + 1 < s.faults.lockoutLimit → act ≠ .stop →
        t.reports = s.reports.create
          (.fault { cause := k, station := some (s.management.stationBase + h.val), slot := none, action := act
                    condition := (s.record k.cls).condition })) ∧
      (act = .note ∨ act = .hold →
        (act = .note → (t.head h).hold = c.hold) ∧ (act = .hold → (t.head h).hold = true) ∧
        (¬slides → (t.head h).state = c.state ∧ t.faults.mode = s.faults.mode ∧
          t.faults.snapshots = s.faults.snapshots) ∧
        (slides →
          (c.state = .running → (t.head h).state = .aborting ∧ (t.head h).pin = none) ∧
          (c.state = .aborting → (t.head h).state = .forced ∧
            (s.scanner.inFlight ≠ none → (t.head h).scan.forcedUnsent = true)) ∧
          (c.state = .forced → (t.head h).state = .lockout) ∧
          (s.faults.snapshots.length < 16 → t.faults.snapshots = image) ∧
          (s.lockoutCount + 1 < s.faults.lockoutLimit → t.faults.mode = s.faults.mode))) ∧
      (act = .halt ∨ act = .stop →
        (c.state = .running → (t.head h).state = .aborting ∧ (t.head h).pin = none) ∧
        (c.state = .seating → (t.head h).state = .emptyPass ∧ (t.head h).pin = none) ∧
        (c.state = .aborting → (t.head h).state = .forced ∧
          (s.scanner.inFlight ≠ none → (t.head h).scan.forcedUnsent = true)) ∧
        (c.state = .forced → (t.head h).state = .lockout) ∧
        (c.state = .idle ∨ c.state = .done ∨ c.state = .emptyPass →
          (t.head h).state = c.state ∧ (t.head h).hold = true) ∧
        (c.state = .running ∨ c.state = .seating ∨ c.state = .aborting ∨ c.state = .forced →
          s.faults.snapshots.length < 16 →
          t.faults.snapshots = image)) ∧
      (act = .stop → t.faults.mode = .safe ∧ (t.record k.cls).inStop = true))

/-- Parity errors (R38, R40, R45, R70). An event that a head with a context in error takes has no normal effect but
CONTEXT_PARITY: a head in FORCED goes to LOCKOUT and one in any other state but LOCKOUT to FORCED, its pin given back, with
a record of volumes 0 and no completed segment where it was dosing, its checked fields rewritten, and, whatever the action, a
snapshot of the context as read; HOLD also sets the hold flag (notes/assumptions/10.md) and STOP puts the part in SAFE; in
LOCKOUT the fields are rewritten, nothing is raised, and an urgent exchange is posted where the rewrite changes the commanded
valves or the cut arm (R45; that an enrolled head without calibration, which no part has, has the estimate 0 is
notes/assumptions/27.md); an entry to FORCED is remembered until the next COMMAND (R107; notes/assumptions/17.md). A start
test that finds the pinned slot CORRUPT takes PROFILE_LOST; one whose read finds a parity error makes the slot CORRUPT, takes
PROFILE_LOST and then raises PROFILE_PARITY with the slot's number; at a segment end no step of R56 follows either. -/
def Obligations.ParityErrorsAct : Prop :=
  (∀ (s : State) (h : HeadId) (f : State → State), (s.head h).state ≠ .off → (s.head h).clean = false →
    s.headEvent h f = s.contextParity h) ∧
  (∀ (s : State) (h : HeadId), s.lockoutCount + 1 < s.faults.lockoutLimit → (∀ g, g ≠ h → (s.head g).clean = true) →
    let c := s.head h
    let t := s.contextParity h
    let act := (s.record .table).action
    let station := s.management.stationBase + h.val
    let fresh : Head :=
      { c with
        segIndex := 0, phase := none, startAngle := none, lastClosed := none, rampPos := none, valves := .venting
        arm := none, bases := none, liquidTotal := 0, syrupTotal := 0, lastObs := none, work := none
        overrun := match c.calib with | some k => k.overrun | none => 0
        deadlineMet := false, clean := true
        meter := { leakSum := 0, leakRaised := false, productStarted := false, finalCut := none, estimateUsed := none
                   finalDone := false } }
    let record := fun (v : Verdict) (skip : Option SkipReason) => some
      { verdict := v, skip := skip, cycle := c.cycle, pin := c.pin, liquid := 0, syrup := 0, estimate := none
        observed := none, fault := some .contextParity, completed := 0 : DoseRecord }
    let closing : Head :=
      { fresh with ventTimer := none, lastFault := some .contextParity, hold := c.hold || decide (act = .hold) }
    let told := s.reports.create
      (.fault { cause := .contextParity, station := some station, slot := none, action := act
                condition := (s.record .table).condition })
    (c.state = .lockout →
      (c.valves = .venting → c.arm = none → t = s.setHead h fresh) ∧
      (c.valves ≠ .venting ∨ c.arm ≠ none →
        s.OnlyHead t h ∧ t.Posted h ∧ t.store = s.store ∧ { t.head h with scan := c.scan } = fresh)) ∧
    (c.state ≠ .off → c.state ≠ .lockout →
      let d := { t.head h with scan := c.scan }
      t.Posted h ∧
      (c.state = .forced → d = { closing with state := .lockout, level := 3 }) ∧
      (c.state ≠ .forced → s.scanner.inFlight ≠ none → (t.head h).scan.forcedUnsent = true) ∧
      (c.state = .idle ∨ c.state = .done ∨ c.state = .emptyPass ∨ c.state = .aborting →
        d = { closing with state := .forced, level := 2 }) ∧
      (∀ p, c.state = .running → c.pin = some p → c.record = none →
        d = { closing with state := .forced, level := 2, pin := none, record := record .aborted none }) ∧
      (∀ p, c.state = .seating → c.pin = some p → c.record = none →
        d = { closing with
          state := .forced, level := 2, pin := none, record := record .skipped (some .headHold) }) ∧
      (∀ p, c.state = .running ∨ c.state = .seating → c.pin = some p → act ≠ .stop →
        (s.slot p.slot).GivesBack (t.slot p.slot) ∧ ∀ j, j ≠ p.slot → t.slot j = s.slot j) ∧
      (c.state ≠ .running → c.state ≠ .seating → act ≠ .stop → t.store = s.store) ∧
      (act ≠ .stop → ∀ g, g ≠ h → { t.head g with scan := (s.head g).scan } = s.head g) ∧
      (t.record .table).latched = true ∧ (t.record .table).lastCause = some .contextParity ∧
      (t.record .table).lastStation = some station ∧
      (s.faults.snapshots.length < 16 →
        t.faults.snapshots = c.snapshot station .contextParity :: s.faults.snapshots) ∧
      (act ≠ .stop → t.faults.mode = s.faults.mode ∧ t.reports = told) ∧
      (act = .stop → t.faults.mode = .safe ∧ (t.record .table).inStop = true ∧
        t.reports = if s.faults.mode = .safe then told
          else told.create (.mode s.faults.mode .safe (some .table))))) ∧
  ∀ (s : State) (h : HeadId) (q : Pin) (i : Fin 12), (s.head h).state = .running → (s.head h).pin = some q →
    let c := s.head h
    let u := s.slot q.slot
    let lost := fun v : State => v.raiseHead h .profileLost
    let spoiled := fun v : State =>
      (lost (v.setSlot q.slot { u with state := .corrupt })).raisePart .profileParity none (some q.slot.val)
    let misread := u.state ≠ .corrupt ∧ (u.headerClean = false ∨ u.cells[i].clean = false)
    (c.phase = some .pending → c.segIndex = i.val → ∀ θ : Option Nat,
      (u.state = .corrupt → s.pendingTest h θ = lost s) ∧ (misread → s.pendingTest h θ = spoiled s)) ∧
    ∀ (w : Work) (θ n : Nat), u.segCount = some n → c.segIndex + 1 = i.val → i.val < n →
      (u.state = .corrupt → s.endSegment h w θ = lost (s.setHead h (c.ended w θ))) ∧
      (misread → s.endSegment h w θ = spoiled (s.setHead h (c.ended w θ)))

/-! ## The dose cycle -/

/-- The infeed crossing of an IDLE head: nothing but the last fault changes outside PRODUCTION; in PRODUCTION the cycle
fields are cleared and the head pins the ACTIVE slot and seats, or skips with the first reason that holds (R36, R46;
that the last fault is cleared in every mode is notes/assumptions/13.md). -/
def Obligations.InfeedBeginsCycle : Prop :=
  ∀ (s : State) (h : HeadId) (pos : Pos), (s.head h).state = .idle → (s.head h).record = none →
    let c := s.head h
    let t := s.infeedCrossing h pos
    let d := t.head h
    let barred := ∃ k, (s.record k).bars = true
    let skipped := fun r : SkipReason =>
      d.state = .emptyPass ∧ d.pin = none ∧ t.store = s.store ∧
        ∃ x, d.record = some x ∧ x.verdict = .skipped ∧ x.skip = some r ∧ x.pin = none ∧ x.fault = none ∧
          x.cycle = (c.cycle + 1) % 65536 ∧ x.liquid = 0 ∧ x.syrup = 0 ∧ x.completed = 0
    (∀ g, g ≠ h → t.head g = s.head g) ∧ t.faults = s.faults ∧ t.reports = s.reports ∧ t.discharge = s.discharge ∧
    (s.faults.mode ≠ .production → d = { c with lastFault := none } ∧ t.store = s.store) ∧
    (s.faults.mode = .production → (c.pin = none) → (∀ k, c.calib = some k → 0 < k.liquidK ∧ 0 < k.syrupK) →
      d.cycle = (c.cycle + 1) % 65536 ∧ d.segIndex = 0 ∧ d.phase = none ∧ d.startAngle = none ∧ d.lastClosed = none ∧
      d.rampPos = none ∧ d.bases = none ∧ d.arm = none ∧ d.liquidTotal = 0 ∧ d.syrupTotal = 0 ∧
      d.lastFault = none ∧ d.meter = .blank ∧ d.level = 0 ∧ d.overrun = c.overrun ∧ d.lastObs = c.lastObs ∧
      (barred → skipped .hold) ∧
      (¬barred → c.hold = true → skipped .headHold) ∧
      (¬barred → c.hold = false → c.withdraw = true → skipped .withdraw) ∧
      (¬barred → c.hold = false → c.withdraw = false → (∀ j, (s.slot j).state ≠ .active) → skipped .noProfile) ∧
      ∀ (j : SlotId) (p : Nat), ¬barred → c.hold = false → c.withdraw = false → s.OneActive →
        (s.slot j).state = .active → (s.slot j).profile = some p →
        d.state = .seating ∧ d.record = none ∧ d.pin = some { slot := j, gen := (s.slot j).gen, profile := p } ∧
        t.slot j = { s.slot j with users := (s.slot j).users + 1 } ∧ ∀ i, i ≠ j → t.slot i = s.slot i)

/-- The crossings of Θs and Θd: a SEATING head at Θs gives its bottle up as EMPTY; at Θd a DONE or EMPTY_PASS head emits
its record as a DOSE report with the next dose sequence and goes to IDLE, or to OFF when a withdraw is pending; a
RUNNING head raises DEADLINE DISCHARGE, pushes its snapshot, gives its pin back, is forced, and has a record ABORTED with
that fault created and emitted as a DOSE report (R49, R60, R61, R64, R163, R166; on a discharge master CrossingsByState says
what emission is; that its entry to FORCED is remembered until the next COMMAND is
notes/assumptions/17.md). A head that walks to an angle, with no segment of its own in progress, takes there the infeed crossing at
angle 0, the crossing of Θs at Θs and that of Θd at Θd, and nothing elsewhere (R15, R16, R17; a RUNNING head's angles are
RunningHeadTakesAngle). -/
def Obligations.SeatEndAndDischarge : Prop :=
  ∀ (s : State) (h : HeadId) (pos : Pos),
    let c := s.head h
    let v := s.seatWindowEnd h
    let t := s.dischargeCrossing h pos
    (∀ p, c.state = .seating → c.pin = some p → c.record = none →
      (v.head h).state = .emptyPass ∧ (v.head h).pin = none ∧ (s.slot p.slot).GivesBack (v.slot p.slot) ∧
      (∃ x, (v.head h).record = some x ∧ x.verdict = .empty ∧ x.skip = none ∧ x.pin = some p) ∧
      (∀ g, g ≠ h → v.head g = s.head g) ∧ v.faults = s.faults ∧ v.reports = s.reports) ∧
    (c.state ≠ .seating → v = s) ∧
    (c.state = .idle → t = s) ∧
    (∀ a : Nat, c.clean = true → c.state ≠ .off → c.state ≠ .running → s.zones.seatEnd ≠ 0 →
      s.zones.seatEnd < s.zones.dischargeAngle →
      s.takeAngle h a pos =
        if a = 0 then s.infeedCrossing h pos
        else if a = s.zones.seatEnd then v
        else if a = s.zones.dischargeAngle then t
        else s) ∧
    (∀ r, c.state = .done ∨ c.state = .emptyPass → c.record = some r → s.discharge.master = false →
      (t.head h).record = none ∧ (t.head h).state = (if c.withdraw then .off else .idle) ∧
      (∀ g, g ≠ h → t.head g = s.head g) ∧ t.faults = s.faults ∧ t.store = s.store ∧
      (s.reports.prioOf .dose = 0 → t.reports = s.reports) ∧
      (s.reports.prioOf .dose ≠ 0 →
        t.reports =
          ({ s.reports with doseSeq := (s.reports.doseSeq + 1) % 65536 } : ReportQueue).place
            { prio := s.reports.prioOf .dose
              body := .dose
                { record := r, station := s.management.stationBase + h.val, pos := pos
                  seq := s.reports.doseSeq } })) ∧
    (∀ p, c.state = .running → c.pin = some p → s.OneActive →
      (t.head h).state = .forced ∧ (t.head h).level = 2 ∧ (t.head h).valves = .venting ∧ (t.head h).arm = none ∧
      (t.head h).pin = none ∧ (t.head h).record = none ∧ (t.record .deadline).latched = true ∧
      (t.record .deadline).lastCause = some .deadlineDischarge ∧ (t.head h).withdraw = c.withdraw ∧
      (s.scanner.inFlight ≠ none → (t.head h).scan.forcedUnsent = true) ∧
      ((s.record .deadline).action = .stop → t.faults.mode = .safe ∧ (t.record .deadline).inStop = true)) ∧
    (∀ p, c.state = .running → c.pin = some p → c.record = none → s.discharge.master = false →
      s.lockoutCount < s.faults.lockoutLimit → (∀ g, (s.head g).clean = true) →
      let act := (s.record .deadline).action
      let station := s.management.stationBase + h.val
      let told := s.reports.create
        (.fault { cause := .deadlineDischarge, station := some station, slot := none, action := act
                  condition := (s.record .deadline).condition })
      let dosed :=
        if s.reports.prioOf .dose = 0 then told
        else ({ told with doseSeq := (s.reports.doseSeq + 1) % 65536 } : ReportQueue).place
          { prio := s.reports.prioOf .dose
            body := .dose
              { record :=
                  { verdict := .aborted, skip := none, cycle := c.cycle, pin := some p, liquid := c.liquidVolume
                    syrup := c.syrupVolume, estimate := c.meter.estimateUsed, observed := none
                    fault := some .deadlineDischarge, completed := c.segIndex }
                station := station, pos := pos, seq := s.reports.doseSeq } }
      t.reports =
        (if act = .stop ∧ s.faults.mode ≠ .safe then dosed.create (.mode s.faults.mode .safe (some .deadline))
          else dosed) ∧
      (s.faults.snapshots.length < 16 →
        t.faults.snapshots = c.snapshot station .deadlineDischarge :: s.faults.snapshots))

/-- The other crossings, and the emission of a record. A head in ABORTING, FORCED or LOCKOUT counts its cycle at an infeed in
PRODUCTION and, where no record is pending, makes one SKIPPED without a reason or LOCKED, and emits a pending record at Θd
without changing its state; outside PRODUCTION its infeed clears the last fault alone. A head found at its infeed in
SEATING, RUNNING, DONE or EMPTY_PASS takes Θs, then Θd, then the infeed; one in SEATING at Θd takes Θs first (R47, R61; that
no start test follows the Θs so taken is notes/assumptions/37.md, that the record counts the segment index the head still
holds notes/assumptions/25.md, and that the last fault is cleared in every mode notes/assumptions/13.md). Emission makes a DOSE report with the next dose sequence, or with priority 0 none, and
leaves no record; a master takes its own report as every other, at its creation (R60, R117, R163, R166; whether before or
after the placing in the queue is notes/assumptions/4.md). -/
def Obligations.CrossingsByState : Prop :=
  (∀ (s : State) (h : HeadId) (pos : Pos),
    let c := s.head h
    let closing := c.state = .aborting ∨ c.state = .forced ∨ c.state = .lockout
    let riding := c.state = .seating ∨ c.state = .running ∨ c.state = .done ∨ c.state = .emptyPass
    let passed : Head := { c with lastFault := none, cycle := (c.cycle + 1) % 65536 }
    (closing → s.dischargeCrossing h pos = s.emit h pos) ∧
    (c.state = .seating → s.dischargeCrossing h pos = (s.seatWindowEnd h).dischargeCrossing h pos) ∧
    (closing → s.faults.mode ≠ .production → s.infeedCrossing h pos = s.setHead h { c with lastFault := none }) ∧
    (closing → s.faults.mode = .production → c.record ≠ none → s.infeedCrossing h pos = s.setHead h passed) ∧
    (closing → s.faults.mode = .production → c.record = none →
      s.infeedCrossing h pos = s.setHead h
        { passed with
          meter := { leakSum := 0, leakRaised := false, productStarted := false, finalCut := none, estimateUsed := none
                     finalDone := false }
          bases := none, liquidTotal := 0, syrupTotal := 0
          record := some
            { verdict := if c.state = .lockout then .locked else .skipped, skip := none
              cycle := (c.cycle + 1) % 65536, pin := none, liquid := 0, syrup := 0, estimate := none, observed := none
              fault := none, completed := c.segIndex } }) ∧
    (riding → s.infeedCrossing h pos = ((s.seatWindowEnd h).dischargeCrossing h pos).infeedCrossing h pos) ∧
    (c.record = none → s.emit h pos = s) ∧
    ∀ r, c.record = some r →
      let t := s.createDose r (s.management.stationBase + h.val) pos
      s.emit h pos = t.setHead h { t.head h with record := none }) ∧
  ∀ (s : State) (r : DoseRecord) (station : Nat) (pos : Pos),
    let t := s.createDose r station pos
    let numbered : State := { s with reports := { s.reports with doseSeq := (s.reports.doseSeq + 1) % 65536 } }
    let place := fun u : State =>
      ({ u with
        reports := u.reports.place
          { prio := s.reports.prioOf .dose
            body := .dose { record := r, station := station, pos := pos, seq := s.reports.doseSeq } } } : State)
    (s.reports.prioOf .dose = 0 → t = s) ∧
    (s.reports.prioOf .dose ≠ 0 → s.discharge.master = false → t = place numbered) ∧
    ∀ a : Fin 15, s.reports.prioOf .dose ≠ 0 → s.discharge.master = true → a.val = s.management.address →
      let own := fun u : State => u.takeDose a s.reports.doseSeq station r.cycle r.verdict pos
      t = if s.arbiter.trackerFirst then place (own numbered) else own (place numbered)

/-- What a head does at one angle of its walk. Which boundaries lie there: an end of a valid zone row, the ANGLE end and the
deadline of its segment, a start point of a PENDING segment, the ramp point of a FILL or TRIM below its aperture (R15; that a
deadline once crossed is kept as a mark is notes/assumptions/17.md). They are taken one by one in the order of R16, each as
one event of the head while it is still present, for the segment that was current at the arrival, and each followed by a
start test; Θs, Θd and the infeed come last. A start test starts the PENDING segment where it may (R50, R51); a region
boundary cuts the ACTIVE segment that the region does not permit, with ZONE CUT for SYRUP, FILL and TRIM before the head goes
on (R55); the ANGLE end ends its segment, and the deadline of a PENDING or ACTIVE one raises DEADLINE SEGMENT (R54); a ramp step raises L up to the
target (R52). -/
def Obligations.RunningHeadTakesAngle : Prop :=
  ∀ (s : State) (h : HeadId) (a : Nat),
    let c := s.head h
    let cpr := s.tracker.cpr
    let row := fun i : Fin 8 => s.zones.rows[i]
    let covers := fun (i : Fin 8) (b : Nat) => (row i).valid = true ∧ (row i).start ≤ b ∧ b < (row i).stop
    let apart := ∀ i j b, covers i b → covers j b → i = j
    let active := c.state = .running ∧ c.phase = some .active
    let behind := (a + cpr - 1) % cpr
    (a < cpr → (∀ i, (row i).valid = true → (row i).stop ≤ cpr) →
      (s.zones.boundary cpr a = true ↔
        ∃ i, (row i).valid = true ∧ ((row i).start = a ∨ (row i).stop = a ∨ ((row i).stop = cpr ∧ a = 0)))) ∧
    (c.angleEndAt a = true ↔
      active ∧ ∃ w θ, c.work = some w ∧ c.startAngle = some θ ∧ w.record.ending = .angle ∧ w.record.param = a ∧
        θ < a) ∧
    (s.deadlineAt c a = true ↔
      c.state = .running ∧ c.phase ≠ none ∧ c.deadlineMet = false ∧
        ((∃ w, c.work = some w ∧ w.record.deadline = a) ∨
          (c.work = none ∧ ∃ (p : Pin) (i : Fin 12), c.pin = some p ∧ c.segIndex = i.val ∧
            (s.slot p.slot).cells[i].record.deadline = a))) ∧
    (apart →
      (s.startPointAt c a = true ↔
        c.state = .running ∧ c.phase = some .pending ∧
          ((∃ i, covers i behind ∧ behind < (row i).start + (row i).guard ∧ (row i).start + (row i).guard = a) ∨
            ∃ b x, c.lastClosed = some (b, x) ∧
              ((∃ i, covers i b ∧ b + (row i).gap = a) ∨ ((∀ i, ¬covers i b) ∧ b + s.zones.baseGap = a))))) ∧
    (c.rampPointAt a = true ↔
      active ∧ ∃ w r, c.work = some w ∧ c.rampPos = some r ∧ (w.record.kind = .fill ∨ w.record.kind = .trim) ∧
        c.valves.l < w.record.aperture ∧ r + w.record.interval = a) ∧
    (∀ pos : Pos,
      let taken := fun (u : State) (present : Bool) (effect : State → State) =>
        if present then u.headEvent h fun v => (effect v).pendingTest h (some a) else u
      let own := fun (u : State) (present : State → Bool) =>
        present s && (u.head h).segIndex == c.segIndex && present u
      let u₁ := taken s (s.zones.boundary cpr a) fun u => u.regionCrossing h a
      let u₂ := taken u₁ (own u₁ fun u => (u.head h).angleEndAt a) fun u => u.angleEnd h a
      let u₃ := taken u₂ (own u₂ fun u => u.deadlineAt (u.head h) a) fun u => u.deadlineCrossing h
      let u₄ := taken u₃ (own u₃ fun u => u.startPointAt (u.head h) a) id
      let u₅ := taken u₄ (own u₄ fun u => (u.head h).rampPointAt a) fun u => u.rampStep h a
      let u₆ := taken u₅ (decide (s.zones.seatEnd ≠ 0 ∧ s.zones.seatEnd = a)) fun u => u.seatWindowEnd h
      let u₇ := taken u₆ (decide (s.zones.dischargeAngle ≠ 0 ∧ s.zones.dischargeAngle = a)) fun u =>
        u.dischargeCrossing h pos
      s.takeAngle h a pos = taken u₇ (decide (a = 0)) fun u => u.infeedCrossing h pos) ∧
    (∀ f : State → State,
      (c.state = .off → s.headEvent h f = s) ∧ (c.state ≠ .off → c.clean = true → s.headEvent h f = f s)) ∧
    (∀ θ : Option Nat, ¬(c.state = .running ∧ c.phase = some .pending) → s.pendingTest h θ = s) ∧
    (∀ (q : Pin) (i : Fin 12), c.state = .running → c.phase = some .pending → c.pin = some q → c.segIndex = i.val →
      (s.slot q.slot).state ≠ .corrupt → (s.slot q.slot).headerClean = true → (s.slot q.slot).cells[i].clean = true →
      let record := (s.slot q.slot).cells[i].record
      s.pendingTest h none = s ∧
      ∀ θ : Nat,
        let t := s.pendingTest h (some θ)
        (s.mayStart c record.kind θ = false → t = s) ∧
        (s.mayStart c record.kind θ = true →
          s.OnlyHead t h ∧ t.Posted h ∧ t.store = s.store ∧
          { t.head h with scan := c.scan } =
            c.startSegment { header := (s.slot q.slot).header, record := record } θ)) ∧
    (¬active → s.regionCrossing h a = s) ∧
    s.deadlineCrossing h = (s.setHead h { c with deadlineMet := true }).raiseHead h .deadlineSegment ∧
    ∀ w : Work, active → c.work = some w →
      let permitted := (∀ i, covers i a → (row i).permitted.getLsbD (w.record.kind.code - 1) = true) ∧
        ((∀ i, ¬covers i a) → w.record.kind = .settle)
      let product := w.record.kind = .syrup ∨ w.record.kind = .fill ∨ w.record.kind = .trim
      let cut := s.setHead h (c.ended w a)
      let faulted := cut.raiseHead h .zoneCut
      let t := s.regionCrossing h a
      (apart → permitted → t = s) ∧
      (apart → ¬permitted → ¬product → cut.GoesOn t h w.header a) ∧
      (apart → ¬permitted → product →
        ((faulted.head h).state = .running → faulted.GoesOn t h w.header a) ∧
        ((faulted.head h).state ≠ .running → t = faulted)) ∧
      cut.GoesOn (s.angleEnd h a) h w.header a ∧
      s.rampStep h a = s.setHead h
        { c with
          valves := { c.valves with l := min (c.valves.l + w.record.step) w.record.aperture }, rampPos := some a }

/-- When a segment may start, in a zone map whose valid rows do not overlap: its kind is permitted at the cycle angle, the
entry guard is behind the head, the changeover gap since another valve closed is too, and the bases are present (R18, R20,
R21, R50). What its start sets: phase, start angle, the valve pattern of its kind, L lowered to the aperture target for
FILL and TRIM and 0 for the others, the ramp position, the product started of SYRUP, FILL and TRIM, and the cut arm of a VOLUME end: the syrup target, a fraction of
the liquid target, or the liquid target less the learned overrun, which is the counter of the last observation when the
volume already metered has passed it (R26, R51, R83 to R87). -/
def Obligations.SegmentStartSetsCommand : Prop :=
  (∀ k : SegKind, k.principal =
    match k with
    | .purge | .snift => some .v
    | .pressurize => some .g
    | .syrup => some .s
    | .fill | .trim => some .l
    | .settle => none) ∧
  (∀ (s : State) (c : Head) (k : SegKind) (θ : Nat),
    let covers := fun (i : Fin 8) (a : Nat) =>
      s.zones.rows[i].valid = true ∧ s.zones.rows[i].start ≤ a ∧ a < s.zones.rows[i].stop
    (∀ i j a, covers i a → covers j a → i = j) →
    (s.mayStart c k θ = true ↔
      c.bases ≠ none ∧ ((∀ i, ¬covers i θ) → k = .settle) ∧
      (∀ i, covers i θ →
        s.zones.rows[i].permitted.getLsbD (k.code - 1) = true ∧ s.zones.rows[i].start + s.zones.rows[i].guard ≤ θ) ∧
      ∀ a x, c.lastClosed = some (a, x) → k.principal ≠ none → k.principal ≠ some x →
        (∀ i, covers i a → a + s.zones.rows[i].gap ≤ θ) ∧
        ((∀ i, ¬covers i a) → a + s.zones.baseGap ≤ θ))) ∧
  ∀ (c : Head) (w : Work) (θ : Nat) (b : Bases) (k : Calib), c.bases = some b → c.calib = some k →
    let d := c.startSegment w θ
    let kind := w.record.kind
    let fills := kind = .fill ∨ kind = .trim
    let volume := w.record.ending = .volume
    let vs := w.header.target * w.header.ratio / 1000
    let vl := w.header.target - vs
    let vm := volumeOf k.liquidK k.liquidTrim c.liquidTotal
    d.phase = some .active ∧ d.startAngle = some θ ∧ d.work = some w ∧ d.state = c.state ∧ d.bases = c.bases ∧
    (kind = .syrup ∨ fills → d.meter.productStarted = true) ∧
    (kind ≠ .syrup → ¬fills → d.meter.productStarted = c.meter.productStarted) ∧
    d.meter.leakSum = c.meter.leakSum ∧ d.meter.leakRaised = c.meter.leakRaised ∧
    d.meter.finalDone = c.meter.finalDone ∧
    (¬volume ∨ kind = .syrup ∨ (fills ∧ w.record.param < 1000) →
      d.meter.finalCut = c.meter.finalCut ∧ d.meter.estimateUsed = c.meter.estimateUsed) ∧
    (fills → d.valves = { g := true, s := false, l := min c.valves.l w.record.aperture, v := false } ∧
      d.rampPos = some θ) ∧
    (¬fills → d.rampPos = none) ∧
    (kind = .purge → d.valves = { g := true, s := false, l := 0, v := true }) ∧
    (kind = .pressurize → d.valves = { g := true, s := false, l := 0, v := false }) ∧
    (kind = .syrup → d.valves = { g := true, s := true, l := 0, v := false }) ∧
    (kind = .settle → d.valves = { g := false, s := false, l := 0, v := false }) ∧
    (kind = .snift → d.valves = { g := false, s := false, l := 0, v := true }) ∧
    (¬volume → d.arm = none) ∧
    (volume → kind = .syrup →
      d.arm = some { meter := .syrup, value := (b.syrup + pulsesFor k.syrupK k.syrupTrim vs) % 65536 }) ∧
    (volume → fills → w.record.param < 1000 →
      d.arm = some
        { meter := .liquid
          value := (b.liquid + pulsesFor k.liquidK k.liquidTrim (vl * w.record.param / 1000)) % 65536 }) ∧
    (volume → fills → w.record.param = 1000 → vm + c.overrun ≤ vl →
      d.arm = some
        { meter := .liquid, value := (b.liquid + pulsesFor k.liquidK k.liquidTrim (vl - c.overrun)) % 65536 } ∧
      d.meter.finalCut = some (vl - c.overrun) ∧ d.meter.estimateUsed = some c.overrun) ∧
    ∀ o, volume → fills → w.record.param = 1000 → vl < vm + c.overrun → c.lastObs = some o →
      d.arm = some { meter := .liquid, value := o.liquid } ∧ d.meter.finalCut = some vm ∧
      d.meter.estimateUsed = some c.overrun

/-- Conversions round to the nearest whole number with halves up, a volume above 65535 being held as 65535; the verdict
is the first of UNDER, OVER, RATIO and GOOD that holds; and a plausible overrun moves the estimate by the truncated
share of its difference, clamped to 0 to 500 (R77, R88, R89, R90). -/
def Obligations.VolumeVerdictLearning : Prop :=
  (∀ (k p v d : Nat) (trim : Int), 0 < k → 10000 + trim = d → 0 < d →
    (∃ m, volumeOf k trim p = min 65535 m ∧ 2 * k * m ≤ 2 * p * d + k ∧ 2 * p * d + k < 2 * k * (m + 1)) ∧
    2 * d * pulsesFor k trim v ≤ 2 * v * k + d ∧ 2 * v * k + d < 2 * d * (pulsesFor k trim v + 1)) ∧
  (∀ (h : Header) (vl vs : Nat),
    let total := vl + vs
    let off := 0 < h.ratio ∧
      (total = 0 ∨ (h.ratio + h.ratioTol) * total < 1000 * vs ∨ 1000 * vs + h.ratioTol * total < h.ratio * total)
    (total + h.underTol < h.target → verdictOf h vl vs = .under) ∧
    (h.target ≤ total + h.underTol → h.target + h.overTol < total → verdictOf h vl vs = .over) ∧
    (h.target ≤ total + h.underTol → total ≤ h.target + h.overTol → off → verdictOf h vl vs = .ratio) ∧
    (h.target ≤ total + h.underTol → total ≤ h.target + h.overTol → ¬off → verdictOf h vl vs = .good)) ∧
  ∀ (c : Head) (w vl cut e : Nat), c.meter.finalCut = some cut → c.meter.estimateUsed = some e →
    let o : Int := (vl : Int) - cut
    (c.meter.finalDone = true → 0 ≤ o → o ≤ 2 * e + 50 →
      c.learn w vl = some ((max 0 (min 500 ((e : Int) + (o - e).tdiv (2 ^ w)))).toNat, o.toNat)) ∧
    (c.meter.finalDone = false ∨ o < 0 ∨ 2 * e + 50 < o → c.learn w vl = none)

/-! ## The Report Queue -/

/-- A report created while the queue holds fewer than 32 is inserted after every report of equal or higher priority and
before the first of lower priority, in a queue ordered as R162 says (R164). -/
def Obligations.ReportInsertedByPriority : Prop :=
  ∀ (q : ReportQueue) (r : Report), q.queue.length < 32 → q.queue.Pairwise (fun a b => b.prio ≤ a.prio) →
    ∃ before after, q.queue = before ++ after ∧
      (∀ x ∈ before, r.prio ≤ x.prio) ∧ (∀ x ∈ after, x.prio < r.prio) ∧
      q.place r = { q with queue := before ++ r :: after }

/-- A report created at a full queue evicts the newest report of the lowest priority present when that is below its
own, and is dropped otherwise; the dropped flag is set either way (R165). -/
def Obligations.FullQueueEvictsOrDrops : Prop :=
  ∀ (q : ReportQueue) (r : Report) (low : Nat), q.queue.length = 32 →
    q.queue.Pairwise (fun a b => b.prio ≤ a.prio) → (∃ x ∈ q.queue, x.prio = low) →
    (∀ x ∈ q.queue, low ≤ x.prio) → low ≤ 3 →
    (r.prio ≤ low → q.place r = { q with dropped := true }) ∧
    (low < r.prio →
      ∃ kept evicted before after, q.queue = kept ++ [evicted] ∧ evicted.prio = low ∧ kept = before ++ after ∧
        (∀ x ∈ before, r.prio ≤ x.prio) ∧ (∀ x ∈ after, x.prio < r.prio) ∧
        q.place r = { q with queue := before ++ r :: after, dropped := true })

/-! ## Frames decode to the commands they bring -/

/-- Every well-formed command that a ring frame brings to a part is the command that the part reads from the bytes of
that frame, with every operand at every value its field holds (R152 to R161, R169 to R173, R180, R181). -/
def Obligations.RingFramesDecode : Prop :=
  ∀ (i : Instr) (held : Bool) (own elapsed : Nat) (f : Frame),
    WellFormed i → i.arrives held own elapsed = true → ringFrameOf i = some f →
    decodeRingFrame held own elapsed f = i

/-! ## Invariants that every step keeps -/

/-- Whenever the stop-cause set is non-empty the mode is SAFE (R137); the LOCKOUT condition stands exactly while the
lockout count is at the limit, and the mode is then SAFE (R142). -/
def Obligations.StopAndLockoutKeepSafe : Prop :=
  ∀ s t : State, s.StopsAreSafe → s.LockoutGuarded → step s = .next t → t.StopsAreSafe ∧ t.LockoutGuarded

/-- Every head's level and commanded valves are those of its state: of a RUNNING head the rest pattern while its segment is
PENDING and the pattern of its kind while it is ACTIVE, so that liquid opens only in an ACTIVE FILL or TRIM, up to its
aperture target (R26, R45). -/
def Obligations.HeadsCommandTheirState : Prop :=
  ∀ s t : State, s.HeadsCommand → step s = .next t → t.HeadsCommand

/-- The Report Queue holds at most 32 reports in order of non-increasing priority, none of priority 0 (R162). -/
def Obligations.ReportQueueStaysOrdered : Prop :=
  ∀ s t : State, s.QueueOrdered → step s = .next t → t.QueueOrdered

/-- At most one slot is ACTIVE (R33), and every slot's user count is the number of heads in SEATING or RUNNING pinned to
it (R36). -/
def Obligations.StoreCountsItsUsers : Prop :=
  ∀ s t : State, s.OneActive → s.UsersCounted → step s = .next t → t.OneActive ∧ t.UsersCounted

/-- The urgent queue never holds one head twice and never an OFF head (R98), and the bus idles only while every head is
OFF (R97). -/
def Obligations.UrgentQueueStaysSound : Prop :=
  ∀ s t : State, s.UrgentOnce → step s = .next t → t.UrgentOnce

/-- The reject schedule keeps its bounds (R115, R116) and the snapshot stack holds at most 16 entries (R149). -/
def Obligations.ScheduleAndSnapshotsBounded : Prop :=
  ∀ s t : State, s.ScheduleSound → s.SnapshotsFit → step s = .next t → t.ScheduleSound ∧ t.SnapshotsFit
end

