-- ==== Sys2Proof/Laws/Bus.lean ====
section
/-! SUPPORT. The shared operations around one STATUS, one sample and one reset, said case by case. -/

namespace Sys2Proof.Machine

/-! ### A frame from the bus (R102) -/

/-- A frame received before the COMMAND in flight was sent is discarded. -/
@[simp] theorem State.receive_early {f : BusFrame} (h : f.early = true) (s : State) : s.receive f = s := by
  unfold State.receive; rw [if_pos h]

/-- Every other frame ends the exchange in flight. -/
theorem State.receive_awaited {f : BusFrame} (h : f.early = false) (s : State) :
    s.receive f = s.endExchange (some f.bytes) := by
  unfold State.receive; rw [h]; rfl

/-! ### The end of an exchange (R95, R97) -/

/-- The exchange that ends is judged, and the next choice follows. -/
theorem State.endExchange_some {s : State} {x : InFlight} (h : s.scanner.inFlight = some x) (f : Option Frame) :
    s.endExchange f =
      ({ s.judgeExchange x f with
        scanner := { (s.judgeExchange x f).scanner with inFlight := none } } : State).chooseNext := by
  simp only [State.endExchange, h]

@[simp] theorem State.endExchange_none {s : State} (h : s.scanner.inFlight = none) (f : Option Frame) :
    s.endExchange f = s := by
  unfold State.endExchange; rw [h]

/-- With no exchange in flight a frame is discarded. -/
@[simp] theorem State.receive_idle {s : State} (h : s.scanner.inFlight = none) (f : BusFrame) : s.receive f = s := by
  cases e : f.early
  · rw [State.receive_awaited e, State.endExchange_none h]
  · exact State.receive_early e s

@[simp] theorem State.judgeExchange_discard {x : InFlight} (h : x.discard = true) (s : State) (f : Option Frame) :
    s.judgeExchange x f = s := by
  unfold State.judgeExchange; rw [if_pos h]

/-! ### Raises of a STATUS (R80) -/

@[simp] theorem State.raiseHeadIf_false (s : State) (h : HeadId) (k : Cause) : s.raiseHeadIf false h k = s := rfl

@[simp] theorem State.raiseHeadIf_true (s : State) (h : HeadId) (k : Cause) : s.raiseHeadIf true h k = s.raiseHead h k :=
  rfl

/-- A STATUS that finds no METER fault raises none, in either order. -/
theorem State.raiseMetered_none {m : Metered} (hl : m.liquidJump = false) (hs : m.syrupJump = false)
    (hk : m.leak = false) (s : State) (h : HeadId) : s.raiseMetered h m = s := by
  simp [State.raiseMetered, State.raiseJumps, hl, hs, hk]

/-! ### Samples (R144, R145) -/

/-- A sample that raises nothing changes its monitor and the SUPPLY condition alone. -/
theorem State.sample_quiet {s : State} {n : MonitorName} {v : Int} (h : ((s.monitor n).take v).2 = false) :
    s.sample n v = (s.setMonitor n ((s.monitor n).take v).1).supplyCondition := by
  simp [State.sample, h]

/-- A sample that raises does so with the monitor and the condition already marked. -/
theorem State.sample_raises {s : State} {n : MonitorName} {v : Int} (h : ((s.monitor n).take v).2 = true) :
    s.sample n v =
      ((s.setMonitor n ((s.monitor n).take v).1).supplyCondition).raisePart
        (supplyCause n (decide (v < ((s.monitor n).take v).1.low))) none none := by
  simp [State.sample, h]

/-! ### Resets (R161, R177) -/

/-- A part that is in reset already keeps everything. -/
@[simp] theorem State.beginReset_inReset {s : State} (h : s.inReset = true) (c : ResetCause) (cut : Option Nat) :
    s.beginReset c cut = s := by
  unfold State.beginReset; rw [if_pos h]

/-- A part that is held but not yet in reset cuts no frame. -/
theorem State.beginReset_held {s : State} (h : s.inReset = false) (hh : s.held = true) (c : ResetCause)
    (cut : Option Nat) : s.beginReset c cut = s.cleared c := by
  simp [State.beginReset, h, hh]

/-- The reject output of a held part is inactive. -/
@[simp] theorem State.rejectOutput_held {s : State} (h : s.held = true) : s.rejectOutput = false := by
  simp [State.rejectOutput, h]

end Sys2Proof.Machine
end

