-- ==== Sys2Proof/Laws/State.lean ====
section
/-! SUPPORT. What each plain update of State leaves unchanged and what it reads back: one lemma per field per update. -/

namespace Sys2Proof.Machine

@[simp] theorem State.setHead_pending (s : State) (h : HeadId) (c : Head) : (s.setHead h c).pending = s.pending := rfl
@[simp] theorem State.setHead_arbiter (s : State) (h : HeadId) (c : Head) : (s.setHead h c).arbiter = s.arbiter := rfl
@[simp] theorem State.setHead_resets (s : State) (h : HeadId) (c : Head) : (s.setHead h c).resets = s.resets := rfl
@[simp] theorem State.setHead_lineHeld (s : State) (h : HeadId) (c : Head) : (s.setHead h c).lineHeld = s.lineHeld := rfl
@[simp] theorem State.setHead_ring (s : State) (h : HeadId) (c : Head) : (s.setHead h c).ring = s.ring := rfl
@[simp] theorem State.setHead_tracker (s : State) (h : HeadId) (c : Head) : (s.setHead h c).tracker = s.tracker := rfl
@[simp] theorem State.setHead_zones (s : State) (h : HeadId) (c : Head) : (s.setHead h c).zones = s.zones := rfl
@[simp] theorem State.setHead_store (s : State) (h : HeadId) (c : Head) : (s.setHead h c).store = s.store := rfl
@[simp] theorem State.setHead_sequencer (s : State) (h : HeadId) (c : Head) : (s.setHead h c).sequencer = s.sequencer := rfl
@[simp] theorem State.setHead_meterUnit (s : State) (h : HeadId) (c : Head) : (s.setHead h c).meterUnit = s.meterUnit := rfl
@[simp] theorem State.setHead_scanner (s : State) (h : HeadId) (c : Head) : (s.setHead h c).scanner = s.scanner := rfl
@[simp] theorem State.setHead_discharge (s : State) (h : HeadId) (c : Head) : (s.setHead h c).discharge = s.discharge := rfl
@[simp] theorem State.setHead_faults (s : State) (h : HeadId) (c : Head) : (s.setHead h c).faults = s.faults := rfl
@[simp] theorem State.setHead_reports (s : State) (h : HeadId) (c : Head) : (s.setHead h c).reports = s.reports := rfl
@[simp] theorem State.setHead_management (s : State) (h : HeadId) (c : Head) : (s.setHead h c).management = s.management := rfl
@[simp] theorem State.setHead_ringOut (s : State) (h : HeadId) (c : Head) : (s.setHead h c).ringOut = s.ringOut := rfl
@[simp] theorem State.setHead_busOut (s : State) (h : HeadId) (c : Head) : (s.setHead h c).busOut = s.busOut := rfl

@[simp] theorem State.updHead_pending (s : State) (h : HeadId) (f : Head → Head) : (s.updHead h f).pending = s.pending := rfl
@[simp] theorem State.updHead_arbiter (s : State) (h : HeadId) (f : Head → Head) : (s.updHead h f).arbiter = s.arbiter := rfl
@[simp] theorem State.updHead_resets (s : State) (h : HeadId) (f : Head → Head) : (s.updHead h f).resets = s.resets := rfl
@[simp] theorem State.updHead_lineHeld (s : State) (h : HeadId) (f : Head → Head) : (s.updHead h f).lineHeld = s.lineHeld := rfl
@[simp] theorem State.updHead_ring (s : State) (h : HeadId) (f : Head → Head) : (s.updHead h f).ring = s.ring := rfl
@[simp] theorem State.updHead_tracker (s : State) (h : HeadId) (f : Head → Head) : (s.updHead h f).tracker = s.tracker := rfl
@[simp] theorem State.updHead_zones (s : State) (h : HeadId) (f : Head → Head) : (s.updHead h f).zones = s.zones := rfl
@[simp] theorem State.updHead_store (s : State) (h : HeadId) (f : Head → Head) : (s.updHead h f).store = s.store := rfl
@[simp] theorem State.updHead_sequencer (s : State) (h : HeadId) (f : Head → Head) : (s.updHead h f).sequencer = s.sequencer := rfl
@[simp] theorem State.updHead_meterUnit (s : State) (h : HeadId) (f : Head → Head) : (s.updHead h f).meterUnit = s.meterUnit := rfl
@[simp] theorem State.updHead_scanner (s : State) (h : HeadId) (f : Head → Head) : (s.updHead h f).scanner = s.scanner := rfl
@[simp] theorem State.updHead_discharge (s : State) (h : HeadId) (f : Head → Head) : (s.updHead h f).discharge = s.discharge := rfl
@[simp] theorem State.updHead_faults (s : State) (h : HeadId) (f : Head → Head) : (s.updHead h f).faults = s.faults := rfl
@[simp] theorem State.updHead_reports (s : State) (h : HeadId) (f : Head → Head) : (s.updHead h f).reports = s.reports := rfl
@[simp] theorem State.updHead_management (s : State) (h : HeadId) (f : Head → Head) : (s.updHead h f).management = s.management := rfl
@[simp] theorem State.updHead_ringOut (s : State) (h : HeadId) (f : Head → Head) : (s.updHead h f).ringOut = s.ringOut := rfl
@[simp] theorem State.updHead_busOut (s : State) (h : HeadId) (f : Head → Head) : (s.updHead h f).busOut = s.busOut := rfl

@[simp] theorem State.setSlot_pending (s : State) (j : SlotId) (t : Slot) : (s.setSlot j t).pending = s.pending := rfl
@[simp] theorem State.setSlot_arbiter (s : State) (j : SlotId) (t : Slot) : (s.setSlot j t).arbiter = s.arbiter := rfl
@[simp] theorem State.setSlot_resets (s : State) (j : SlotId) (t : Slot) : (s.setSlot j t).resets = s.resets := rfl
@[simp] theorem State.setSlot_lineHeld (s : State) (j : SlotId) (t : Slot) : (s.setSlot j t).lineHeld = s.lineHeld := rfl
@[simp] theorem State.setSlot_ring (s : State) (j : SlotId) (t : Slot) : (s.setSlot j t).ring = s.ring := rfl
@[simp] theorem State.setSlot_tracker (s : State) (j : SlotId) (t : Slot) : (s.setSlot j t).tracker = s.tracker := rfl
@[simp] theorem State.setSlot_zones (s : State) (j : SlotId) (t : Slot) : (s.setSlot j t).zones = s.zones := rfl
@[simp] theorem State.setSlot_sequencer (s : State) (j : SlotId) (t : Slot) : (s.setSlot j t).sequencer = s.sequencer := rfl
@[simp] theorem State.setSlot_meterUnit (s : State) (j : SlotId) (t : Slot) : (s.setSlot j t).meterUnit = s.meterUnit := rfl
@[simp] theorem State.setSlot_heads (s : State) (j : SlotId) (t : Slot) : (s.setSlot j t).heads = s.heads := rfl
@[simp] theorem State.setSlot_scanner (s : State) (j : SlotId) (t : Slot) : (s.setSlot j t).scanner = s.scanner := rfl
@[simp] theorem State.setSlot_discharge (s : State) (j : SlotId) (t : Slot) : (s.setSlot j t).discharge = s.discharge := rfl
@[simp] theorem State.setSlot_faults (s : State) (j : SlotId) (t : Slot) : (s.setSlot j t).faults = s.faults := rfl
@[simp] theorem State.setSlot_reports (s : State) (j : SlotId) (t : Slot) : (s.setSlot j t).reports = s.reports := rfl
@[simp] theorem State.setSlot_management (s : State) (j : SlotId) (t : Slot) : (s.setSlot j t).management = s.management := rfl
@[simp] theorem State.setSlot_ringOut (s : State) (j : SlotId) (t : Slot) : (s.setSlot j t).ringOut = s.ringOut := rfl
@[simp] theorem State.setSlot_busOut (s : State) (j : SlotId) (t : Slot) : (s.setSlot j t).busOut = s.busOut := rfl

@[simp] theorem State.updRecord_pending (s : State) (c : FaultClass) (f : ClassRecord → ClassRecord) : (s.updRecord c f).pending = s.pending := rfl
@[simp] theorem State.updRecord_arbiter (s : State) (c : FaultClass) (f : ClassRecord → ClassRecord) : (s.updRecord c f).arbiter = s.arbiter := rfl
@[simp] theorem State.updRecord_resets (s : State) (c : FaultClass) (f : ClassRecord → ClassRecord) : (s.updRecord c f).resets = s.resets := rfl
@[simp] theorem State.updRecord_lineHeld (s : State) (c : FaultClass) (f : ClassRecord → ClassRecord) : (s.updRecord c f).lineHeld = s.lineHeld := rfl
@[simp] theorem State.updRecord_ring (s : State) (c : FaultClass) (f : ClassRecord → ClassRecord) : (s.updRecord c f).ring = s.ring := rfl
@[simp] theorem State.updRecord_tracker (s : State) (c : FaultClass) (f : ClassRecord → ClassRecord) : (s.updRecord c f).tracker = s.tracker := rfl
@[simp] theorem State.updRecord_zones (s : State) (c : FaultClass) (f : ClassRecord → ClassRecord) : (s.updRecord c f).zones = s.zones := rfl
@[simp] theorem State.updRecord_store (s : State) (c : FaultClass) (f : ClassRecord → ClassRecord) : (s.updRecord c f).store = s.store := rfl
@[simp] theorem State.updRecord_sequencer (s : State) (c : FaultClass) (f : ClassRecord → ClassRecord) : (s.updRecord c f).sequencer = s.sequencer := rfl
@[simp] theorem State.updRecord_meterUnit (s : State) (c : FaultClass) (f : ClassRecord → ClassRecord) : (s.updRecord c f).meterUnit = s.meterUnit := rfl
@[simp] theorem State.updRecord_heads (s : State) (c : FaultClass) (f : ClassRecord → ClassRecord) : (s.updRecord c f).heads = s.heads := rfl
@[simp] theorem State.updRecord_scanner (s : State) (c : FaultClass) (f : ClassRecord → ClassRecord) : (s.updRecord c f).scanner = s.scanner := rfl
@[simp] theorem State.updRecord_discharge (s : State) (c : FaultClass) (f : ClassRecord → ClassRecord) : (s.updRecord c f).discharge = s.discharge := rfl
@[simp] theorem State.updRecord_reports (s : State) (c : FaultClass) (f : ClassRecord → ClassRecord) : (s.updRecord c f).reports = s.reports := rfl
@[simp] theorem State.updRecord_management (s : State) (c : FaultClass) (f : ClassRecord → ClassRecord) : (s.updRecord c f).management = s.management := rfl
@[simp] theorem State.updRecord_ringOut (s : State) (c : FaultClass) (f : ClassRecord → ClassRecord) : (s.updRecord c f).ringOut = s.ringOut := rfl
@[simp] theorem State.updRecord_busOut (s : State) (c : FaultClass) (f : ClassRecord → ClassRecord) : (s.updRecord c f).busOut = s.busOut := rfl

@[simp] theorem State.setCondition_pending (s : State) (c : FaultClass) (b : Bool) : (s.setCondition c b).pending = s.pending := rfl
@[simp] theorem State.setCondition_arbiter (s : State) (c : FaultClass) (b : Bool) : (s.setCondition c b).arbiter = s.arbiter := rfl
@[simp] theorem State.setCondition_resets (s : State) (c : FaultClass) (b : Bool) : (s.setCondition c b).resets = s.resets := rfl
@[simp] theorem State.setCondition_lineHeld (s : State) (c : FaultClass) (b : Bool) : (s.setCondition c b).lineHeld = s.lineHeld := rfl
@[simp] theorem State.setCondition_ring (s : State) (c : FaultClass) (b : Bool) : (s.setCondition c b).ring = s.ring := rfl
@[simp] theorem State.setCondition_tracker (s : State) (c : FaultClass) (b : Bool) : (s.setCondition c b).tracker = s.tracker := rfl
@[simp] theorem State.setCondition_zones (s : State) (c : FaultClass) (b : Bool) : (s.setCondition c b).zones = s.zones := rfl
@[simp] theorem State.setCondition_store (s : State) (c : FaultClass) (b : Bool) : (s.setCondition c b).store = s.store := rfl
@[simp] theorem State.setCondition_sequencer (s : State) (c : FaultClass) (b : Bool) : (s.setCondition c b).sequencer = s.sequencer := rfl
@[simp] theorem State.setCondition_meterUnit (s : State) (c : FaultClass) (b : Bool) : (s.setCondition c b).meterUnit = s.meterUnit := rfl
@[simp] theorem State.setCondition_heads (s : State) (c : FaultClass) (b : Bool) : (s.setCondition c b).heads = s.heads := rfl
@[simp] theorem State.setCondition_scanner (s : State) (c : FaultClass) (b : Bool) : (s.setCondition c b).scanner = s.scanner := rfl
@[simp] theorem State.setCondition_discharge (s : State) (c : FaultClass) (b : Bool) : (s.setCondition c b).discharge = s.discharge := rfl
@[simp] theorem State.setCondition_reports (s : State) (c : FaultClass) (b : Bool) : (s.setCondition c b).reports = s.reports := rfl
@[simp] theorem State.setCondition_management (s : State) (c : FaultClass) (b : Bool) : (s.setCondition c b).management = s.management := rfl
@[simp] theorem State.setCondition_ringOut (s : State) (c : FaultClass) (b : Bool) : (s.setCondition c b).ringOut = s.ringOut := rfl
@[simp] theorem State.setCondition_busOut (s : State) (c : FaultClass) (b : Bool) : (s.setCondition c b).busOut = s.busOut := rfl

@[simp] theorem State.setWatchdog_pending (s : State) (w : Watchdog) : (s.setWatchdog w).pending = s.pending := rfl
@[simp] theorem State.setWatchdog_arbiter (s : State) (w : Watchdog) : (s.setWatchdog w).arbiter = s.arbiter := rfl
@[simp] theorem State.setWatchdog_resets (s : State) (w : Watchdog) : (s.setWatchdog w).resets = s.resets := rfl
@[simp] theorem State.setWatchdog_lineHeld (s : State) (w : Watchdog) : (s.setWatchdog w).lineHeld = s.lineHeld := rfl
@[simp] theorem State.setWatchdog_ring (s : State) (w : Watchdog) : (s.setWatchdog w).ring = s.ring := rfl
@[simp] theorem State.setWatchdog_tracker (s : State) (w : Watchdog) : (s.setWatchdog w).tracker = s.tracker := rfl
@[simp] theorem State.setWatchdog_zones (s : State) (w : Watchdog) : (s.setWatchdog w).zones = s.zones := rfl
@[simp] theorem State.setWatchdog_store (s : State) (w : Watchdog) : (s.setWatchdog w).store = s.store := rfl
@[simp] theorem State.setWatchdog_sequencer (s : State) (w : Watchdog) : (s.setWatchdog w).sequencer = s.sequencer := rfl
@[simp] theorem State.setWatchdog_meterUnit (s : State) (w : Watchdog) : (s.setWatchdog w).meterUnit = s.meterUnit := rfl
@[simp] theorem State.setWatchdog_heads (s : State) (w : Watchdog) : (s.setWatchdog w).heads = s.heads := rfl
@[simp] theorem State.setWatchdog_scanner (s : State) (w : Watchdog) : (s.setWatchdog w).scanner = s.scanner := rfl
@[simp] theorem State.setWatchdog_discharge (s : State) (w : Watchdog) : (s.setWatchdog w).discharge = s.discharge := rfl
@[simp] theorem State.setWatchdog_reports (s : State) (w : Watchdog) : (s.setWatchdog w).reports = s.reports := rfl
@[simp] theorem State.setWatchdog_management (s : State) (w : Watchdog) : (s.setWatchdog w).management = s.management := rfl
@[simp] theorem State.setWatchdog_ringOut (s : State) (w : Watchdog) : (s.setWatchdog w).ringOut = s.ringOut := rfl
@[simp] theorem State.setWatchdog_busOut (s : State) (w : Watchdog) : (s.setWatchdog w).busOut = s.busOut := rfl

@[simp] theorem State.setTracker_pending (s : State) (t : Tracker) : (s.setTracker t).pending = s.pending := rfl
@[simp] theorem State.setTracker_arbiter (s : State) (t : Tracker) : (s.setTracker t).arbiter = s.arbiter := rfl
@[simp] theorem State.setTracker_resets (s : State) (t : Tracker) : (s.setTracker t).resets = s.resets := rfl
@[simp] theorem State.setTracker_lineHeld (s : State) (t : Tracker) : (s.setTracker t).lineHeld = s.lineHeld := rfl
@[simp] theorem State.setTracker_ring (s : State) (t : Tracker) : (s.setTracker t).ring = s.ring := rfl
@[simp] theorem State.setTracker_zones (s : State) (t : Tracker) : (s.setTracker t).zones = s.zones := rfl
@[simp] theorem State.setTracker_store (s : State) (t : Tracker) : (s.setTracker t).store = s.store := rfl
@[simp] theorem State.setTracker_sequencer (s : State) (t : Tracker) : (s.setTracker t).sequencer = s.sequencer := rfl
@[simp] theorem State.setTracker_meterUnit (s : State) (t : Tracker) : (s.setTracker t).meterUnit = s.meterUnit := rfl
@[simp] theorem State.setTracker_heads (s : State) (t : Tracker) : (s.setTracker t).heads = s.heads := rfl
@[simp] theorem State.setTracker_scanner (s : State) (t : Tracker) : (s.setTracker t).scanner = s.scanner := rfl
@[simp] theorem State.setTracker_discharge (s : State) (t : Tracker) : (s.setTracker t).discharge = s.discharge := rfl
@[simp] theorem State.setTracker_faults (s : State) (t : Tracker) : (s.setTracker t).faults = s.faults := rfl
@[simp] theorem State.setTracker_reports (s : State) (t : Tracker) : (s.setTracker t).reports = s.reports := rfl
@[simp] theorem State.setTracker_management (s : State) (t : Tracker) : (s.setTracker t).management = s.management := rfl
@[simp] theorem State.setTracker_ringOut (s : State) (t : Tracker) : (s.setTracker t).ringOut = s.ringOut := rfl
@[simp] theorem State.setTracker_busOut (s : State) (t : Tracker) : (s.setTracker t).busOut = s.busOut := rfl

@[simp] theorem State.setPos_pending (s : State) (p : Pos) : (s.setPos p).pending = s.pending := rfl
@[simp] theorem State.setPos_arbiter (s : State) (p : Pos) : (s.setPos p).arbiter = s.arbiter := rfl
@[simp] theorem State.setPos_resets (s : State) (p : Pos) : (s.setPos p).resets = s.resets := rfl
@[simp] theorem State.setPos_lineHeld (s : State) (p : Pos) : (s.setPos p).lineHeld = s.lineHeld := rfl
@[simp] theorem State.setPos_ring (s : State) (p : Pos) : (s.setPos p).ring = s.ring := rfl
@[simp] theorem State.setPos_zones (s : State) (p : Pos) : (s.setPos p).zones = s.zones := rfl
@[simp] theorem State.setPos_store (s : State) (p : Pos) : (s.setPos p).store = s.store := rfl
@[simp] theorem State.setPos_sequencer (s : State) (p : Pos) : (s.setPos p).sequencer = s.sequencer := rfl
@[simp] theorem State.setPos_meterUnit (s : State) (p : Pos) : (s.setPos p).meterUnit = s.meterUnit := rfl
@[simp] theorem State.setPos_heads (s : State) (p : Pos) : (s.setPos p).heads = s.heads := rfl
@[simp] theorem State.setPos_scanner (s : State) (p : Pos) : (s.setPos p).scanner = s.scanner := rfl
@[simp] theorem State.setPos_discharge (s : State) (p : Pos) : (s.setPos p).discharge = s.discharge := rfl
@[simp] theorem State.setPos_faults (s : State) (p : Pos) : (s.setPos p).faults = s.faults := rfl
@[simp] theorem State.setPos_reports (s : State) (p : Pos) : (s.setPos p).reports = s.reports := rfl
@[simp] theorem State.setPos_management (s : State) (p : Pos) : (s.setPos p).management = s.management := rfl
@[simp] theorem State.setPos_ringOut (s : State) (p : Pos) : (s.setPos p).ringOut = s.ringOut := rfl
@[simp] theorem State.setPos_busOut (s : State) (p : Pos) : (s.setPos p).busOut = s.busOut := rfl

@[simp] theorem State.setZone_pending (s : State) (i : Fin 8) (r : ZoneRow) : (s.setZone i r).pending = s.pending := rfl
@[simp] theorem State.setZone_arbiter (s : State) (i : Fin 8) (r : ZoneRow) : (s.setZone i r).arbiter = s.arbiter := rfl
@[simp] theorem State.setZone_resets (s : State) (i : Fin 8) (r : ZoneRow) : (s.setZone i r).resets = s.resets := rfl
@[simp] theorem State.setZone_lineHeld (s : State) (i : Fin 8) (r : ZoneRow) : (s.setZone i r).lineHeld = s.lineHeld := rfl
@[simp] theorem State.setZone_ring (s : State) (i : Fin 8) (r : ZoneRow) : (s.setZone i r).ring = s.ring := rfl
@[simp] theorem State.setZone_tracker (s : State) (i : Fin 8) (r : ZoneRow) : (s.setZone i r).tracker = s.tracker := rfl
@[simp] theorem State.setZone_store (s : State) (i : Fin 8) (r : ZoneRow) : (s.setZone i r).store = s.store := rfl
@[simp] theorem State.setZone_sequencer (s : State) (i : Fin 8) (r : ZoneRow) : (s.setZone i r).sequencer = s.sequencer := rfl
@[simp] theorem State.setZone_meterUnit (s : State) (i : Fin 8) (r : ZoneRow) : (s.setZone i r).meterUnit = s.meterUnit := rfl
@[simp] theorem State.setZone_heads (s : State) (i : Fin 8) (r : ZoneRow) : (s.setZone i r).heads = s.heads := rfl
@[simp] theorem State.setZone_scanner (s : State) (i : Fin 8) (r : ZoneRow) : (s.setZone i r).scanner = s.scanner := rfl
@[simp] theorem State.setZone_discharge (s : State) (i : Fin 8) (r : ZoneRow) : (s.setZone i r).discharge = s.discharge := rfl
@[simp] theorem State.setZone_faults (s : State) (i : Fin 8) (r : ZoneRow) : (s.setZone i r).faults = s.faults := rfl
@[simp] theorem State.setZone_reports (s : State) (i : Fin 8) (r : ZoneRow) : (s.setZone i r).reports = s.reports := rfl
@[simp] theorem State.setZone_management (s : State) (i : Fin 8) (r : ZoneRow) : (s.setZone i r).management = s.management := rfl
@[simp] theorem State.setZone_ringOut (s : State) (i : Fin 8) (r : ZoneRow) : (s.setZone i r).ringOut = s.ringOut := rfl
@[simp] theorem State.setZone_busOut (s : State) (i : Fin 8) (r : ZoneRow) : (s.setZone i r).busOut = s.busOut := rfl

@[simp] theorem State.markInFlight_pending (s : State) (h : HeadId) (f : InFlight → InFlight) : (s.markInFlight h f).pending = s.pending := rfl
@[simp] theorem State.markInFlight_arbiter (s : State) (h : HeadId) (f : InFlight → InFlight) : (s.markInFlight h f).arbiter = s.arbiter := rfl
@[simp] theorem State.markInFlight_resets (s : State) (h : HeadId) (f : InFlight → InFlight) : (s.markInFlight h f).resets = s.resets := rfl
@[simp] theorem State.markInFlight_lineHeld (s : State) (h : HeadId) (f : InFlight → InFlight) : (s.markInFlight h f).lineHeld = s.lineHeld := rfl
@[simp] theorem State.markInFlight_ring (s : State) (h : HeadId) (f : InFlight → InFlight) : (s.markInFlight h f).ring = s.ring := rfl
@[simp] theorem State.markInFlight_tracker (s : State) (h : HeadId) (f : InFlight → InFlight) : (s.markInFlight h f).tracker = s.tracker := rfl
@[simp] theorem State.markInFlight_zones (s : State) (h : HeadId) (f : InFlight → InFlight) : (s.markInFlight h f).zones = s.zones := rfl
@[simp] theorem State.markInFlight_store (s : State) (h : HeadId) (f : InFlight → InFlight) : (s.markInFlight h f).store = s.store := rfl
@[simp] theorem State.markInFlight_sequencer (s : State) (h : HeadId) (f : InFlight → InFlight) : (s.markInFlight h f).sequencer = s.sequencer := rfl
@[simp] theorem State.markInFlight_meterUnit (s : State) (h : HeadId) (f : InFlight → InFlight) : (s.markInFlight h f).meterUnit = s.meterUnit := rfl
@[simp] theorem State.markInFlight_heads (s : State) (h : HeadId) (f : InFlight → InFlight) : (s.markInFlight h f).heads = s.heads := rfl
@[simp] theorem State.markInFlight_discharge (s : State) (h : HeadId) (f : InFlight → InFlight) : (s.markInFlight h f).discharge = s.discharge := rfl
@[simp] theorem State.markInFlight_faults (s : State) (h : HeadId) (f : InFlight → InFlight) : (s.markInFlight h f).faults = s.faults := rfl
@[simp] theorem State.markInFlight_reports (s : State) (h : HeadId) (f : InFlight → InFlight) : (s.markInFlight h f).reports = s.reports := rfl
@[simp] theorem State.markInFlight_management (s : State) (h : HeadId) (f : InFlight → InFlight) : (s.markInFlight h f).management = s.management := rfl
@[simp] theorem State.markInFlight_ringOut (s : State) (h : HeadId) (f : InFlight → InFlight) : (s.markInFlight h f).ringOut = s.ringOut := rfl
@[simp] theorem State.markInFlight_busOut (s : State) (h : HeadId) (f : InFlight → InFlight) : (s.markInFlight h f).busOut = s.busOut := rfl

@[simp] theorem State.report_pending (s : State) (b : ReportBody) : (s.report b).pending = s.pending := rfl
@[simp] theorem State.report_arbiter (s : State) (b : ReportBody) : (s.report b).arbiter = s.arbiter := rfl
@[simp] theorem State.report_resets (s : State) (b : ReportBody) : (s.report b).resets = s.resets := rfl
@[simp] theorem State.report_lineHeld (s : State) (b : ReportBody) : (s.report b).lineHeld = s.lineHeld := rfl
@[simp] theorem State.report_ring (s : State) (b : ReportBody) : (s.report b).ring = s.ring := rfl
@[simp] theorem State.report_tracker (s : State) (b : ReportBody) : (s.report b).tracker = s.tracker := rfl
@[simp] theorem State.report_zones (s : State) (b : ReportBody) : (s.report b).zones = s.zones := rfl
@[simp] theorem State.report_store (s : State) (b : ReportBody) : (s.report b).store = s.store := rfl
@[simp] theorem State.report_sequencer (s : State) (b : ReportBody) : (s.report b).sequencer = s.sequencer := rfl
@[simp] theorem State.report_meterUnit (s : State) (b : ReportBody) : (s.report b).meterUnit = s.meterUnit := rfl
@[simp] theorem State.report_heads (s : State) (b : ReportBody) : (s.report b).heads = s.heads := rfl
@[simp] theorem State.report_scanner (s : State) (b : ReportBody) : (s.report b).scanner = s.scanner := rfl
@[simp] theorem State.report_discharge (s : State) (b : ReportBody) : (s.report b).discharge = s.discharge := rfl
@[simp] theorem State.report_faults (s : State) (b : ReportBody) : (s.report b).faults = s.faults := rfl
@[simp] theorem State.report_management (s : State) (b : ReportBody) : (s.report b).management = s.management := rfl
@[simp] theorem State.report_ringOut (s : State) (b : ReportBody) : (s.report b).ringOut = s.ringOut := rfl
@[simp] theorem State.report_busOut (s : State) (b : ReportBody) : (s.report b).busOut = s.busOut := rfl

@[simp] theorem State.sendRing_pending (s : State) (f : Frame) : (s.sendRing f).pending = s.pending := rfl
@[simp] theorem State.sendRing_arbiter (s : State) (f : Frame) : (s.sendRing f).arbiter = s.arbiter := rfl
@[simp] theorem State.sendRing_resets (s : State) (f : Frame) : (s.sendRing f).resets = s.resets := rfl
@[simp] theorem State.sendRing_lineHeld (s : State) (f : Frame) : (s.sendRing f).lineHeld = s.lineHeld := rfl
@[simp] theorem State.sendRing_ring (s : State) (f : Frame) : (s.sendRing f).ring = s.ring := rfl
@[simp] theorem State.sendRing_tracker (s : State) (f : Frame) : (s.sendRing f).tracker = s.tracker := rfl
@[simp] theorem State.sendRing_zones (s : State) (f : Frame) : (s.sendRing f).zones = s.zones := rfl
@[simp] theorem State.sendRing_store (s : State) (f : Frame) : (s.sendRing f).store = s.store := rfl
@[simp] theorem State.sendRing_sequencer (s : State) (f : Frame) : (s.sendRing f).sequencer = s.sequencer := rfl
@[simp] theorem State.sendRing_meterUnit (s : State) (f : Frame) : (s.sendRing f).meterUnit = s.meterUnit := rfl
@[simp] theorem State.sendRing_heads (s : State) (f : Frame) : (s.sendRing f).heads = s.heads := rfl
@[simp] theorem State.sendRing_scanner (s : State) (f : Frame) : (s.sendRing f).scanner = s.scanner := rfl
@[simp] theorem State.sendRing_discharge (s : State) (f : Frame) : (s.sendRing f).discharge = s.discharge := rfl
@[simp] theorem State.sendRing_faults (s : State) (f : Frame) : (s.sendRing f).faults = s.faults := rfl
@[simp] theorem State.sendRing_reports (s : State) (f : Frame) : (s.sendRing f).reports = s.reports := rfl
@[simp] theorem State.sendRing_management (s : State) (f : Frame) : (s.sendRing f).management = s.management := rfl
@[simp] theorem State.sendRing_busOut (s : State) (f : Frame) : (s.sendRing f).busOut = s.busOut := rfl

@[simp] theorem State.goodFrame_pending (s : State) : (s.goodFrame).pending = s.pending := rfl
@[simp] theorem State.goodFrame_arbiter (s : State) : (s.goodFrame).arbiter = s.arbiter := rfl
@[simp] theorem State.goodFrame_resets (s : State) : (s.goodFrame).resets = s.resets := rfl
@[simp] theorem State.goodFrame_lineHeld (s : State) : (s.goodFrame).lineHeld = s.lineHeld := rfl
@[simp] theorem State.goodFrame_tracker (s : State) : (s.goodFrame).tracker = s.tracker := rfl
@[simp] theorem State.goodFrame_zones (s : State) : (s.goodFrame).zones = s.zones := rfl
@[simp] theorem State.goodFrame_store (s : State) : (s.goodFrame).store = s.store := rfl
@[simp] theorem State.goodFrame_sequencer (s : State) : (s.goodFrame).sequencer = s.sequencer := rfl
@[simp] theorem State.goodFrame_meterUnit (s : State) : (s.goodFrame).meterUnit = s.meterUnit := rfl
@[simp] theorem State.goodFrame_heads (s : State) : (s.goodFrame).heads = s.heads := rfl
@[simp] theorem State.goodFrame_scanner (s : State) : (s.goodFrame).scanner = s.scanner := rfl
@[simp] theorem State.goodFrame_discharge (s : State) : (s.goodFrame).discharge = s.discharge := rfl
@[simp] theorem State.goodFrame_faults (s : State) : (s.goodFrame).faults = s.faults := rfl
@[simp] theorem State.goodFrame_reports (s : State) : (s.goodFrame).reports = s.reports := rfl
@[simp] theorem State.goodFrame_management (s : State) : (s.goodFrame).management = s.management := rfl
@[simp] theorem State.goodFrame_ringOut (s : State) : (s.goodFrame).ringOut = s.ringOut := rfl
@[simp] theorem State.goodFrame_busOut (s : State) : (s.goodFrame).busOut = s.busOut := rfl

@[simp] theorem State.setMonitor_pending (s : State) (n : MonitorName) (m : Monitor) : (s.setMonitor n m).pending = s.pending := by
  cases n <;> rfl
@[simp] theorem State.setMonitor_arbiter (s : State) (n : MonitorName) (m : Monitor) : (s.setMonitor n m).arbiter = s.arbiter := by
  cases n <;> rfl
@[simp] theorem State.setMonitor_resets (s : State) (n : MonitorName) (m : Monitor) : (s.setMonitor n m).resets = s.resets := by
  cases n <;> rfl
@[simp] theorem State.setMonitor_lineHeld (s : State) (n : MonitorName) (m : Monitor) : (s.setMonitor n m).lineHeld = s.lineHeld := by
  cases n <;> rfl
@[simp] theorem State.setMonitor_ring (s : State) (n : MonitorName) (m : Monitor) : (s.setMonitor n m).ring = s.ring := by
  cases n <;> rfl
@[simp] theorem State.setMonitor_tracker (s : State) (n : MonitorName) (m : Monitor) : (s.setMonitor n m).tracker = s.tracker := by
  cases n <;> rfl
@[simp] theorem State.setMonitor_zones (s : State) (n : MonitorName) (m : Monitor) : (s.setMonitor n m).zones = s.zones := by
  cases n <;> rfl
@[simp] theorem State.setMonitor_store (s : State) (n : MonitorName) (m : Monitor) : (s.setMonitor n m).store = s.store := by
  cases n <;> rfl
@[simp] theorem State.setMonitor_sequencer (s : State) (n : MonitorName) (m : Monitor) : (s.setMonitor n m).sequencer = s.sequencer := by
  cases n <;> rfl
@[simp] theorem State.setMonitor_meterUnit (s : State) (n : MonitorName) (m : Monitor) : (s.setMonitor n m).meterUnit = s.meterUnit := by
  cases n <;> rfl
@[simp] theorem State.setMonitor_heads (s : State) (n : MonitorName) (m : Monitor) : (s.setMonitor n m).heads = s.heads := by
  cases n <;> rfl
@[simp] theorem State.setMonitor_scanner (s : State) (n : MonitorName) (m : Monitor) : (s.setMonitor n m).scanner = s.scanner := by
  cases n <;> rfl
@[simp] theorem State.setMonitor_discharge (s : State) (n : MonitorName) (m : Monitor) : (s.setMonitor n m).discharge = s.discharge := by
  cases n <;> rfl
@[simp] theorem State.setMonitor_reports (s : State) (n : MonitorName) (m : Monitor) : (s.setMonitor n m).reports = s.reports := by
  cases n <;> rfl
@[simp] theorem State.setMonitor_management (s : State) (n : MonitorName) (m : Monitor) : (s.setMonitor n m).management = s.management := by
  cases n <;> rfl
@[simp] theorem State.setMonitor_ringOut (s : State) (n : MonitorName) (m : Monitor) : (s.setMonitor n m).ringOut = s.ringOut := by
  cases n <;> rfl
@[simp] theorem State.setMonitor_busOut (s : State) (n : MonitorName) (m : Monitor) : (s.setMonitor n m).busOut = s.busOut := by
  cases n <;> rfl

/-! ### Parts of the Fault Unit -/

@[simp] theorem State.updRecord_faults_mode (s : State) (c : FaultClass) (f : ClassRecord → ClassRecord) : (s.updRecord c f).faults.mode = s.faults.mode := rfl
@[simp] theorem State.updRecord_faults_lockoutLimit (s : State) (c : FaultClass) (f : ClassRecord → ClassRecord) : (s.updRecord c f).faults.lockoutLimit = s.faults.lockoutLimit := rfl
@[simp] theorem State.updRecord_faults_pressure (s : State) (c : FaultClass) (f : ClassRecord → ClassRecord) : (s.updRecord c f).faults.pressure = s.faults.pressure := rfl
@[simp] theorem State.updRecord_faults_temperature (s : State) (c : FaultClass) (f : ClassRecord → ClassRecord) : (s.updRecord c f).faults.temperature = s.faults.temperature := rfl
@[simp] theorem State.updRecord_faults_watchdog (s : State) (c : FaultClass) (f : ClassRecord → ClassRecord) : (s.updRecord c f).faults.watchdog = s.faults.watchdog := rfl
@[simp] theorem State.updRecord_faults_snapshots (s : State) (c : FaultClass) (f : ClassRecord → ClassRecord) : (s.updRecord c f).faults.snapshots = s.faults.snapshots := rfl
@[simp] theorem State.updRecord_faults_overflow (s : State) (c : FaultClass) (f : ClassRecord → ClassRecord) : (s.updRecord c f).faults.overflow = s.faults.overflow := rfl
@[simp] theorem State.setCondition_faults_mode (s : State) (c : FaultClass) (b : Bool) : (s.setCondition c b).faults.mode = s.faults.mode := rfl
@[simp] theorem State.setCondition_faults_lockoutLimit (s : State) (c : FaultClass) (b : Bool) : (s.setCondition c b).faults.lockoutLimit = s.faults.lockoutLimit := rfl
@[simp] theorem State.setCondition_faults_pressure (s : State) (c : FaultClass) (b : Bool) : (s.setCondition c b).faults.pressure = s.faults.pressure := rfl
@[simp] theorem State.setCondition_faults_temperature (s : State) (c : FaultClass) (b : Bool) : (s.setCondition c b).faults.temperature = s.faults.temperature := rfl
@[simp] theorem State.setCondition_faults_watchdog (s : State) (c : FaultClass) (b : Bool) : (s.setCondition c b).faults.watchdog = s.faults.watchdog := rfl
@[simp] theorem State.setCondition_faults_snapshots (s : State) (c : FaultClass) (b : Bool) : (s.setCondition c b).faults.snapshots = s.faults.snapshots := rfl
@[simp] theorem State.setCondition_faults_overflow (s : State) (c : FaultClass) (b : Bool) : (s.setCondition c b).faults.overflow = s.faults.overflow := rfl
@[simp] theorem State.setWatchdog_faults_mode (s : State) (w : Watchdog) : (s.setWatchdog w).faults.mode = s.faults.mode := rfl
@[simp] theorem State.setWatchdog_faults_lockoutLimit (s : State) (w : Watchdog) : (s.setWatchdog w).faults.lockoutLimit = s.faults.lockoutLimit := rfl
@[simp] theorem State.setWatchdog_faults_pressure (s : State) (w : Watchdog) : (s.setWatchdog w).faults.pressure = s.faults.pressure := rfl
@[simp] theorem State.setWatchdog_faults_temperature (s : State) (w : Watchdog) : (s.setWatchdog w).faults.temperature = s.faults.temperature := rfl
@[simp] theorem State.setWatchdog_faults_snapshots (s : State) (w : Watchdog) : (s.setWatchdog w).faults.snapshots = s.faults.snapshots := rfl
@[simp] theorem State.setWatchdog_faults_overflow (s : State) (w : Watchdog) : (s.setWatchdog w).faults.overflow = s.faults.overflow := rfl
@[simp] theorem State.setWatchdog_faults_records (s : State) (w : Watchdog) : (s.setWatchdog w).faults.records = s.faults.records := rfl
@[simp] theorem State.setWatchdog_faults_watchdog (s : State) (w : Watchdog) : (s.setWatchdog w).faults.watchdog = w := rfl
@[simp] theorem State.setMonitor_faults_mode (s : State) (n : MonitorName) (m : Monitor) : (s.setMonitor n m).faults.mode = s.faults.mode := by
  cases n <;> rfl
@[simp] theorem State.setMonitor_faults_lockoutLimit (s : State) (n : MonitorName) (m : Monitor) : (s.setMonitor n m).faults.lockoutLimit = s.faults.lockoutLimit := by
  cases n <;> rfl
@[simp] theorem State.setMonitor_faults_watchdog (s : State) (n : MonitorName) (m : Monitor) : (s.setMonitor n m).faults.watchdog = s.faults.watchdog := by
  cases n <;> rfl
@[simp] theorem State.setMonitor_faults_snapshots (s : State) (n : MonitorName) (m : Monitor) : (s.setMonitor n m).faults.snapshots = s.faults.snapshots := by
  cases n <;> rfl
@[simp] theorem State.setMonitor_faults_overflow (s : State) (n : MonitorName) (m : Monitor) : (s.setMonitor n m).faults.overflow = s.faults.overflow := by
  cases n <;> rfl
@[simp] theorem State.setMonitor_faults_records (s : State) (n : MonitorName) (m : Monitor) : (s.setMonitor n m).faults.records = s.faults.records := by
  cases n <;> rfl

/-! ### Parts of the scanner, the store and the report queue -/

@[simp] theorem State.markInFlight_scanner_scanPos (s : State) (h : HeadId) (f : InFlight → InFlight) : (s.markInFlight h f).scanner.scanPos = s.scanner.scanPos := rfl
@[simp] theorem State.markInFlight_scanner_urgent (s : State) (h : HeadId) (f : InFlight → InFlight) : (s.markInFlight h f).scanner.urgent = s.scanner.urgent := rfl
@[simp] theorem State.markInFlight_scanner_replyTimeout (s : State) (h : HeadId) (f : InFlight → InFlight) : (s.markInFlight h f).scanner.replyTimeout = s.scanner.replyTimeout := rfl
@[simp] theorem State.markInFlight_scanner_missLimit (s : State) (h : HeadId) (f : InFlight → InFlight) : (s.markInFlight h f).scanner.missLimit = s.scanner.missLimit := rfl
@[simp] theorem State.markInFlight_scanner_confirmWindow (s : State) (h : HeadId) (f : InFlight → InFlight) : (s.markInFlight h f).scanner.confirmWindow = s.scanner.confirmWindow := rfl
@[simp] theorem State.setSlot_store_verifier (s : State) (j : SlotId) (t : Slot) : (s.setSlot j t).store.verifier = s.store.verifier := rfl

/-! ### What an update reads back -/

@[simp] theorem State.head_setHead (s : State) (h : HeadId) (c : Head) : (s.setHead h c).head h = c := by
  simp [State.head, State.setHead]

theorem State.head_setHead_ne (s : State) {g h : HeadId} (c : Head) (hne : g ≠ h) :
    (s.setHead h c).head g = s.head g := by
  have : h.val ≠ g.val := fun e => hne (Fin.ext e.symm)
  simp [State.head, State.setHead, Vector.getElem_set_ne, this]

theorem State.head_setHead_eq (s : State) (g h : HeadId) (c : Head) :
    (s.setHead h c).head g = if g = h then c else s.head g := by
  split
  · next e => subst e; simp
  · next e => exact State.head_setHead_ne s c e

@[simp] theorem State.head_updHead (s : State) (h : HeadId) (f : Head → Head) :
    (s.updHead h f).head h = f (s.head h) := by
  simp [State.updHead]

theorem State.head_updHead_ne (s : State) {g h : HeadId} (f : Head → Head) (hne : g ≠ h) :
    (s.updHead h f).head g = s.head g := State.head_setHead_ne s _ hne

theorem State.head_updHead_eq (s : State) (g h : HeadId) (f : Head → Head) :
    (s.updHead h f).head g = if g = h then f (s.head g) else s.head g := by
  unfold State.updHead
  rw [State.head_setHead_eq]
  split
  · next e => subst e; rfl
  · rfl

@[simp] theorem State.slot_setSlot (s : State) (j : SlotId) (t : Slot) : (s.setSlot j t).slot j = t := by
  simp [State.slot, State.setSlot]

theorem State.slot_setSlot_eq (s : State) (i j : SlotId) (t : Slot) :
    (s.setSlot j t).slot i = if i = j then t else s.slot i := by
  split
  · next e => subst e; simp
  · next e =>
    have : j.val ≠ i.val := fun h => e (Fin.ext h.symm)
    simp [State.slot, State.setSlot, Vector.getElem_set_ne, this]

@[simp] theorem State.record_updRecord (s : State) (c : FaultClass) (f : ClassRecord → ClassRecord) :
    (s.updRecord c f).record c = f (s.record c) := by
  simp [State.record, State.updRecord]

/-- The row of a class names the class. -/
theorem FaultClass.row_inj {a b : FaultClass} (h : a.row = b.row) : a = b := by
  revert h
  cases a <;> cases b <;> decide

theorem State.record_updRecord_eq (s : State) (a c : FaultClass) (f : ClassRecord → ClassRecord) :
    (s.updRecord c f).record a = if a = c then f (s.record a) else s.record a := by
  split
  · next e => subst e; simp
  · next e =>
    have : c.row.val ≠ a.row.val := fun h => e (FaultClass.row_inj (Fin.ext h.symm))
    simp [State.record, State.updRecord, Vector.getElem_set_ne, this]

@[simp] theorem State.record_setCondition (s : State) (c : FaultClass) (b : Bool) :
    (s.setCondition c b).record c = { s.record c with condition := b } := by
  simp [State.setCondition]

@[simp] theorem State.record_setWatchdog (s : State) (w : Watchdog) (c : FaultClass) :
    (s.setWatchdog w).record c = s.record c := rfl

@[simp] theorem State.monitor_setMonitor (s : State) (n : MonitorName) (m : Monitor) :
    (s.setMonitor n m).monitor n = m := by
  cases n <;> rfl

/-- Reading heads, slots, records and stations depends on their own fields alone. -/
theorem State.head_congr {s t : State} (h : s.heads = t.heads) (x : HeadId) : s.head x = t.head x := by
  simp [State.head, h]

theorem State.slot_congr {s t : State} (h : s.store = t.store) (j : SlotId) : s.slot j = t.slot j := by
  simp [State.slot, h]

theorem State.record_congr {s t : State} (h : s.faults.records = t.faults.records) (c : FaultClass) :
    s.record c = t.record c := by
  simp [State.record, h]

/-- Two head tables that agree at every head are equal. -/
theorem State.heads_ext {s t : State} (h : ∀ x, s.head x = t.head x) : s.heads = t.heads := by
  apply Vector.ext
  intro i hi
  exact h ⟨i, hi⟩

end Sys2Proof.Machine
end

