-- ==== Sys2Proof/Laws/Heads.lean ====
section
/-! SUPPORT. What the state changes of a head do to it, to the other heads and to the blocks beside the sequencer. -/

namespace Sys2Proof.Machine

/-- A head context without the Scanner's fields, which a post may change on any head. -/
def Head.butScan (c : Head) : Head := { c with scan := .blank }

@[simp] theorem Head.butScan_scan (c : Head) (r : ScanRecord) : ({ c with scan := r } : Head).butScan = c.butScan := rfl

/-- Every field but the Scanner's is read from the context without them. -/
theorem Head.field_eq_of_butScan {α : Type} (f : Head → α) (hf : ∀ c : Head, f c.butScan = f c) {c d : Head}
    (h : c.butScan = d.butScan) : f c = f d := by
  rw [← hf c, h, hf d]

theorem Head.sent_butScan (c : Head) (n : Nat) : (c.sent n).butScan = c.butScan := rfl

/-! ### The pending record (R59) -/

@[simp] theorem Head.withRecord_state (c : Head) (v : Verdict) (k : Option SkipReason) (p : Option Pin) :
    (c.withRecord v k p).state = c.state := by unfold Head.withRecord; split <;> rfl
@[simp] theorem Head.withRecord_level (c : Head) (v : Verdict) (k : Option SkipReason) (p : Option Pin) :
    (c.withRecord v k p).level = c.level := by unfold Head.withRecord; split <;> rfl
@[simp] theorem Head.withRecord_pin (c : Head) (v : Verdict) (k : Option SkipReason) (p : Option Pin) :
    (c.withRecord v k p).pin = c.pin := by unfold Head.withRecord; split <;> rfl
@[simp] theorem Head.withRecord_valves (c : Head) (v : Verdict) (k : Option SkipReason) (p : Option Pin) :
    (c.withRecord v k p).valves = c.valves := by unfold Head.withRecord; split <;> rfl
@[simp] theorem Head.withRecord_arm (c : Head) (v : Verdict) (k : Option SkipReason) (p : Option Pin) :
    (c.withRecord v k p).arm = c.arm := by unfold Head.withRecord; split <;> rfl
@[simp] theorem Head.withRecord_phase (c : Head) (v : Verdict) (k : Option SkipReason) (p : Option Pin) :
    (c.withRecord v k p).phase = c.phase := by unfold Head.withRecord; split <;> rfl
@[simp] theorem Head.withRecord_clean (c : Head) (v : Verdict) (k : Option SkipReason) (p : Option Pin) :
    (c.withRecord v k p).clean = c.clean := by unfold Head.withRecord; split <;> rfl
@[simp] theorem Head.withRecord_hold (c : Head) (v : Verdict) (k : Option SkipReason) (p : Option Pin) :
    (c.withRecord v k p).hold = c.hold := by unfold Head.withRecord; split <;> rfl
@[simp] theorem Head.withRecord_withdraw (c : Head) (v : Verdict) (k : Option SkipReason) (p : Option Pin) :
    (c.withRecord v k p).withdraw = c.withdraw := by unfold Head.withRecord; split <;> rfl
@[simp] theorem Head.withRecord_ventTimer (c : Head) (v : Verdict) (k : Option SkipReason) (p : Option Pin) :
    (c.withRecord v k p).ventTimer = c.ventTimer := by unfold Head.withRecord; split <;> rfl
@[simp] theorem Head.withRecord_segIndex (c : Head) (v : Verdict) (k : Option SkipReason) (p : Option Pin) :
    (c.withRecord v k p).segIndex = c.segIndex := by unfold Head.withRecord; split <;> rfl
@[simp] theorem Head.withRecord_lastFault (c : Head) (v : Verdict) (k : Option SkipReason) (p : Option Pin) :
    (c.withRecord v k p).lastFault = c.lastFault := by unfold Head.withRecord; split <;> rfl
@[simp] theorem Head.withRecord_overrun (c : Head) (v : Verdict) (k : Option SkipReason) (p : Option Pin) :
    (c.withRecord v k p).overrun = c.overrun := by unfold Head.withRecord; split <;> rfl
@[simp] theorem Head.withRecord_lastObs (c : Head) (v : Verdict) (k : Option SkipReason) (p : Option Pin) :
    (c.withRecord v k p).lastObs = c.lastObs := by unfold Head.withRecord; split <;> rfl

/-- A new record holds the verdict, the skip reason and the pin it is given, and the cycle's other fields as they
stand. -/
theorem Head.withRecord_new {c : Head} (h : c.record = none) (v : Verdict) (k : Option SkipReason) (p : Option Pin) :
    (c.withRecord v k p).record =
      some
        { verdict := v, skip := k, cycle := c.cycle, pin := p, liquid := c.liquidVolume, syrup := c.syrupVolume
          estimate := c.meter.estimateUsed, observed := none, fault := c.lastFault, completed := c.segIndex } := by
  unfold Head.withRecord; rw [if_neg (by rw [h]; simp)]

/-- A record already pending is kept. -/
theorem Head.withRecord_kept {c : Head} (h : c.record.isSome = true) (v : Verdict) (k : Option SkipReason)
    (p : Option Pin) : c.withRecord v k p = c := by
  unfold Head.withRecord; rw [if_pos h]

theorem Head.withRecord_butScan (c : Head) (v : Verdict) (k : Option SkipReason) (p : Option Pin) :
    (c.butScan.withRecord v k p).butScan = (c.withRecord v k p).butScan := by
  have e : c.butScan.record = c.record := rfl
  unfold Head.withRecord
  rw [e]
  split <;> rfl

/-! ### The bus -/

@[simp] theorem State.sendCommand_butScan (s : State) (h g : HeadId) (u : Bool) :
    ((s.sendCommand h u).head g).butScan = (s.head g).butScan := by
  have e : (s.sendCommand h u).head g = (s.setHead h ((s.head h).sent s.scanner.confirmWindow)).head g := rfl
  rw [e, State.head_setHead_eq]
  split
  · next x => rw [x, Head.sent_butScan]
  · rfl

@[simp] theorem State.chooseNext_butScan (s : State) (g : HeadId) :
    ((s.chooseNext).head g).butScan = (s.head g).butScan := by
  unfold State.chooseNext
  split
  · rw [State.sendCommand_butScan]; rfl
  · split
    · rw [State.sendCommand_butScan]; rfl
    · rfl

@[simp] theorem State.post_butScan (s : State) (h g : HeadId) : ((s.post h).head g).butScan = (s.head g).butScan := by
  unfold State.post
  split
  · dsimp only
    split
    · rw [State.chooseNext_butScan]; rfl
    · rfl
  · rfl

/-- A post changes no field of any head but the Scanner's. -/
theorem State.post_field {α : Type} (f : Head → α) (hf : ∀ c : Head, f c.butScan = f c) (s : State) (h g : HeadId) :
    f ((s.post h).head g) = f (s.head g) := Head.field_eq_of_butScan f hf (s.post_butScan h g)

theorem State.chooseNext_field {α : Type} (f : Head → α) (hf : ∀ c : Head, f c.butScan = f c) (s : State)
    (g : HeadId) : f (s.chooseNext.head g) = f (s.head g) := Head.field_eq_of_butScan f hf (s.chooseNext_butScan g)

/-- What a post leaves alone beside `Keeps`: the store, the faults, the reports and the Discharge Tracker. -/
structure State.BusOnly (s t : State) : Prop where
  store     : t.store = s.store
  faults    : t.faults = s.faults
  reports   : t.reports = s.reports
  discharge : t.discharge = s.discharge
  heads     : ∀ g, (t.head g).butScan = (s.head g).butScan

theorem State.sendCommand_busOnly (s : State) (h : HeadId) (u : Bool) : s.BusOnly (s.sendCommand h u) :=
  ⟨rfl, rfl, rfl, rfl, fun g => s.sendCommand_butScan h g u⟩

theorem State.chooseNext_busOnly (s : State) : s.BusOnly s.chooseNext := by
  refine ⟨?_, ?_, ?_, ?_, fun g => s.chooseNext_butScan g⟩ <;>
  · unfold State.chooseNext
    split
    · rfl
    · split <;> rfl

theorem State.post_busOnly (s : State) (h : HeadId) : s.BusOnly (s.post h) := by
  unfold State.post
  split
  · dsimp only
    split
    · have e := State.chooseNext_busOnly
        { s with scanner := { s.scanner with urgent := s.scanner.urgent ++ [h] } }
      exact ⟨e.store, e.faults, e.reports, e.discharge, e.heads⟩
    · exact ⟨rfl, rfl, rfl, rfl, fun _ => rfl⟩
  · exact ⟨rfl, rfl, rfl, rfl, fun _ => rfl⟩

@[simp] theorem State.post_store (s : State) (h : HeadId) : (s.post h).store = s.store := (s.post_busOnly h).store
@[simp] theorem State.post_faults (s : State) (h : HeadId) : (s.post h).faults = s.faults := (s.post_busOnly h).faults
@[simp] theorem State.post_reports (s : State) (h : HeadId) : (s.post h).reports = s.reports :=
  (s.post_busOnly h).reports
@[simp] theorem State.post_discharge (s : State) (h : HeadId) : (s.post h).discharge = s.discharge :=
  (s.post_busOnly h).discharge

/-! ### A change of state (R45) -/

theorem State.changeState_head (s : State) (h g : HeadId) (st : HeadState) :
    (s.changeState h st).head g = if g = h then { s.head h with state := st, level := st.level } else s.head g := by
  have e : (s.changeState h st).heads = (s.updHead h fun c => { c with state := st, level := st.level }).heads := by
    unfold State.changeState; dsimp only; split <;> rfl
  rw [State.head_congr e, State.head_updHead_eq]
  by_cases x : g = h
  · subst x; rfl
  · rw [if_neg x, if_neg x]

@[simp] theorem State.changeState_store (s : State) (h : HeadId) (st : HeadState) :
    (s.changeState h st).store = s.store := by unfold State.changeState; dsimp only; split <;> rfl
@[simp] theorem State.changeState_faults (s : State) (h : HeadId) (st : HeadState) :
    (s.changeState h st).faults = s.faults := by unfold State.changeState; dsimp only; split <;> rfl
@[simp] theorem State.changeState_reports (s : State) (h : HeadId) (st : HeadState) :
    (s.changeState h st).reports = s.reports := by unfold State.changeState; dsimp only; split <;> rfl
@[simp] theorem State.changeState_discharge (s : State) (h : HeadId) (st : HeadState) :
    (s.changeState h st).discharge = s.discharge := by unfold State.changeState; dsimp only; split <;> rfl

/-! ### The release of a pin (R37) -/

theorem State.releasePin_head (s : State) (h g : HeadId) :
    (s.releasePin h).head g = if g = h then { s.head h with pin := none } else s.head g := by
  unfold State.releasePin
  split
  · rw [State.head_updHead_eq]
    by_cases x : g = h
    · subst x; rfl
    · rw [if_neg x, if_neg x]; rfl
  · next e =>
    split
    · next x => rw [x, ← e]
    · rfl

theorem State.releasePin_slot {s : State} {h : HeadId} {p : Pin} (e : (s.head h).pin = some p) (j : SlotId) :
    (s.releasePin h).slot j = if j = p.slot then (s.slot p.slot).release else s.slot j := by
  unfold State.releasePin
  rw [e]
  exact State.slot_setSlot_eq s j p.slot _

theorem State.releasePin_none {s : State} {h : HeadId} (e : (s.head h).pin = none) : s.releasePin h = s := by
  unfold State.releasePin; rw [e]

@[simp] theorem State.releasePin_faults (s : State) (h : HeadId) : (s.releasePin h).faults = s.faults := by
  unfold State.releasePin; split <;> rfl
@[simp] theorem State.releasePin_reports (s : State) (h : HeadId) : (s.releasePin h).reports = s.reports := by
  unfold State.releasePin; split <;> rfl
@[simp] theorem State.releasePin_discharge (s : State) (h : HeadId) : (s.releasePin h).discharge = s.discharge := by
  unfold State.releasePin; split <;> rfl
@[simp] theorem State.releasePin_scanner (s : State) (h : HeadId) : (s.releasePin h).scanner = s.scanner := by
  unfold State.releasePin; split <;> rfl

/-! ### Entries (R62, R64, R66, R49) -/

/-- The context of a head that has entered ABORTING (R62), but for the Scanner's fields. -/
def Head.aborted (c : Head) (ventLimit : Nat) : Head :=
  { ({ c.vented with state := .aborting, level := 1, pin := none } : Head).withRecord .aborted none c.pin with
    ventTimer := some ventLimit }

theorem State.enterAborting_head (s : State) (h g : HeadId) :
    ((s.enterAborting h).head g).butScan =
      if g = h then ((s.head h).aborted s.sequencer.ventLimit).butScan else (s.head g).butScan := by
  unfold State.enterAborting
  dsimp only
  rw [State.post_butScan]
  have v : ((((s.changeState h .aborting).updHead h Head.vented).releasePin h).updHead h fun c =>
      c.withRecord .aborted none (s.head h).pin).sequencer.ventLimit = s.sequencer.ventLimit := by
    unfold State.releasePin State.changeState
    dsimp only
    split <;> split <;> rfl
  rw [v]
  by_cases x : g = h
  · subst x
    simp only [State.head_updHead, State.releasePin_head, State.changeState_head, if_true]
    rfl
  · simp only [State.head_updHead_ne _ _ x, State.releasePin_head, State.changeState_head, if_neg x]

@[simp] theorem State.enterAborting_faults (s : State) (h : HeadId) : (s.enterAborting h).faults = s.faults := by
  unfold State.enterAborting; simp
@[simp] theorem State.enterAborting_reports (s : State) (h : HeadId) : (s.enterAborting h).reports = s.reports := by
  unfold State.enterAborting; simp
@[simp] theorem State.enterAborting_discharge (s : State) (h : HeadId) :
    (s.enterAborting h).discharge = s.discharge := by
  unfold State.enterAborting; simp

theorem State.enterForced_head (s : State) (h g : HeadId) :
    ((s.enterForced h).head g).butScan =
      if g = h then
        ({ (s.head h).vented with state := .forced, level := 2, ventTimer := none } : Head).butScan
      else (s.head g).butScan := by
  unfold State.enterForced
  dsimp only
  rw [State.post_butScan]
  by_cases x : g = h
  · subst x
    simp only [State.head_updHead, State.changeState_head, if_true]
    rfl
  · simp only [State.head_updHead_ne _ _ x, State.changeState_head, if_neg x]

@[simp] theorem State.enterForced_faults (s : State) (h : HeadId) : (s.enterForced h).faults = s.faults := by
  unfold State.enterForced; simp
@[simp] theorem State.enterForced_reports (s : State) (h : HeadId) : (s.enterForced h).reports = s.reports := by
  unfold State.enterForced; simp
@[simp] theorem State.enterForced_discharge (s : State) (h : HeadId) : (s.enterForced h).discharge = s.discharge := by
  unfold State.enterForced; simp
@[simp] theorem State.enterForced_store (s : State) (h : HeadId) : (s.enterForced h).store = s.store := by
  unfold State.enterForced; simp

theorem State.enterLockout_head (s : State) (h g : HeadId) :
    ((s.enterLockout h).head g).butScan =
      if g = h then
        ({ (s.head h).vented with state := .lockout, level := 3, ventTimer := none } : Head).butScan
      else (s.head g).butScan := by
  unfold State.enterLockout
  dsimp only
  rw [State.post_butScan]
  by_cases x : g = h
  · subst x
    simp only [State.head_updHead, State.changeState_head, if_true]
    rfl
  · simp only [State.head_updHead_ne _ _ x, State.changeState_head, if_neg x]

@[simp] theorem State.enterLockout_faults (s : State) (h : HeadId) : (s.enterLockout h).faults = s.faults := by
  unfold State.enterLockout; simp
@[simp] theorem State.enterLockout_reports (s : State) (h : HeadId) : (s.enterLockout h).reports = s.reports := by
  unfold State.enterLockout; simp
@[simp] theorem State.enterLockout_discharge (s : State) (h : HeadId) :
    (s.enterLockout h).discharge = s.discharge := by
  unfold State.enterLockout; simp
@[simp] theorem State.enterLockout_store (s : State) (h : HeadId) : (s.enterLockout h).store = s.store := by
  unfold State.enterLockout; simp

/-- A SEATING head that gives its bottle up touches itself alone, and posts nothing. -/
theorem State.giveUpSeating_head (s : State) (h g : HeadId) (v : Verdict) (k : Option SkipReason) :
    (s.giveUpSeating h v k).head g =
      if g = h then
        ({ s.head h with pin := none, state := .emptyPass, level := 0 } : Head).withRecord v k (s.head h).pin
      else s.head g := by
  unfold State.giveUpSeating
  dsimp only
  by_cases x : g = h
  · subst x
    simp only [State.head_updHead, State.changeState_head, State.releasePin_head, if_true]
    rfl
  · simp only [State.head_updHead_ne _ _ x, State.changeState_head, State.releasePin_head, if_neg x]

@[simp] theorem State.giveUpSeating_faults (s : State) (h : HeadId) (v : Verdict) (k : Option SkipReason) :
    (s.giveUpSeating h v k).faults = s.faults := by
  unfold State.giveUpSeating; simp
@[simp] theorem State.giveUpSeating_reports (s : State) (h : HeadId) (v : Verdict) (k : Option SkipReason) :
    (s.giveUpSeating h v k).reports = s.reports := by
  unfold State.giveUpSeating; simp
@[simp] theorem State.giveUpSeating_discharge (s : State) (h : HeadId) (v : Verdict) (k : Option SkipReason) :
    (s.giveUpSeating h v k).discharge = s.discharge := by
  unfold State.giveUpSeating; simp

/-- Entry to OFF takes the head's context to that of OFF and leaves the other heads as they are. -/
theorem State.enterOff_head (s : State) (h g : HeadId) :
    (s.enterOff h).head g =
      if g = h then ({ s.head h with state := .off, level := 0 } : Head).offContext else s.head g := by
  have e : (s.enterOff h).heads = ((s.changeState h .off).updHead h Head.offContext).heads := rfl
  rw [State.head_congr e]
  by_cases x : g = h
  · subst x
    simp only [State.head_updHead, State.changeState_head, if_true]
    rfl
  · simp only [State.head_updHead_ne _ _ x, State.changeState_head, if_neg x]

@[simp] theorem State.enterOff_faults (s : State) (h : HeadId) : (s.enterOff h).faults = s.faults :=
  State.changeState_faults s h .off
@[simp] theorem State.enterOff_reports (s : State) (h : HeadId) : (s.enterOff h).reports = s.reports :=
  State.changeState_reports s h .off
@[simp] theorem State.enterOff_discharge (s : State) (h : HeadId) : (s.enterOff h).discharge = s.discharge :=
  State.changeState_discharge s h .off
@[simp] theorem State.enterOff_store (s : State) (h : HeadId) : (s.enterOff h).store = s.store :=
  State.changeState_store s h .off

/-- A head in OFF is never in the urgent queue (R98). -/
theorem State.enterOff_urgent (s : State) (h : HeadId) : h ∉ (s.enterOff h).scanner.urgent := by
  simp [State.enterOff]

end Sys2Proof.Machine
end

