-- ==== Sys2Proof/Laws/Keeps.lean ====
section
/-! SUPPORT. What the dosing operations leave alone: `Keeps` says it once, and one lemma per operation of the Dose
Sequencer, the Meter Unit, the Scanner and the Fault Unit says that the operation keeps it. -/

namespace Sys2Proof.Machine

/-- What no operation on heads, bus, faults or reports changes. -/
structure State.Keeps (s t : State) : Prop where
  pending       : t.pending = s.pending
  arbiter       : t.arbiter = s.arbiter
  resets        : t.resets = s.resets
  lineHeld      : t.lineHeld = s.lineHeld
  ring          : t.ring = s.ring
  tracker       : t.tracker = s.tracker
  zones         : t.zones = s.zones
  verifier      : t.store.verifier = s.store.verifier
  sequencer     : t.sequencer = s.sequencer
  meterUnit     : t.meterUnit = s.meterUnit
  replyTimeout  : t.scanner.replyTimeout = s.scanner.replyTimeout
  missLimit     : t.scanner.missLimit = s.scanner.missLimit
  confirmWindow : t.scanner.confirmWindow = s.scanner.confirmWindow
  master        : t.discharge.master = s.discharge.master
  gate          : t.discharge.gate = s.discharge.gate
  pulseWidth    : t.discharge.pulseWidth = s.discharge.pulseWidth
  lockoutLimit  : t.faults.lockoutLimit = s.faults.lockoutLimit
  pressure      : t.faults.pressure = s.faults.pressure
  temperature   : t.faults.temperature = s.faults.temperature
  watchdog      : t.faults.watchdog = s.faults.watchdog
  prios         : t.reports.prios = s.reports.prios
  threshold     : t.reports.threshold = s.reports.threshold
  management    : t.management = s.management
  ringOut       : t.ringOut = s.ringOut

theorem State.Keeps.refl (s : State) : s.Keeps s := by constructor <;> rfl

theorem State.Keeps.trans {s t u : State} (a : s.Keeps t) (b : t.Keeps u) : s.Keeps u := by
  constructor
  · exact b.1.trans a.1
  · exact b.2.trans a.2
  · exact b.3.trans a.3
  · exact b.4.trans a.4
  · exact b.5.trans a.5
  · exact b.6.trans a.6
  · exact b.7.trans a.7
  · exact b.8.trans a.8
  · exact b.9.trans a.9
  · exact b.10.trans a.10
  · exact b.11.trans a.11
  · exact b.12.trans a.12
  · exact b.13.trans a.13
  · exact b.14.trans a.14
  · exact b.15.trans a.15
  · exact b.16.trans a.16
  · exact b.17.trans a.17
  · exact b.18.trans a.18
  · exact b.19.trans a.19
  · exact b.20.trans a.20
  · exact b.21.trans a.21
  · exact b.22.trans a.22
  · exact b.23.trans a.23
  · exact b.24.trans a.24

/-- A fold of steps that each keep what `Keeps` lists keeps it. -/
theorem Keeps.foldl {α : Type} (f : State → α → State) (hf : ∀ (s t : State) (a : α), s.Keeps t → s.Keeps (f t a)) (l : List α)
    {s t : State} (k : s.Keeps t) : s.Keeps (l.foldl f t) := by
  induction l generalizing t with
  | nil => exact k
  | cons a l ih => exact ih (hf _ _ _ k)

variable {s t : State}

theorem Keeps.setHead (k : s.Keeps t) (h : HeadId) (c : Head) : s.Keeps (t.setHead h c) := { k with }

theorem Keeps.updHead (k : s.Keeps t) (h : HeadId) (f : Head → Head) : s.Keeps (t.updHead h f) := { k with }

theorem Keeps.setSlot (k : s.Keeps t) (j : SlotId) (c : Slot) : s.Keeps (t.setSlot j c) := { k with }

theorem Keeps.updRecord (k : s.Keeps t) (c : FaultClass) (f : ClassRecord → ClassRecord) :
    s.Keeps (t.updRecord c f) := { k with }

theorem Keeps.setCondition (k : s.Keeps t) (c : FaultClass) (b : Bool) : s.Keeps (t.setCondition c b) :=
  Keeps.updRecord k _ _

@[simp] theorem ReportQueue.place_prios (q : ReportQueue) (r : Report) : (q.place r).prios = q.prios := by
  unfold ReportQueue.place; split <;> try split
  all_goals rfl

@[simp] theorem ReportQueue.place_threshold (q : ReportQueue) (r : Report) : (q.place r).threshold = q.threshold := by
  unfold ReportQueue.place; split <;> try split
  all_goals rfl

@[simp] theorem ReportQueue.place_doseSeq (q : ReportQueue) (r : Report) : (q.place r).doseSeq = q.doseSeq := by
  unfold ReportQueue.place; split <;> try split
  all_goals rfl

theorem Keeps.place (k : s.Keeps t) (r : Report) : s.Keeps { t with reports := t.reports.place r } :=
  { k with
    prios := (ReportQueue.place_prios _ _).trans k.prios
    threshold := (ReportQueue.place_threshold _ _).trans k.threshold }

theorem Keeps.report (k : s.Keeps t) (b : ReportBody) : s.Keeps (t.report b) := by
  unfold State.report ReportQueue.create
  split
  · exact { k with }
  · exact Keeps.place k _

theorem Keeps.releasePin (k : s.Keeps t) (h : HeadId) : s.Keeps (t.releasePin h) := by
  unfold State.releasePin
  split
  · exact Keeps.updHead (Keeps.setSlot k _ _) _ _
  · exact k

theorem Keeps.pinClaim (k : s.Keeps t) {p : Pin} {u : State} (e : t.pinClaim = some (p, u)) : s.Keeps u := by
  unfold State.pinClaim at e
  split at e
  · simp only [Option.some.injEq, Prod.mk.injEq] at e
    exact e.2 ▸ Keeps.setSlot k _ _
  · cases e

theorem Keeps.scanner (k : s.Keeps t) (x : Option InFlight) (p : Option HeadId) (q : List HeadId) :
    s.Keeps { t with scanner := { t.scanner with inFlight := x, scanPos := p, urgent := q } } := { k with }

theorem Keeps.snapshots (k : s.Keeps t) (l : List Snapshot) (b : Bool) :
    s.Keeps { t with faults := { t.faults with snapshots := l, overflow := b } } := { k with }

theorem Keeps.mode (k : s.Keeps t) (m : Mode) : s.Keeps { t with faults := { t.faults with mode := m } } := { k with }

theorem Keeps.discharge (k : s.Keeps t) (a : Vector (Option Nat) 15) (l : List RejectEntry) (p : Option Nat) (n : Nat) :
    s.Keeps { t with discharge := { t.discharge with lastSeq := a, schedule := l, pulse := p, made := n } } := { k with }

theorem Keeps.doseSeq (k : s.Keeps t) (n : Nat) : s.Keeps { t with reports := { t.reports with doseSeq := n } } :=
  { k with }

theorem Keeps.sendCommand (k : s.Keeps t) (h : HeadId) (b : Bool) : s.Keeps (t.sendCommand h b) := { k with }

theorem Keeps.chooseNext (k : s.Keeps t) : s.Keeps t.chooseNext := by
  unfold State.chooseNext
  split
  · exact Keeps.sendCommand (Keeps.scanner k _ _ _) _ _
  · split
    · exact Keeps.sendCommand (Keeps.scanner k _ _ _) _ _
    · exact k

theorem Keeps.post (k : s.Keeps t) (h : HeadId) : s.Keeps (t.post h) := by
  unfold State.post
  split
  · dsimp only
    split
    · exact Keeps.chooseNext (Keeps.scanner k _ _ _)
    · exact Keeps.scanner k _ _ _
  · exact k

theorem Keeps.markInFlight (k : s.Keeps t) (h : HeadId) (f : InFlight → InFlight) : s.Keeps (t.markInFlight h f) :=
  { k with }

theorem Keeps.changeState (k : s.Keeps t) (h : HeadId) (st : HeadState) :
    s.Keeps (t.changeState h st) := by
  unfold State.changeState
  try dsimp only
  repeat' first | with_reducible exact k | split | with_reducible apply Keeps.markInFlight | with_reducible apply Keeps.updHead

theorem Keeps.enterOff (k : s.Keeps t) (h : HeadId) :
    s.Keeps (t.enterOff h) := by
  unfold State.enterOff
  exact Keeps.markInFlight (Keeps.scanner (Keeps.updHead (Keeps.changeState k _ _) _ _) _ _ _) _ _

theorem Keeps.enterAborting (k : s.Keeps t) (h : HeadId) :
    s.Keeps (t.enterAborting h) := by
  unfold State.enterAborting
  try dsimp only
  repeat' first | with_reducible exact k | split | with_reducible apply Keeps.changeState | with_reducible apply Keeps.post | with_reducible apply Keeps.releasePin | with_reducible apply Keeps.updHead

theorem Keeps.enterForced (k : s.Keeps t) (h : HeadId) :
    s.Keeps (t.enterForced h) := by
  unfold State.enterForced
  try dsimp only
  repeat' first | with_reducible exact k | split | with_reducible apply Keeps.changeState | with_reducible apply Keeps.post | with_reducible apply Keeps.updHead

theorem Keeps.enterLockout (k : s.Keeps t) (h : HeadId) :
    s.Keeps (t.enterLockout h) := by
  unfold State.enterLockout
  try dsimp only
  repeat' first | with_reducible exact k | split | with_reducible apply Keeps.changeState | with_reducible apply Keeps.post | with_reducible apply Keeps.updHead

theorem Keeps.leaveSafeClose (k : s.Keeps t) (h : HeadId) :
    s.Keeps (t.leaveSafeClose h) := by
  unfold State.leaveSafeClose
  try dsimp only
  repeat' first | with_reducible exact k | split | with_reducible apply Keeps.enterOff | with_reducible apply Keeps.changeState | with_reducible apply Keeps.post | with_reducible apply Keeps.updHead

theorem Keeps.giveUpSeating (k : s.Keeps t) (h : HeadId) (v : Verdict) (r : Option SkipReason) :
    s.Keeps (t.giveUpSeating h v r) := by
  unfold State.giveUpSeating
  try dsimp only
  repeat' first | with_reducible exact k | split | with_reducible apply Keeps.changeState | with_reducible apply Keeps.releasePin | with_reducible apply Keeps.updHead

theorem Keeps.pushSnapshot (k : s.Keeps t) (h : HeadId) (c : Cause) :
    s.Keeps (t.pushSnapshot h c) := by
  unfold State.pushSnapshot
  split
  · exact Keeps.snapshots k _ _
  · exact Keeps.snapshots k _ _

theorem Keeps.latchReport (k : s.Keeps t) (c : Cause) (a b : Option Nat) :
    s.Keeps (t.latchReport c a b) := by
  unfold State.latchReport
  try dsimp only
  repeat' first | with_reducible exact k | split | with_reducible apply Keeps.report | with_reducible apply Keeps.updRecord

theorem Keeps.addStop (k : s.Keeps t) (c : FaultClass) :
    s.Keeps (t.addStop c) := by
  unfold State.addStop
  try dsimp only
  repeat' first | with_reducible exact k | split | with_reducible apply Keeps.updRecord

theorem Keeps.parityRecord (k : s.Keeps t) (h : HeadId) :
    s.Keeps (t.parityRecord h) := by
  unfold State.parityRecord
  try dsimp only
  repeat' first | with_reducible exact k | split | with_reducible apply Keeps.releasePin | with_reducible apply Keeps.updHead

theorem Keeps.parityCore (k : s.Keeps t) (h : HeadId) :
    s.Keeps (t.parityCore h) := by
  unfold State.parityCore
  try dsimp only
  repeat' first | with_reducible exact k | split | with_reducible apply Keeps.parityRecord | with_reducible apply Keeps.addStop | with_reducible apply Keeps.latchReport | with_reducible apply Keeps.pushSnapshot | with_reducible apply Keeps.enterLockout | with_reducible apply Keeps.enterForced | with_reducible apply Keeps.updHead | with_reducible apply Keeps.post

theorem Keeps.abortHead (k : s.Keeps t) (h : HeadId) (r : SkipReason) (c : Option Cause) :
    s.Keeps (t.abortHead h r c) := by
  unfold State.abortHead
  try dsimp only
  repeat' first | with_reducible exact k | split | with_reducible apply Keeps.giveUpSeating | with_reducible apply Keeps.enterAborting | with_reducible apply Keeps.updHead

theorem Keeps.safeAbort (k : s.Keeps t) (c : Option Cause) :
    s.Keeps (t.safeAbort c) := by
  unfold State.safeAbort
  refine Keeps.foldl _ (fun u v h k => ?_) _ k
  split
  · split
    · exact Keeps.abortHead k _ _ _
    · exact Keeps.parityCore k _
  · exact k

theorem Keeps.enterSafe (k : s.Keeps t) (c : Option Cause) :
    s.Keeps (t.enterSafe c) := by
  unfold State.enterSafe
  split
  · exact k
  · exact Keeps.report (Keeps.safeAbort (Keeps.mode k _) _) _

theorem Keeps.checkLockout (k : s.Keeps t) :
    s.Keeps t.checkLockout := by
  unfold State.checkLockout
  try dsimp only
  repeat' first | with_reducible exact k | split | with_reducible apply Keeps.enterSafe | with_reducible apply Keeps.addStop | with_reducible apply Keeps.latchReport | with_reducible apply Keeps.updRecord

theorem Keeps.contextParity (k : s.Keeps t) (h : HeadId) :
    s.Keeps (t.contextParity h) := by
  unfold State.contextParity
  try dsimp only
  repeat' first | with_reducible exact k | split | with_reducible apply Keeps.checkLockout | with_reducible apply Keeps.enterSafe | with_reducible apply Keeps.parityCore

theorem Keeps.headEvent (k : s.Keeps t) (h : HeadId) (f : State → State) (hf : ∀ u : State, s.Keeps u → s.Keeps (f u)) :
    s.Keeps (t.headEvent h f) := by
  unfold State.headEvent
  split
  · exact k
  · split
    · exact hf _ k
    · exact Keeps.contextParity k _

theorem Keeps.haltAbort (k : s.Keeps t) (c : Cause) :
    s.Keeps (t.haltAbort c) := by
  unfold State.haltAbort
  refine Keeps.foldl _ (fun u v h k => ?_) _ k
  split
  · exact Keeps.headEvent k _ _ fun w k => Keeps.abortHead k _ _ _
  · exact k

theorem Keeps.raisePart (k : s.Keeps t) (c : Cause) (a b : Option Nat) :
    s.Keeps (t.raisePart c a b) := by
  unfold State.raisePart
  try dsimp only
  repeat' first | with_reducible exact k | split | with_reducible apply Keeps.haltAbort | with_reducible apply Keeps.enterSafe | with_reducible apply Keeps.addStop | with_reducible apply Keeps.latchReport | with_reducible apply Keeps.updRecord

theorem Keeps.headAction (k : s.Keeps t) (h : HeadId) (c : Cause) (a : Action) :
    s.Keeps (t.headAction h c a) := by
  unfold State.headAction
  try dsimp only
  repeat' first | with_reducible exact k | split | with_reducible apply Keeps.pushSnapshot | with_reducible apply Keeps.giveUpSeating | with_reducible apply Keeps.enterLockout | with_reducible apply Keeps.enterForced | with_reducible apply Keeps.enterAborting | with_reducible apply Keeps.updHead

theorem Keeps.afterHeadRaise (k : s.Keeps t) (c : Cause) (a : Action) :
    s.Keeps (t.afterHeadRaise c a) := by
  unfold State.afterHeadRaise
  try dsimp only
  repeat' first | with_reducible exact k | split | with_reducible apply Keeps.checkLockout | with_reducible apply Keeps.enterSafe | with_reducible apply Keeps.addStop

theorem Keeps.takeHeadRaise (k : s.Keeps t) (h : HeadId) (c : Cause) :
    s.Keeps (t.takeHeadRaise h c) := by
  unfold State.takeHeadRaise
  try dsimp only
  repeat' first | with_reducible exact k | split | with_reducible apply Keeps.latchReport | with_reducible apply Keeps.updHead

theorem Keeps.raiseHead (k : s.Keeps t) (h : HeadId) (c : Cause) :
    s.Keeps (t.raiseHead h c) := by
  unfold State.raiseHead
  try dsimp only
  repeat' first | with_reducible exact k | split | with_reducible apply Keeps.takeHeadRaise | with_reducible apply Keeps.afterHeadRaise | with_reducible apply Keeps.headAction | with_reducible apply Keeps.contextParity

theorem Keeps.schedule (k : s.Keeps t) (e : RejectEntry) :
    s.Keeps (t.schedule e) := by
  unfold State.schedule
  split
  · exact Keeps.raisePart k _ _ _
  · split
    · exact Keeps.raisePart k _ _ _
    · exact Keeps.discharge k _ _ _ _

theorem Keeps.takeDose (k : s.Keeps t) (a : Fin 15) (q n c : Nat) (v : Verdict) (p : Pos) :
    s.Keeps (t.takeDose a q n c v p) := by
  unfold State.takeDose
  split
  · exact k
  · have k' : s.Keeps (if t.discharge.gap a q then t.raisePart .rejectGap (some n) none else t) := by
      split
      · exact Keeps.raisePart k _ _ _
      · exact k
    dsimp only
    split
    · exact Keeps.schedule (Keeps.discharge k' _ _ _ _) _
    · exact Keeps.discharge k' _ _ _ _

theorem Keeps.dueTest (k : s.Keeps t) (p : Pos) :
    s.Keeps (t.dueTest p) := by
  exact Keeps.discharge k _ _ _ _

theorem Keeps.takeOwn (k : s.Keeps t) (d : DoseReport) :
    s.Keeps (t.takeOwn d) := by
  unfold State.takeOwn
  try dsimp only
  repeat' first | with_reducible exact k | split | with_reducible apply Keeps.takeDose

theorem Keeps.createDose (k : s.Keeps t) (r : DoseRecord) (n : Nat) (p : Pos) :
    s.Keeps (t.createDose r n p) := by
  unfold State.createDose
  extract_lets prio d q u place
  have ku : s.Keeps u := Keeps.doseSeq k _
  have kp : ∀ v : State, s.Keeps v → s.Keeps (place v) := fun v kv => Keeps.place kv _
  clear_value place u
  split
  · exact k
  · split
    · exact kp _ (Keeps.takeOwn ku _)
    · exact Keeps.takeOwn (kp _ ku) _

theorem Keeps.emit (k : s.Keeps t) (h : HeadId) (p : Pos) :
    s.Keeps (t.emit h p) := by
  unfold State.emit
  try dsimp only
  repeat' first | with_reducible exact k | split | with_reducible apply Keeps.createDose | with_reducible apply Keeps.updHead

theorem Keeps.seatWindowEnd (k : s.Keeps t) (h : HeadId) :
    s.Keeps (t.seatWindowEnd h) := by
  unfold State.seatWindowEnd
  try dsimp only
  repeat' first | with_reducible exact k | split | with_reducible apply Keeps.giveUpSeating

theorem Keeps.forcedDischarge (k : s.Keeps t) (h : HeadId) (p : Pos) :
    s.Keeps (t.forcedDischarge h p) := by
  unfold State.forcedDischarge
  try dsimp only
  repeat' first | with_reducible exact k | split | with_reducible apply Keeps.emit | with_reducible apply Keeps.takeHeadRaise | with_reducible apply Keeps.afterHeadRaise | with_reducible apply Keeps.pushSnapshot | with_reducible apply Keeps.enterForced | with_reducible apply Keeps.releasePin | with_reducible apply Keeps.updHead

theorem Keeps.rideOut (k : s.Keeps t) (h : HeadId) (p : Pos) :
    s.Keeps (t.rideOut h p) := by
  unfold State.rideOut
  try dsimp only
  repeat' first | with_reducible exact k | split | with_reducible apply Keeps.emit | with_reducible apply Keeps.enterOff | with_reducible apply Keeps.changeState

theorem Keeps.dischargeCrossing (k : s.Keeps t) (h : HeadId) (p : Pos) :
    s.Keeps (t.dischargeCrossing h p) := by
  unfold State.dischargeCrossing
  try dsimp only
  repeat' first | with_reducible exact k | split | with_reducible apply Keeps.rideOut | with_reducible apply Keeps.forcedDischarge | with_reducible apply Keeps.seatWindowEnd | with_reducible apply Keeps.emit

theorem Keeps.skipCycle (k : s.Keeps t) (h : HeadId) (r : SkipReason) :
    s.Keeps (t.skipCycle h r) := by
  unfold State.skipCycle
  try dsimp only
  repeat' first | with_reducible exact k | split | with_reducible apply Keeps.changeState | with_reducible apply Keeps.updHead

theorem Keeps.beginCycle (k : s.Keeps t) (h : HeadId) :
    s.Keeps (t.beginCycle h) := by
  unfold State.beginCycle
  dsimp only
  split
  · exact Keeps.skipCycle (Keeps.updHead k _ _) _ _
  · split
    · next e => exact Keeps.updHead (Keeps.changeState (Keeps.pinClaim (Keeps.updHead k _ _) e) _ _) _ _
    · exact Keeps.skipCycle (Keeps.updHead k _ _) _ _

theorem Keeps.atInfeed (k : s.Keeps t) (h : HeadId) :
    s.Keeps (t.atInfeed h) := by
  unfold State.atInfeed
  try dsimp only
  repeat' first | with_reducible exact k | split | with_reducible apply Keeps.beginCycle | with_reducible apply Keeps.updHead

theorem Keeps.infeedCrossing (k : s.Keeps t) (h : HeadId) (p : Pos) :
    s.Keeps (t.infeedCrossing h p) := by
  unfold State.infeedCrossing
  try dsimp only
  repeat' first | with_reducible exact k | split | with_reducible apply Keeps.atInfeed | with_reducible apply Keeps.dischargeCrossing | with_reducible apply Keeps.seatWindowEnd

theorem Keeps.profileParity (k : s.Keeps t) (h : HeadId) (j : SlotId) :
    s.Keeps (t.profileParity h j) := by
  unfold State.profileParity
  try dsimp only
  repeat' first | with_reducible exact k | split | with_reducible apply Keeps.raiseHead | with_reducible apply Keeps.raisePart | with_reducible apply Keeps.setSlot

theorem Keeps.startTest (k : s.Keeps t) (h : HeadId) (θ : Option Nat) :
    s.Keeps (t.startTest h θ) := by
  unfold State.startTest
  try dsimp only
  repeat' first | with_reducible exact k | split | with_reducible apply Keeps.profileParity | with_reducible apply Keeps.raiseHead | with_reducible apply Keeps.setHead

theorem Keeps.pendingTest (k : s.Keeps t) (h : HeadId) (θ : Option Nat) :
    s.Keeps (t.pendingTest h θ) := by
  unfold State.pendingTest
  try dsimp only
  repeat' first | with_reducible exact k | split | with_reducible apply Keeps.startTest | with_reducible apply Keeps.post

theorem Keeps.finishCycle (k : s.Keeps t) (h : HeadId) (d : Header) :
    s.Keeps (t.finishCycle h d) := by
  unfold State.finishCycle
  try dsimp only
  repeat' first | with_reducible exact k | split | with_reducible apply Keeps.changeState | with_reducible apply Keeps.post | with_reducible apply Keeps.releasePin | with_reducible apply Keeps.updHead

theorem Keeps.afterEnd (k : s.Keeps t) (h : HeadId) (d : Header) (θ : Nat) :
    s.Keeps (t.afterEnd h d θ) := by
  unfold State.afterEnd
  try dsimp only
  repeat' first | with_reducible exact k | split | with_reducible apply Keeps.finishCycle | with_reducible apply Keeps.startTest | with_reducible apply Keeps.post | with_reducible apply Keeps.updHead

theorem Keeps.endSegment (k : s.Keeps t) (h : HeadId) (w : Work) (θ : Nat) :
    s.Keeps (t.endSegment h w θ) := by
  unfold State.endSegment
  try dsimp only
  repeat' first | with_reducible exact k | split | with_reducible apply Keeps.afterEnd | with_reducible apply Keeps.updHead

theorem Keeps.zoneCut (k : s.Keeps t) (h : HeadId) (w : Work) (θ : Nat) :
    s.Keeps (t.zoneCut h w θ) := by
  unfold State.zoneCut
  try dsimp only
  repeat' first | with_reducible exact k | split | with_reducible apply Keeps.endSegment | with_reducible apply Keeps.afterEnd | with_reducible apply Keeps.raiseHead | with_reducible apply Keeps.updHead

theorem Keeps.statusEnd (k : s.Keeps t) (h : HeadId) (θ : Nat) (o : Obs) (a : Option Arm) :
    s.Keeps (t.statusEnd h θ o a) := by
  unfold State.statusEnd
  try dsimp only
  repeat' first | with_reducible exact k | split | with_reducible apply Keeps.endSegment | with_reducible apply Keeps.updHead

theorem Keeps.regionCrossing (k : s.Keeps t) (h : HeadId) (a : Nat) :
    s.Keeps (t.regionCrossing h a) := by
  unfold State.regionCrossing
  try dsimp only
  repeat' first | with_reducible exact k | split | with_reducible apply Keeps.zoneCut

theorem Keeps.angleEnd (k : s.Keeps t) (h : HeadId) (a : Nat) :
    s.Keeps (t.angleEnd h a) := by
  unfold State.angleEnd
  try dsimp only
  repeat' first | with_reducible exact k | split | with_reducible apply Keeps.endSegment

theorem Keeps.deadlineCrossing (k : s.Keeps t) (h : HeadId) :
    s.Keeps (t.deadlineCrossing h) := by
  unfold State.deadlineCrossing
  try dsimp only
  repeat' first | with_reducible exact k | split | with_reducible apply Keeps.raiseHead | with_reducible apply Keeps.updHead

theorem Keeps.rampStep (k : s.Keeps t) (h : HeadId) (a : Nat) :
    s.Keeps (t.rampStep h a) := by
  unfold State.rampStep
  try dsimp only
  repeat' first | with_reducible exact k | split | with_reducible apply Keeps.updHead

theorem Keeps.takeBoundary (k : s.Keeps t) (h : HeadId) (a : Nat) (b : Bool) (f : State → State) (hf : ∀ u : State, s.Keeps u → s.Keeps (f u)) :
    s.Keeps (t.takeBoundary h a b f) := by
  unfold State.takeBoundary
  split
  · exact Keeps.headEvent k _ _ fun u k => Keeps.pendingTest (hf u k) _ _
  · exact k

theorem Keeps.takeAngle (k : s.Keeps t) (h : HeadId) (a : Nat) (p : Pos) :
    s.Keeps (t.takeAngle h a p) := by
  unfold State.takeAngle
  refine Keeps.takeBoundary ?_ _ _ _ _ fun u k => Keeps.infeedCrossing k _ _
  refine Keeps.takeBoundary ?_ _ _ _ _ fun u k => Keeps.dischargeCrossing k _ _
  refine Keeps.takeBoundary ?_ _ _ _ _ fun u k => Keeps.seatWindowEnd k _
  refine Keeps.takeBoundary ?_ _ _ _ _ fun u k => Keeps.rampStep k _ _
  refine Keeps.takeBoundary ?_ _ _ _ _ fun u k => k
  refine Keeps.takeBoundary ?_ _ _ _ _ fun u k => Keeps.deadlineCrossing k _
  refine Keeps.takeBoundary ?_ _ _ _ _ fun u k => Keeps.angleEnd k _ _
  exact Keeps.takeBoundary k _ _ _ _ fun u k => Keeps.regionCrossing k _ _

theorem Keeps.walkHead (h : HeadId) (n θ : Nat) (p : Pos) {t : State} (k : s.Keeps t) :
    s.Keeps (State.walkHead h n θ p t) := by
  induction n generalizing θ p t with
  | zero => exact k
  | succ n ih =>
    unfold State.walkHead
    exact ih _ _ (Keeps.takeAngle k _ _ _)

theorem Keeps.walkAll (k : s.Keeps t) (p : Pos) (n : Nat) :
    s.Keeps (t.walkAll p n) := by
  unfold State.walkAll
  refine Keeps.foldl _ (fun u v h k => ?_) _ k
  split
  · split
    · exact Keeps.walkHead h _ _ _ k
    · exact k
  · exact k

theorem Keeps.seat (k : s.Keeps t) (h : HeadId) (o : Obs) :
    s.Keeps (t.seat h o) := by
  unfold State.seat
  try dsimp only
  repeat' first | with_reducible exact k | split | with_reducible apply Keeps.changeState | with_reducible apply Keeps.updHead

theorem Keeps.headStatus (k : s.Keeps t) (h : HeadId) (o : Obs) (a : Option Arm) :
    s.Keeps (t.headStatus h o a) := by
  unfold State.headStatus
  try dsimp only
  repeat' first | with_reducible exact k | split | with_reducible apply Keeps.seat | with_reducible apply Keeps.statusEnd | with_reducible apply Keeps.leaveSafeClose

theorem Keeps.handStatus (k : s.Keeps t) (h : HeadId) (o : Obs) (a : Option Arm) :
    s.Keeps (t.handStatus h o a) := by
  unfold State.handStatus
  try dsimp only
  repeat' first | with_reducible exact k | split | with_reducible apply Keeps.headStatus | with_reducible apply Keeps.pendingTest | with_reducible apply Keeps.updHead

theorem Keeps.raiseHeadIf (k : s.Keeps t) (b : Bool) (h : HeadId) (c : Cause) :
    s.Keeps (t.raiseHeadIf b h c) := by
  unfold State.raiseHeadIf
  try dsimp only
  repeat' first | with_reducible exact k | split | with_reducible apply Keeps.raiseHead

theorem Keeps.raiseJumps (k : s.Keeps t) (h : HeadId) (m : Metered) : s.Keeps (t.raiseJumps h m) :=
  Keeps.raiseHeadIf (Keeps.raiseHeadIf k _ _ _) _ _ _

theorem Keeps.raiseMetered (k : s.Keeps t) (h : HeadId) (m : Metered) : s.Keeps (t.raiseMetered h m) := by
  unfold State.raiseMetered
  split
  · exact Keeps.raiseJumps (Keeps.raiseHeadIf k _ _ _) _ _
  · exact Keeps.raiseHeadIf (Keeps.raiseJumps k _ _) _ _ _

theorem Keeps.meterStatus (k : s.Keeps t) (h : HeadId) (o : Obs) (a : Option Arm) :
    s.Keeps (t.meterStatus h o a) := by
  unfold State.meterStatus
  try dsimp only
  repeat' first | with_reducible exact k | split | with_reducible apply Keeps.raiseMetered | with_reducible apply Keeps.handStatus | with_reducible apply Keeps.updHead | with_reducible apply Keeps.setHead

theorem Keeps.goodExchange (k : s.Keeps t) (x : InFlight) (f : StatusFrame) :
    s.Keeps (t.goodExchange x f) := by
  unfold State.goodExchange
  dsimp only
  split
  · exact k
  · refine Keeps.headEvent ?_ _ _ fun u k => Keeps.meterStatus k _ _ _
    refine Keeps.raiseHeadIf ?_ _ _ _
    refine Keeps.updHead ?_ _ _
    refine Keeps.raiseHeadIf ?_ _ _ _
    exact Keeps.setHead (Keeps.updHead k _ _) _ _

theorem Keeps.missExchange (k : s.Keeps t) (h : HeadId) :
    s.Keeps (t.missExchange h) := by
  unfold State.missExchange
  split
  · exact k
  · dsimp only
    split
    · exact Keeps.raiseHead (Keeps.updHead k _ _) _ _
    · exact Keeps.updHead k _ _

theorem Keeps.judgeExchange (k : s.Keeps t) (x : InFlight) (f : Option Frame) :
    s.Keeps (t.judgeExchange x f) := by
  unfold State.judgeExchange
  split
  · exact k
  · split
    · split
      · exact Keeps.goodExchange k _ _
      · exact Keeps.missExchange k _
    · exact Keeps.missExchange k _

theorem Keeps.endExchange (k : s.Keeps t) (f : Option Frame) :
    s.Keeps (t.endExchange f) := by
  unfold State.endExchange
  split
  · exact Keeps.chooseNext (Keeps.scanner (Keeps.judgeExchange k _ _) _ _ _)
  · exact k

theorem Keeps.receive (k : s.Keeps t) (f : BusFrame) : s.Keeps (t.receive f) := by
  unfold State.receive
  split
  · exact k
  · exact Keeps.endExchange k _

theorem Keeps.ventExpired (k : s.Keeps t) (h : HeadId) :
    s.Keeps (t.ventExpired h) := by
  unfold State.ventExpired
  split
  · refine Keeps.headEvent k _ _ fun u k => ?_
    split
    · exact Keeps.raiseHead k _ _
    · exact k
  · exact k

end Sys2Proof.Machine
end

