-- ==== Sys2Proof/Laws/Lookup.lean ====
section
/-! SUPPORT. Reading tables by number, by name and all at once: the codes of requests, and the vectors of State as
families over heads, slots, rows and classes. -/

namespace Sys2Proof.Machine

/-! ### Numbers in requests -/

@[simp] theorem slotOf_ofNat (j : SlotId) : slotOf (BitVec.ofNat 8 j.val) = some j := by revert j; decide

@[simp] theorem indexOf_ofNat (k : Fin 12) : indexOf (BitVec.ofNat 8 k.val) = some k := by revert k; decide

theorem slotOf_outside {b : Byte} (h : 8 ≤ b.toNat) : slotOf b = none := by
  unfold slotOf; rw [dif_neg (by omega)]

theorem indexOf_outside {b : Byte} (h : 12 ≤ b.toNat) : indexOf b = none := by
  unfold indexOf; rw [dif_neg (by omega)]

theorem slotOf_of_toNat {b : Byte} {j : SlotId} (h : b.toNat = j.val) : slotOf b = some j := by
  unfold slotOf; rw [dif_pos (by omega)]; congr

theorem indexOf_of_toNat {b : Byte} {k : Fin 12} (h : b.toNat = k.val) : indexOf b = some k := by
  unfold indexOf; rw [dif_pos (by omega)]; congr

theorem headOf_outside {n : Nat} {b : Byte} (h : n ≤ b.toNat) : headOf n b = none := by
  unfold headOf; rw [if_neg (by omega)]

theorem headOf_ofNat {n : Nat} {h : HeadId} (hn : h.val < n) : headOf n (BitVec.ofNat 8 h.val) = some h := by
  have e : (BitVec.ofNat 8 h.val).toNat = h.val := by simp; omega
  unfold headOf
  rw [if_pos (by omega), dif_pos (by omega)]
  congr

@[simp] theorem FaultClass.ofCode_code (c : FaultClass) : FaultClass.ofCode (BitVec.ofNat 8 c.code).toNat = some c := by
  cases c <;> decide

theorem FaultClass.ofCode_outside {n : Nat} (h : 14 ≤ n) : FaultClass.ofCode n = none := by
  simp [FaultClass.ofCode, FaultClass.all]; omega

/-! ### Families -/

theorem FaultClass.row_surjective (i : Fin 14) : ∃ c : FaultClass, c.row = i := by
  have e : ∀ i : Fin 14, ∃ c ∈ FaultClass.all, c.row = i := by decide
  obtain ⟨c, -, hc⟩ := e i
  exact ⟨c, hc⟩

/-- A test of every class record is a test of the record of every class. -/
theorem State.records_all (s : State) (p : ClassRecord → Bool) :
    s.faults.records.toList.all p = true ↔ ∀ c, p (s.record c) = true := by
  rw [List.all_eq_true]
  constructor
  · intro h c
    exact h _ (by simp [State.record])
  · intro h r hr
    simp only [Vector.mem_toList_iff, Vector.mem_iff_getElem] at hr
    obtain ⟨i, hi, rfl⟩ := hr
    obtain ⟨c, hc⟩ := FaultClass.row_surjective ⟨i, hi⟩
    have e := h c
    simp only [State.record, hc] at e
    exact e

theorem State.records_any (s : State) (p : ClassRecord → Bool) :
    s.faults.records.toList.any p = true ↔ ∃ c, p (s.record c) = true := by
  have e := s.records_all fun r => !p r
  have n : s.faults.records.toList.all (fun r => !p r) = !s.faults.records.toList.any p := by
    rw [List.not_any_eq_all_not]
  rw [n] at e
  rw [← not_iff_not]
  simpa only [Bool.not_eq_true, Bool.not_eq_true', not_exists] using e

theorem State.heads_any (s : State) (p : Head → Bool) :
    s.heads.toList.any p = true ↔ ∃ h, p (s.head h) = true := by
  simp only [List.any_eq_true, Vector.mem_toList_iff, Vector.mem_iff_getElem]
  constructor
  · rintro ⟨c, ⟨i, hi, rfl⟩, hp⟩
    exact ⟨⟨i, hi⟩, hp⟩
  · rintro ⟨h, hp⟩
    exact ⟨_, ⟨h.val, h.isLt, rfl⟩, hp⟩

theorem ZoneMap.rows_any (z : ZoneMap) (p : ZoneRow → Bool) :
    z.rows.toList.any p = true ↔ ∃ i : Fin 8, p z.rows[i] = true := by
  simp only [List.any_eq_true, Vector.mem_toList_iff, Vector.mem_iff_getElem]
  constructor
  · rintro ⟨c, ⟨i, hi, rfl⟩, hp⟩
    exact ⟨⟨i, hi⟩, hp⟩
  · rintro ⟨i, hp⟩
    exact ⟨_, ⟨i.val, i.isLt, rfl⟩, hp⟩

/-- The stop-cause set is empty exactly when no class is in it. -/
theorem State.stopEmpty_iff (s : State) : s.stopEmpty = true ↔ ∀ c, (s.record c).inStop = false := by
  unfold State.stopEmpty
  rw [s.records_all]
  simp

theorem State.startsBarred_iff (s : State) : s.startsBarred = true ↔ ∃ c, (s.record c).bars = true := by
  unfold State.startsBarred
  rw [s.records_any]

/-! ### Heads in order -/

theorem mem_allHeads (h : HeadId) : h ∈ allHeads := List.mem_finRange h

theorem allHeads_nodup : allHeads.Nodup := List.nodup_finRange 48

theorem State.mem_headOrder (s : State) (h : HeadId) : h ∈ s.headOrder := by
  simp only [State.headOrder, List.mem_append, List.mem_filter, mem_allHeads, true_and]
  by_cases e : s.arbiter.heads.eraseDups.contains h
  · exact Or.inl (by simpa using e)
  · exact Or.inr (by simpa using e)

/-- The ACTIVE slot is the one that is ACTIVE. -/
theorem State.activeSlot_eq_none (s : State) : s.activeSlot = none ↔ ∀ j, (s.slot j).state ≠ .active := by
  simp [State.activeSlot]

theorem State.activeSlot_state {s : State} {j : SlotId} (h : s.activeSlot = some j) : (s.slot j).state = .active := by
  have e := List.find?_some h
  simpa using e

theorem State.activeSlot_eq_some {s : State} (one : s.OneActive) {j : SlotId} (h : (s.slot j).state = .active) :
    s.activeSlot = some j := by
  cases e : s.activeSlot with
  | none => exact absurd h ((s.activeSlot_eq_none.mp e) j)
  | some i => rw [one i j (State.activeSlot_state e) h]

end Sys2Proof.Machine
end

