-- ==== Sys2Proof/Laws/Faults.lean ====
section
/-! SUPPORT. What the steps of a raise do to the class records, the mode, the snapshot stack and the heads. -/

namespace Sys2Proof.Machine

/-! ### Latching, reporting and the stop-cause set -/

theorem State.latchReport_record (s : State) (k : Cause) (st sl : Option Nat) (c : FaultClass) :
    (s.latchReport k st sl).record c =
      if c = k.cls then { s.record c with latched := true, lastCause := some k, lastStation := st } else s.record c := by
  have e : (s.latchReport k st sl).faults.records =
      (s.updRecord k.cls fun r => { r with latched := true, lastCause := some k, lastStation := st }).faults.records := rfl
  rw [State.record_congr e, State.record_updRecord_eq]

@[simp] theorem State.latchReport_heads (s : State) (k : Cause) (st sl : Option Nat) :
    (s.latchReport k st sl).heads = s.heads := rfl
@[simp] theorem State.latchReport_head (s : State) (k : Cause) (st sl : Option Nat) (h : HeadId) :
    (s.latchReport k st sl).head h = s.head h := rfl
@[simp] theorem State.latchReport_store (s : State) (k : Cause) (st sl : Option Nat) :
    (s.latchReport k st sl).store = s.store := rfl
@[simp] theorem State.latchReport_scanner (s : State) (k : Cause) (st sl : Option Nat) :
    (s.latchReport k st sl).scanner = s.scanner := rfl
@[simp] theorem State.latchReport_discharge (s : State) (k : Cause) (st sl : Option Nat) :
    (s.latchReport k st sl).discharge = s.discharge := rfl
@[simp] theorem State.latchReport_mode (s : State) (k : Cause) (st sl : Option Nat) :
    (s.latchReport k st sl).faults.mode = s.faults.mode := rfl
@[simp] theorem State.latchReport_snapshots (s : State) (k : Cause) (st sl : Option Nat) :
    (s.latchReport k st sl).faults.snapshots = s.faults.snapshots := rfl

@[simp] theorem State.addStop_heads (s : State) (c : FaultClass) : (s.addStop c).heads = s.heads := by
  unfold State.addStop; dsimp only; split <;> rfl
@[simp] theorem State.addStop_store (s : State) (c : FaultClass) : (s.addStop c).store = s.store := by
  unfold State.addStop; dsimp only; split <;> rfl
@[simp] theorem State.addStop_reports (s : State) (c : FaultClass) : (s.addStop c).reports = s.reports := by
  unfold State.addStop; dsimp only; split <;> rfl
@[simp] theorem State.addStop_mode (s : State) (c : FaultClass) : (s.addStop c).faults.mode = s.faults.mode := by
  unfold State.addStop; dsimp only; split <;> rfl
@[simp] theorem State.addStop_snapshots (s : State) (c : FaultClass) :
    (s.addStop c).faults.snapshots = s.faults.snapshots := by
  unfold State.addStop; dsimp only; split <;> rfl

/-- A class added to the stop-cause set joins it, and no other class moves in or out of it (R137). -/
theorem State.addStop_inStop (s : State) (c d : FaultClass) :
    ((s.addStop c).record d).inStop = if d = c then true else (s.record d).inStop := by
  unfold State.addStop
  dsimp only
  split
  · rw [State.record_updRecord_eq]
    have q : ((s.updRecord c fun r => { r with inStop := true }).record d).inStop =
        if d = c then true else (s.record d).inStop := by
      rw [State.record_updRecord_eq]; split <;> rfl
    rw [← q]
    split <;> rfl
  · by_cases f : d = c <;> simp [State.record_updRecord_eq, f]

/-- Adding a class keeps every latch. -/
theorem State.addStop_latched (s : State) (c d : FaultClass) :
    ((s.addStop c).record d).latched = (s.record d).latched := by
  unfold State.addStop
  dsimp only
  split
  · rw [State.record_updRecord_eq]
    have q : ((s.updRecord c fun r => { r with inStop := true }).record d).latched = (s.record d).latched := by
      rw [State.record_updRecord_eq]; split <;> rfl
    rw [← q]
    split <;> rfl
  · by_cases f : d = c <;> simp [State.record_updRecord_eq, f]

/-! ### The part abort (R69) -/

/-- What the part abort makes of a head, but for the Scanner's fields. -/
def Head.partAborted (c : Head) (ventLimit : Nat) (skip : SkipReason) (cause : Option Cause) : Head :=
  match c.state with
  | .running => ({ c with lastFault := cause.or c.lastFault } : Head).aborted ventLimit
  | .seating =>
    ({ c with lastFault := cause.or c.lastFault, pin := none, state := .emptyPass, level := 0 } : Head).withRecord
      .skipped (some skip) c.pin
  | _ => c

@[simp] theorem State.abortHead_faults (s : State) (h : HeadId) (k : SkipReason) (c : Option Cause) :
    (s.abortHead h k c).faults = s.faults := by
  unfold State.abortHead; split <;> simp
@[simp] theorem State.abortHead_reports (s : State) (h : HeadId) (k : SkipReason) (c : Option Cause) :
    (s.abortHead h k c).reports = s.reports := by
  unfold State.abortHead; split <;> simp
@[simp] theorem State.abortHead_discharge (s : State) (h : HeadId) (k : SkipReason) (c : Option Cause) :
    (s.abortHead h k c).discharge = s.discharge := by
  unfold State.abortHead; split <;> simp
@[simp] theorem State.abortHead_sequencer (s : State) (h : HeadId) (k : SkipReason) (c : Option Cause) :
    (s.abortHead h k c).sequencer = s.sequencer := (Keeps.abortHead (State.Keeps.refl s) h k c).sequencer

/-- The part abort reaching one head changes that head alone. -/
theorem State.abortHead_head (s : State) (h g : HeadId) (k : SkipReason) (c : Option Cause) :
    ((s.abortHead h k c).head g).butScan =
      if g = h then ((s.head h).partAborted s.sequencer.ventLimit k c).butScan else (s.head g).butScan := by
  unfold State.abortHead Head.partAborted
  by_cases x : g = h
  · subst x
    cases e : (s.head g).state <;> simp [State.enterAborting_head, State.giveUpSeating_head, e]
  · cases e : (s.head h).state <;>
      simp [State.enterAborting_head, State.giveUpSeating_head, x, State.head_updHead_ne]

/-! ### Entry to SAFE (R130) -/

@[simp] theorem State.pushSnapshot_mode (s : State) (h : HeadId) (k : Cause) :
    (s.pushSnapshot h k).faults.mode = s.faults.mode := by
  unfold State.pushSnapshot; split <;> rfl

@[simp] theorem State.parityRecord_faults (s : State) (h : HeadId) : (s.parityRecord h).faults = s.faults := by
  unfold State.parityRecord; dsimp only; split <;> simp

/-- A context parity error without its part-level effects keeps the mode. -/
@[simp] theorem State.parityCore_mode (s : State) (h : HeadId) : (s.parityCore h).faults.mode = s.faults.mode := by
  unfold State.parityCore
  split
  · rfl
  · dsimp only
    split <;> simp
  · dsimp only
    split <;> split <;> simp

@[simp] theorem State.safeAbort_mode (s : State) (c : Option Cause) : (s.safeAbort c).faults.mode = s.faults.mode := by
  unfold State.safeAbort
  generalize s.headOrder = l
  induction l generalizing s with
  | nil => rfl
  | cons h t ih =>
    rw [List.foldl_cons, ih]
    split
    · split <;> simp
    · rfl

/-- Entry to SAFE leaves the mode SAFE. -/
@[simp] theorem State.enterSafe_mode (s : State) (c : Option Cause) : (s.enterSafe c).faults.mode = .safe := by
  unfold State.enterSafe
  split
  · assumption
  · dsimp only
    show (State.safeAbort _ c).faults.mode = .safe
    rw [State.safeAbort_mode]

theorem State.enterSafe_of_safe {s : State} (h : s.faults.mode = .safe) (c : Option Cause) : s.enterSafe c = s := by
  unfold State.enterSafe; rw [if_pos h]

/-! ### The part abort over all heads, with clean contexts -/

theorem Head.abortable_of_state {c d : Head} (h : c.state = d.state) : c.abortable = d.abortable := by
  unfold Head.abortable; rw [h]

theorem Head.partAborted_not_abortable (c : Head) (n : Nat) (k : SkipReason) (x : Option Cause) :
    (c.partAborted n k x).abortable = false := by
  unfold Head.partAborted
  cases e : c.state <;> simp [Head.abortable, e, Head.aborted]

theorem Head.partAborted_of_not_abortable {c : Head} (h : c.abortable = false) (n : Nat) (k : SkipReason)
    (x : Option Cause) : c.partAborted n k x = c := by
  unfold Head.partAborted
  cases e : c.state <;> simp_all [Head.abortable]

theorem Head.partAborted_clean (c : Head) (n : Nat) (k : SkipReason) (x : Option Cause) :
    (c.partAborted n k x).clean = c.clean := by
  unfold Head.partAborted
  cases e : c.state <;> simp [Head.aborted, Head.vented, Head.withoutSegment]

/-- The Scanner's fields play no part in a part abort. -/
theorem Head.partAborted_butScan (c : Head) (n : Nat) (k : SkipReason) (x : Option Cause) :
    (c.butScan.partAborted n k x).butScan = (c.partAborted n k x).butScan := by
  rcases c with ⟨offset, calib, state, level, cycle, pin, segIndex, phase, startAngle, lastClosed, rampPos, valves, arm,
    bases, liquidTotal, syrupTotal, lastObs, overrun, hold, withdraw, ventTimer, lastFault, record, work, deadlineMet,
    clean, meter, scan⟩
  cases state <;> cases record <;> rfl

/-- One head of the part abort on entry to SAFE. -/
def State.safeAbortStep (c : Option Cause) (s : State) (h : HeadId) : State :=
  if (s.head h).abortable then
    if (s.head h).clean then s.abortHead h .mode c else s.parityCore h
  else s

theorem State.safeAbort_eq (s : State) (c : Option Cause) :
    s.safeAbort c = s.headOrder.foldl (State.safeAbortStep c) s := rfl

theorem State.safeAbortStep_clean {s : State} (c : Option Cause) (h : HeadId) (clean : (s.head h).clean = true) :
    (s.safeAbortStep c h).faults = s.faults ∧ (s.safeAbortStep c h).reports = s.reports ∧
      (s.safeAbortStep c h).sequencer = s.sequencer ∧
      ∀ g, ((s.safeAbortStep c h).head g).butScan =
        if g = h then ((s.head h).partAborted s.sequencer.ventLimit .mode c).butScan else (s.head g).butScan := by
  unfold State.safeAbortStep
  simp only [clean, if_true]
  split
  · exact ⟨by simp, by simp, by simp, fun g => s.abortHead_head h g .mode c⟩
  · next e =>
    refine ⟨rfl, rfl, rfl, fun g => ?_⟩
    split
    · next x =>
      subst x
      rw [Head.partAborted_of_not_abortable (by simpa using e)]
    · rfl

/-- With clean contexts the part abort on entry to SAFE changes the heads alone: each RUNNING or SEATING one as R69
gives, every other but for the Scanner's fields not at all. -/
theorem State.safeAbort_clean (s : State) (c : Option Cause) (clean : ∀ h, (s.head h).clean = true) :
    (s.safeAbort c).faults = s.faults ∧ (s.safeAbort c).reports = s.reports ∧
      ∀ h, ((s.safeAbort c).head h).butScan = ((s.head h).partAborted s.sequencer.ventLimit .mode c).butScan := by
  have run : ∀ (l : List HeadId) (t : State), (∀ h, (t.head h).clean = true) →
      t.sequencer.ventLimit = s.sequencer.ventLimit →
      (l.foldl (State.safeAbortStep c) t).faults = t.faults ∧ (l.foldl (State.safeAbortStep c) t).reports = t.reports ∧
      ∀ h, ((l.foldl (State.safeAbortStep c) t).head h).butScan =
        if h ∈ l then ((t.head h).partAborted s.sequencer.ventLimit .mode c).butScan else (t.head h).butScan := by
    intro l
    induction l with
    | nil => intro t _ _; exact ⟨rfl, rfl, fun h => by simp⟩
    | cons a l ih =>
      intro t ct vt
      obtain ⟨e1, e2, e3, e4⟩ := State.safeAbortStep_clean c a (ct a)
      have ct' : ∀ h, ((t.safeAbortStep c a).head h).clean = true := by
        intro h
        have q := e4 h
        by_cases x : h = a
        · subst x
          rw [if_pos rfl] at q
          rw [Head.field_eq_of_butScan Head.clean (fun _ => rfl) q, Head.partAborted_clean]
          exact ct h
        · rw [if_neg x] at q
          rw [Head.field_eq_of_butScan Head.clean (fun _ => rfl) q]
          exact ct h
      obtain ⟨i1, i2, i3⟩ := ih (t.safeAbortStep c a) ct' (by rw [e3]; exact vt)
      refine ⟨i1.trans e1, i2.trans e2, fun h => ?_⟩
      rw [List.foldl_cons, i3 h]
      have q := e4 h
      rw [vt] at q
      by_cases x : h = a
      · subst x
        rw [if_pos rfl] at q
        rw [if_pos (List.mem_cons_self)]
        split
        · rw [← Head.partAborted_butScan, q, Head.partAborted_butScan,
            Head.partAborted_of_not_abortable (Head.partAborted_not_abortable _ _ _ _)]
        · exact q
      · rw [if_neg x] at q
        simp only [List.mem_cons, x, false_or]
        split
        · rw [← Head.partAborted_butScan, q, Head.partAborted_butScan]
        · exact q
  rw [State.safeAbort_eq]
  obtain ⟨e1, e2, e3⟩ := run s.headOrder s clean rfl
  refine ⟨e1, e2, fun h => ?_⟩
  rw [e3 h, if_pos (s.mem_headOrder h)]

/-- Entry to SAFE from another mode with clean contexts: the mode, one MODE report, and the part abort. -/
theorem State.enterSafe_clean {s : State} (m : s.faults.mode ≠ .safe) (c : Option Cause)
    (clean : ∀ h, (s.head h).clean = true) :
    (s.enterSafe c).faults = { s.faults with mode := .safe } ∧
      (s.enterSafe c).reports = s.reports.create (.mode s.faults.mode .safe (c.map Cause.cls)) ∧
      ∀ h, ((s.enterSafe c).head h).butScan = ((s.head h).partAborted s.sequencer.ventLimit .mode c).butScan := by
  unfold State.enterSafe
  rw [if_neg m]
  obtain ⟨e1, e2, e3⟩ := State.safeAbort_clean { s with faults := { s.faults with mode := .safe } } c clean
  refine ⟨e1, ?_, e3⟩
  show ReportQueue.create (State.safeAbort _ c).reports _ = _
  rw [e2]

end Sys2Proof.Machine
end

