-- ==== Sys2Proof/Laws/Gateway.lean ====
section
/-! SUPPORT. What taking a frame and taking a request do, said once for every command that comes in a ring frame. -/

namespace Sys2Proof.Machine

/-! ### What taking a request changes before it is executed -/

@[simp] theorem State.plainRestart_pending (s : State) : s.plainRestart.pending = s.pending := by
  unfold State.plainRestart State.restartWatchdog; split <;> try split
  all_goals rfl

@[simp] theorem State.taken_pending (s : State) : s.taken.pending = s.pending := by
  unfold State.taken; rw [State.plainRestart_pending]; rfl

@[simp] theorem State.plainRestart_arbiter (s : State) : s.plainRestart.arbiter = s.arbiter := by
  unfold State.plainRestart State.restartWatchdog; split <;> try split
  all_goals rfl

@[simp] theorem State.taken_arbiter (s : State) : s.taken.arbiter = s.arbiter := by
  unfold State.taken; rw [State.plainRestart_arbiter]; rfl

@[simp] theorem State.plainRestart_resets (s : State) : s.plainRestart.resets = s.resets := by
  unfold State.plainRestart State.restartWatchdog; split <;> try split
  all_goals rfl

@[simp] theorem State.taken_resets (s : State) : s.taken.resets = s.resets := by
  unfold State.taken; rw [State.plainRestart_resets]; rfl

@[simp] theorem State.plainRestart_lineHeld (s : State) : s.plainRestart.lineHeld = s.lineHeld := by
  unfold State.plainRestart State.restartWatchdog; split <;> try split
  all_goals rfl

@[simp] theorem State.taken_lineHeld (s : State) : s.taken.lineHeld = s.lineHeld := by
  unfold State.taken; rw [State.plainRestart_lineHeld]; rfl

@[simp] theorem State.plainRestart_tracker (s : State) : s.plainRestart.tracker = s.tracker := by
  unfold State.plainRestart State.restartWatchdog; split <;> try split
  all_goals rfl

@[simp] theorem State.taken_tracker (s : State) : s.taken.tracker = s.tracker := by
  unfold State.taken; rw [State.plainRestart_tracker]; rfl

@[simp] theorem State.plainRestart_zones (s : State) : s.plainRestart.zones = s.zones := by
  unfold State.plainRestart State.restartWatchdog; split <;> try split
  all_goals rfl

@[simp] theorem State.taken_zones (s : State) : s.taken.zones = s.zones := by
  unfold State.taken; rw [State.plainRestart_zones]; rfl

@[simp] theorem State.plainRestart_store (s : State) : s.plainRestart.store = s.store := by
  unfold State.plainRestart State.restartWatchdog; split <;> try split
  all_goals rfl

@[simp] theorem State.taken_store (s : State) : s.taken.store = s.store := by
  unfold State.taken; rw [State.plainRestart_store]; rfl

@[simp] theorem State.plainRestart_sequencer (s : State) : s.plainRestart.sequencer = s.sequencer := by
  unfold State.plainRestart State.restartWatchdog; split <;> try split
  all_goals rfl

@[simp] theorem State.taken_sequencer (s : State) : s.taken.sequencer = s.sequencer := by
  unfold State.taken; rw [State.plainRestart_sequencer]; rfl

@[simp] theorem State.plainRestart_meterUnit (s : State) : s.plainRestart.meterUnit = s.meterUnit := by
  unfold State.plainRestart State.restartWatchdog; split <;> try split
  all_goals rfl

@[simp] theorem State.taken_meterUnit (s : State) : s.taken.meterUnit = s.meterUnit := by
  unfold State.taken; rw [State.plainRestart_meterUnit]; rfl

@[simp] theorem State.plainRestart_heads (s : State) : s.plainRestart.heads = s.heads := by
  unfold State.plainRestart State.restartWatchdog; split <;> try split
  all_goals rfl

@[simp] theorem State.taken_heads (s : State) : s.taken.heads = s.heads := by
  unfold State.taken; rw [State.plainRestart_heads]; rfl

@[simp] theorem State.plainRestart_scanner (s : State) : s.plainRestart.scanner = s.scanner := by
  unfold State.plainRestart State.restartWatchdog; split <;> try split
  all_goals rfl

@[simp] theorem State.taken_scanner (s : State) : s.taken.scanner = s.scanner := by
  unfold State.taken; rw [State.plainRestart_scanner]; rfl

@[simp] theorem State.plainRestart_discharge (s : State) : s.plainRestart.discharge = s.discharge := by
  unfold State.plainRestart State.restartWatchdog; split <;> try split
  all_goals rfl

@[simp] theorem State.taken_discharge (s : State) : s.taken.discharge = s.discharge := by
  unfold State.taken; rw [State.plainRestart_discharge]; rfl

@[simp] theorem State.plainRestart_reports (s : State) : s.plainRestart.reports = s.reports := by
  unfold State.plainRestart State.restartWatchdog; split <;> try split
  all_goals rfl

@[simp] theorem State.taken_reports (s : State) : s.taken.reports = s.reports := by
  unfold State.taken; rw [State.plainRestart_reports]; rfl

@[simp] theorem State.plainRestart_management (s : State) : s.plainRestart.management = s.management := by
  unfold State.plainRestart State.restartWatchdog; split <;> try split
  all_goals rfl

@[simp] theorem State.taken_management (s : State) : s.taken.management = s.management := by
  unfold State.taken; rw [State.plainRestart_management]; rfl

@[simp] theorem State.plainRestart_ringOut (s : State) : s.plainRestart.ringOut = s.ringOut := by
  unfold State.plainRestart State.restartWatchdog; split <;> try split
  all_goals rfl

@[simp] theorem State.taken_ringOut (s : State) : s.taken.ringOut = s.ringOut := by
  unfold State.taken; rw [State.plainRestart_ringOut]; rfl

@[simp] theorem State.plainRestart_busOut (s : State) : s.plainRestart.busOut = s.busOut := by
  unfold State.plainRestart State.restartWatchdog; split <;> try split
  all_goals rfl

@[simp] theorem State.taken_busOut (s : State) : s.taken.busOut = s.busOut := by
  unfold State.taken; rw [State.plainRestart_busOut]; rfl

@[simp] theorem State.taken_faults_mode (s : State) : s.taken.faults.mode = s.faults.mode := by
  unfold State.taken State.plainRestart State.restartWatchdog; split <;> try split
  all_goals rfl

@[simp] theorem State.taken_faults_lockoutLimit (s : State) : s.taken.faults.lockoutLimit = s.faults.lockoutLimit := by
  unfold State.taken State.plainRestart State.restartWatchdog; split <;> try split
  all_goals rfl

@[simp] theorem State.taken_faults_pressure (s : State) : s.taken.faults.pressure = s.faults.pressure := by
  unfold State.taken State.plainRestart State.restartWatchdog; split <;> try split
  all_goals rfl

@[simp] theorem State.taken_faults_temperature (s : State) : s.taken.faults.temperature = s.faults.temperature := by
  unfold State.taken State.plainRestart State.restartWatchdog; split <;> try split
  all_goals rfl

@[simp] theorem State.taken_faults_snapshots (s : State) : s.taken.faults.snapshots = s.faults.snapshots := by
  unfold State.taken State.plainRestart State.restartWatchdog; split <;> try split
  all_goals rfl

@[simp] theorem State.taken_faults_overflow (s : State) : s.taken.faults.overflow = s.faults.overflow := by
  unfold State.taken State.plainRestart State.restartWatchdog; split <;> try split
  all_goals rfl

@[simp] theorem State.taken_upper (s : State) : s.taken.faults.watchdog.upper = s.faults.watchdog.upper := by
  unfold State.taken State.plainRestart State.restartWatchdog; split <;> try split
  all_goals rfl

@[simp] theorem State.taken_lower (s : State) : s.taken.faults.watchdog.lower = s.faults.watchdog.lower := by
  unfold State.taken State.plainRestart State.restartWatchdog; split <;> try split
  all_goals rfl

@[simp] theorem State.taken_head (s : State) (h : HeadId) : s.taken.head h = s.head h :=
  State.head_congr (State.taken_heads s) h

@[simp] theorem State.taken_slot (s : State) (j : SlotId) : s.taken.slot j = s.slot j :=
  State.slot_congr (State.taken_store s) j

@[simp] theorem State.taken_held (s : State) : s.taken.held = s.held := by
  simp [State.held, State.inReset]

/-- Of the class records, taking a request changes the condition of HEARTBEAT alone (R148). -/
theorem State.taken_record (s : State) (c : FaultClass) (hc : c ≠ .heartbeat) : s.taken.record c = s.record c := by
  unfold State.taken State.plainRestart State.restartWatchdog
  split
  · rfl
  · split
    · rfl
    · rfl
    · rw [State.setCondition, State.record_updRecord_eq, if_neg hc]; rfl

/-! ### Frames and requests -/

theorem State.takeFrame_held {s : State} (h : s.held = true) (f : Frame) (act : State → State) :
    s.takeFrame f act = { s with ringOut := s.ringOut ++ [f] } := by
  simp [State.takeFrame, h, State.sendRing]

theorem State.takeFrame_live {s : State} (h : s.held = false) (f : Frame) (act : State → State) :
    s.takeFrame f act = act s := by
  simp [State.takeFrame, h]

theorem State.takeRequest_held {s : State} (h : s.held = true) (q : RawRequest) (b : Bool) (run : State → Answer) :
    s.takeRequest q b run = { s with ringOut := s.ringOut ++ [requestBytes q] } :=
  State.takeFrame_held h _ _

theorem State.takeAddressed_held {s : State} (h : s.held = true) (e : Envelope) (k : Byte) (used : List Byte)
    (run : State → Answer) :
    s.takeAddressed e k used run = { s with ringOut := s.ringOut ++ [requestBytes (rawOf e k used)] } :=
  State.takeRequest_held h _ _ _

theorem State.takeEither_held {s : State} (h : s.held = true) (e : Envelope) (k : Byte) (used : List Byte)
    (run : State → Answer) :
    s.takeEither e k used run = { s with ringOut := s.ringOut ++ [requestBytes (rawOf e k used)] } :=
  State.takeRequest_held h _ _ _

/-- A request that the part hears is executed on `s.taken`, and its REPLY is sent on (R159). -/
theorem State.takeRequest_hears {s : State} {e : Envelope} (h : s.hears e) (k : Byte) (used : List Byte) (b : Bool)
    (run : State → Answer) :
    s.takeRequest (rawOf e k used) b run =
      (run s.taken).after.replied e k (run s.taken).status (run s.taken).contents := by
  obtain ⟨h1, h2, h3⟩ := h
  have hne : ¬ e.address = 15 := by
    intro c; rw [c] at h2; simp at h2; omega
  unfold State.takeRequest
  rw [State.takeFrame_live h1]
  have hne' : ¬ (rawOf e k used).address = 15 := hne
  have heq : (rawOf e k used).address.toNat = s.goodFrame.management.address := h2
  simp only [if_neg hne', if_pos heq]
  rfl

theorem State.takeAddressed_hears {s : State} {e : Envelope} (h : s.hears e) (k : Byte) (used : List Byte)
    (run : State → Answer) :
    s.takeAddressed e k used run =
      (run s.taken).after.replied e k (run s.taken).status (run s.taken).contents :=
  State.takeRequest_hears h k used false run

theorem State.takeEither_hears {s : State} {e : Envelope} (h : s.hears e) (k : Byte) (used : List Byte)
    (run : State → Answer) :
    s.takeEither e k used run =
      (run s.taken).after.replied e k (run s.taken).status (run s.taken).contents :=
  State.takeRequest_hears h k used true run

/-- A broadcast is sent on unchanged, and executed on `s.taken` where its kind is one that a broadcast takes (R160). -/
theorem State.takeRequest_broadcast {s : State} (h : s.held = false) (q : RawRequest) (hq : q.address = 15) (b : Bool)
    (run : State → Answer) :
    s.takeRequest q b run = (if b then (run s.taken).after else s.taken).sendRing (requestBytes q) := by
  unfold State.takeRequest
  rw [State.takeFrame_live h]
  simp only [hq]
  cases b <;> rfl

/-- A request for another part is sent on unchanged (R159). -/
theorem State.takeRequest_foreign {s : State} (h : s.held = false) (q : RawRequest) (hq : q.address ≠ 15)
    (hn : q.address.toNat ≠ s.management.address) (b : Bool) (run : State → Answer) :
    s.takeRequest q b run = s.goodFrame.sendRing (requestBytes q) := by
  unfold State.takeRequest
  rw [State.takeFrame_live h]
  simp only []
  rw [if_neg hq, if_neg (show ¬ q.address.toNat = s.goodFrame.management.address from hn)]

end Sys2Proof.Machine
end

