-- ==== Sys2Proof/Laws/Reports.lean ====
section
/-! SUPPORT. What an insertion into the Report Queue and an eviction from it do. -/

namespace Sys2Proof.Machine

/-! ### Insertion (R164) -/

/-- An insertion puts the report between those of equal or higher priority in front and one of lower priority. -/
theorem insertReport_split (r : Report) (l : List Report) :
    ∃ before after, l = before ++ after ∧ insertReport r l = before ++ r :: after ∧
      (∀ x ∈ before, r.prio ≤ x.prio) ∧ ∀ x ∈ after.head?, x.prio < r.prio := by
  induction l with
  | nil => exact ⟨[], [], rfl, rfl, by simp, by simp⟩
  | cons x xs ih =>
    by_cases h : r.prio ≤ x.prio
    · obtain ⟨b, a, e, i, hb, ha⟩ := ih
      refine ⟨x :: b, a, by rw [e]; rfl, by simp [insertReport, h, i], ?_, ha⟩
      intro y hy
      rcases List.mem_cons.mp hy with rfl | hy
      · exact h
      · exact hb y hy
    · exact ⟨[], x :: xs, rfl, by simp [insertReport, h], by simp, by simpa using h⟩

@[simp] theorem insertReport_length (r : Report) (l : List Report) : (insertReport r l).length = l.length + 1 := by
  obtain ⟨b, a, e, i, -, -⟩ := insertReport_split r l
  rw [i, e]
  simp [Nat.add_assoc]

@[simp] theorem mem_insertReport (r x : Report) (l : List Report) : x ∈ insertReport r l ↔ x = r ∨ x ∈ l := by
  obtain ⟨b, a, e, i, -, -⟩ := insertReport_split r l
  rw [i, e]
  simp [or_left_comm]

/-- In an ordered queue everything behind the inserted report has a lower priority. -/
theorem insertReport_ordered_split (r : Report) {l : List Report} (h : l.Pairwise fun a b => b.prio ≤ a.prio) :
    ∃ before after, l = before ++ after ∧ insertReport r l = before ++ r :: after ∧
      (∀ x ∈ before, r.prio ≤ x.prio) ∧ ∀ x ∈ after, x.prio < r.prio := by
  obtain ⟨b, a, e, i, hb, ha⟩ := insertReport_split r l
  refine ⟨b, a, e, i, hb, ?_⟩
  cases a with
  | nil => simp
  | cons y ys =>
    have hy : y.prio < r.prio := by simpa using ha
    have p : (y :: ys).Pairwise fun a b => b.prio ≤ a.prio := (List.pairwise_append.mp (e ▸ h)).2.1
    intro x hx
    rcases List.mem_cons.mp hx with rfl | hx
    · exact hy
    · exact Nat.lt_of_le_of_lt ((List.pairwise_cons.mp p).1 x hx) hy

theorem insertReport_ordered (r : Report) {l : List Report} (h : l.Pairwise fun a b => b.prio ≤ a.prio) :
    (insertReport r l).Pairwise fun a b => b.prio ≤ a.prio := by
  obtain ⟨b, a, e, i, hb, ha⟩ := insertReport_ordered_split r h
  rw [e, List.pairwise_append] at h
  rw [i, List.pairwise_append, List.pairwise_cons]
  refine ⟨h.1, ⟨fun x hx => Nat.le_of_lt (ha x hx), h.2.1⟩, ?_⟩
  intro x hx y hy
  rcases List.mem_cons.mp hy with rfl | hy
  · exact hb x hx
  · exact h.2.2 x hx y hy

/-! ### Eviction (R165) -/

theorem lowestPrio_le {l : List Report} {x : Report} (h : x ∈ l) : lowestPrio l ≤ x.prio := by
  induction l with
  | nil => cases h
  | cons y ys ih =>
    rcases List.mem_cons.mp h with rfl | h
    · exact Nat.min_le_left _ _
    · exact Nat.le_trans (Nat.min_le_right _ _) (ih h)

theorem lowestPrio_le_four (l : List Report) : lowestPrio l ≤ 4 := by
  induction l with
  | nil => exact Nat.le_refl _
  | cons y ys ih => exact Nat.le_trans (Nat.min_le_right _ _) ih

/-- The lowest priority is that of a report held, or 4 where none is below 4. -/
theorem lowestPrio_mem (l : List Report) : lowestPrio l = 4 ∨ ∃ x ∈ l, x.prio = lowestPrio l := by
  induction l with
  | nil => exact Or.inl rfl
  | cons y ys ih =>
    have e : lowestPrio (y :: ys) = min y.prio (lowestPrio ys) := rfl
    rcases Nat.le_total y.prio (lowestPrio ys) with h | h
    · exact Or.inr ⟨y, by simp, by rw [e, Nat.min_eq_left h]⟩
    · rw [e, Nat.min_eq_right h]
      rcases ih with ih | ⟨x, hx, hp⟩
      · exact Or.inl ih
      · exact Or.inr ⟨x, List.mem_cons_of_mem _ hx, hp⟩

theorem evict_sublist (p : Nat) (l : List Report) : (evict p l).Sublist l := by
  have h : (l.reverse.eraseP fun r => r.prio == p).Sublist l.reverse := List.eraseP_sublist
  simpa [evict] using h.reverse

theorem evict_length {p : Nat} {l : List Report} (h : ∃ x ∈ l, x.prio = p) : (evict p l).length + 1 = l.length := by
  obtain ⟨x, hx, hp⟩ := h
  have e : (l.reverse.eraseP fun r => r.prio == p).length = l.reverse.length - 1 :=
    List.length_eraseP_of_mem (List.mem_reverse.mpr hx) (by simpa using hp)
  have pos : 0 < l.length := List.length_pos_of_mem hx
  simp only [evict, List.length_reverse] at e ⊢
  omega

/-- In an ordered queue the newest report of the lowest priority is the last one. -/
theorem evict_last (l : List Report) (x : Report) : evict x.prio (l ++ [x]) = l := by
  simp [evict]

/-! ### What a report created does -/

/-- A report placed leaves a queue within its size within it. -/
theorem ReportQueue.place_length {q : ReportQueue} (r : Report) (h : q.queue.length ≤ Config.queueSize)
    (low : r.prio ≤ 4) : (q.place r).queue.length ≤ Config.queueSize := by
  unfold ReportQueue.place
  split
  · next hl => simpa using hl
  · split
    · next hl =>
      have e := evict_length (l := q.queue) ((lowestPrio_mem q.queue).resolve_left (by omega))
      simp only [insertReport_length]
      omega
    · exact h

theorem ReportQueue.place_ordered {q : ReportQueue} (r : Report)
    (h : q.queue.Pairwise fun a b => b.prio ≤ a.prio) : (q.place r).queue.Pairwise fun a b => b.prio ≤ a.prio := by
  unfold ReportQueue.place
  split
  · exact insertReport_ordered r h
  · split
    · exact insertReport_ordered r (h.sublist (evict_sublist _ _))
    · exact h

/-- Whatever is held after a report is placed was held before or is that report. -/
theorem ReportQueue.mem_place {q : ReportQueue} {r x : Report} (h : x ∈ (q.place r).queue) : x = r ∨ x ∈ q.queue := by
  unfold ReportQueue.place at h
  split at h
  · simpa using h
  · split at h
    · rcases (mem_insertReport _ _ _).mp h with e | e
      · exact Or.inl e
      · exact Or.inr ((evict_sublist _ _).mem e)
    · exact Or.inr h

/-- A report of a kind with priority 0 is not created (R163). -/
theorem ReportQueue.create_zero {q : ReportQueue} {b : ReportBody} (h : q.prioOf b.kind = 0) : q.create b = q := by
  unfold ReportQueue.create; rw [if_pos h]

theorem ReportQueue.create_place {q : ReportQueue} {b : ReportBody} (h : q.prioOf b.kind ≠ 0) :
    q.create b = q.place { prio := q.prioOf b.kind, body := b } := by
  unfold ReportQueue.create; rw [if_neg h]

/-- The queue stays as R162 says after any report handed over. -/
theorem State.report_queueOrdered {s : State} (h : s.QueueOrdered) (b : ReportBody) : (s.report b).QueueOrdered := by
  obtain ⟨h1, h2, h3, h4⟩ := h
  by_cases z : s.reports.prioOf b.kind = 0
  · have e : s.report b = s := by unfold State.report; rw [ReportQueue.create_zero z]
    rw [e]
    exact ⟨h1, h2, h3, h4⟩
  · have e : (s.report b).reports = s.reports.place { prio := s.reports.prioOf b.kind, body := b } := by
      unfold State.report; rw [ReportQueue.create_place z]
    refine ⟨?_, ?_, ?_, ?_⟩
    · rw [e]; exact ReportQueue.place_length _ h1 (Nat.le_succ_of_le (h4 _))
    · rw [e]; exact ReportQueue.place_ordered _ h2
    · intro r hr
      rw [e] at hr
      rcases ReportQueue.mem_place hr with rfl | hr
      · exact ⟨Nat.pos_of_ne_zero z, h4 _⟩
      · exact h3 r hr
    · intro k
      rw [e]
      simp only [ReportQueue.prioOf, ReportQueue.place_prios]
      exact h4 k

end Sys2Proof.Machine
end

