-- ==== Sys2Proof/Tests/Slice0.lean ====
section
/-! SUPPORT. Checks of the model against numbers the manual prints, one small test for most commands, and for every
obligation with hypotheses a concrete state that meets them. -/

namespace Sys2Proof.Tests

open Sys2Proof Sys2Proof.Machine

-- One test at a time: each one waits for the declarations before it, and a thread that waits keeps its stack.
set_option Elab.async false

/-! ## States and operands -/

/-- A request to the part at address 0, with the body bytes that a kind of `n` bytes leaves. -/
def env (n : Nat) : Envelope := ⟨0, 7, 0, List.replicate (96 - n) 0⟩

/-- The state a command leaves; every command leaves one. -/
def after (i : Instr) (s : State) : State :=
  match exec i s with
  | .next t => t
  | _ => s

def s0 : State := State.reset

/-- A part out of SAFE: no class in the stop-cause set. -/
def inMode (m : Mode) (s : State) : State :=
  (s.updRecord .reset fun r => { r with latched := false, inStop := false }) |> fun s =>
    { s with faults := { s.faults with mode := m } }

/-- A part with CPR 4096, Θs 60, Θd 2500, base gap 16, 20 heads from station 32, and one FILL zone. -/
def configured (s : State) : State :=
  { s with
    tracker := { s.tracker with cpr := 4096, maxStep := 32 }
    zones := { s.zones with
      seatEnd := 60, dischargeAngle := 2500
      rows := s.zones.rows.set 0 ⟨true, 100, 2400, 0x7f, 10, 4⟩ }
    management := { s.management with headCount := 20, stationBase := 32 } }

def cal : Calib := ⟨2480, 35, 5900, -20, 55⟩

def idle : Head := { Head.blank with state := .idle, offset := some 0, calib := some cal, overrun := 55 }

def thePin : Pin := ⟨3, 1, 411⟩

def seating : Head := { idle with state := .seating, pin := some thePin, cycle := 1 }

def running : Head := { seating with state := .running, phase := some .pending, bases := some ⟨40000, 0⟩ }

def fillWork : Work := ⟨⟨3300, 30, 30, 160, 8⟩, ⟨.fill, 12, 3, 30, .volume, 1000, 0, 1100⟩⟩

/-- RUNNING in an ACTIVE FILL whose final cut is armed. -/
def filling : Head :=
  { running with
    phase := some .active, startAngle := some 600, work := some fillWork, rampPos := some 600
    valves := ⟨true, false, 3, false⟩, arm := some ⟨.liquid, 671⟩, lastObs := some ⟨300, false, true, .rest, false, 0, 0, 0⟩ }

def aborting : Head :=
  { idle with state := .aborting, level := 1, valves := .venting, ventTimer := some 1500 }

def aRecord : DoseRecord :=
  { verdict := .under, skip := none, cycle := 1, pin := some thePin, liquid := 1, syrup := 2, estimate := none
    observed := none, fault := none, completed := 3 }

def doneHead : Head := { idle with state := .done, record := some aRecord }

def locked : Head := { idle with state := .lockout, level := 3, valves := .venting }

/-- Head 2 as given, in a part that has slot 3 ACTIVE with one user. -/
def withHead (c : Head) (s : State) : State :=
  (s.setHead 2 c).setSlot 3 { s.slot 3 with state := .active, users := 1, gen := 1, profile := some 411 }

/-- A locked tracker at a position. -/
def lockedAt (p : Pos) (s : State) : State :=
  { s with tracker := { s.tracker with state := .locked, ref := some p, pos := some p, gapTimer := some 4 } }

/-- An exchange in flight to head 2. -/
def flight : InFlight :=
  { head := 2, seq := 5, valves := .rest, arm := none, rampDone := true, predates := false, discard := false
    urgent := false, timer := 20 }

def onBus (s : State) : State := { s with scanner := { s.scanner with inFlight := some flight } }

/-- The STATUS frame of head 2 that answers `flight`. -/
def statusFrame (liquid syrup pressure : Nat) (flags : Byte) : Frame :=
  sealBus (nat8 2 ++ nat8 5 ++ nat16 liquid ++ nat16 syrup ++ nat16 pressure ++ [flags, 0, 0, 0, 0])

/-! ## Layouts and CRCs (chapter 10) -/

/-- The ASCII digits 1 to 9. -/
def digits : List Byte := [0x31, 0x32, 0x33, 0x34, 0x35, 0x36, 0x37, 0x38, 0x39]

theorem test_ring_crc_of_digits : ringCrc digits = 0xFC891918#32 := by decide +kernel
theorem test_bus_crc_of_digits : busCrc digits = 0x29B1#16 := by decide +kernel

theorem test_angle_frame_length : (angleBytes 1 2 3 4 0).length = 15 := by decide +kernel
theorem test_angle_frame_checks : ringOk (angleBytes 1 2 3 4 0) = true := by decide +kernel
theorem test_status_frame_length : (statusFrame 1 2 3 0).length = 15 := by decide +kernel
theorem test_status_frame_checks : statusOk (statusFrame 1 2 1000 0) = true := by decide +kernel
theorem test_status_pressure_out_of_range : statusOk (statusFrame 1 2 1001 0) = false := by decide +kernel

theorem test_decode_angle :
    decodeRingFrame false 0 9 (angleBytes 12 610 320 50 1) = .angleFrame 12 610 320 50 1 := by decide +kernel
set_option maxRecDepth 20000 in
theorem test_decode_set_mode :
    decodeRingFrame false 0 9 (requestBytes (rawOf (env 1) 2 [1])) = .setMode (env 1) 1 := by decide +kernel
set_option maxRecDepth 20000 in
theorem test_decode_foreign :
    decodeRingFrame false 4 9 (requestBytes (rawOf (env 1) 2 [1])) =
      .requestNotAddressed (rawOf (env 1) 2 [1]) := by decide +kernel
theorem test_decode_held : decodeRingFrame true 0 9 [1, 2, 3] = .ringBypass [1, 2, 3] := by decide +kernel
theorem test_decode_bad : decodeRingFrame false 0 9 [1, 2, 3] = .badFrame [1, 2, 3] := by decide +kernel
theorem test_decode_unknown_kind :
    decodeRingFrame false 0 9 (sealRing [9, 6]) = .unknownKindFrame (sealRing [9, 6]) := by decide +kernel
set_option maxRecDepth 20000 in
/-- A WRITE_CONFIG of the CPR, its bytes written out: item 1, selector 0, value 4096 (R180, R181). -/
theorem test_decode_write_cpr :
    decodeRingFrame false 3 9
      (sealRing ([4, 107, 3, 4, 0, 7, 0, 1, 0, 0, 0, 16, 0] ++ List.replicate 90 0)) =
      .writeConfigCpr ⟨3, 7, 0, List.replicate 90 0⟩ 0 4096 := by decide +kernel

/-! ## The worked cycle of chapter 4 -/

theorem test_syrup_target_pulses : pulsesFor 5900 (-20) 528 = 312 := by decide +kernel
theorem test_metered_volume : volumeOf 2480 35 554 = 2242 := by decide +kernel
theorem test_final_cut_pulses : pulsesFor 2480 35 2717 = 671 := by decide +kernel
theorem test_liquid_volume : volumeOf 2480 35 695 = 2812 := by decide +kernel
theorem test_syrup_volume : volumeOf 5900 (-20) 315 = 533 := by decide +kernel
theorem test_verdict_over : verdictOf ⟨3300, 30, 30, 160, 8⟩ 2812 533 = .over := by decide +kernel
theorem test_overrun_learned : learned 2 (2812 - 2717) 55 = 65 := by decide +kernel
theorem test_overrun_outside_window : plausible (3075 - 2717) 55 = false := by decide +kernel

/-! ## Well-formed commands -/

theorem test_wf_body_length : ¬WellFormed (.setMode ⟨0, 7, 0, []⟩ 1) := by decide +kernel
theorem test_wf_carrier : ¬WellFormed (.carrierFrame []) := by decide +kernel
theorem test_wf_report : ¬WellFormed (.reportFrame 1 1 0 0 []) := by decide +kernel
theorem test_wf_reply_kind : ¬WellFormed (.replyFrame (angleBytes 1 2 3 4 0)) := by decide +kernel
theorem test_wf_unknown_kind : ¬WellFormed (.unknownKindFrame (angleBytes 1 2 3 4 0)) := by decide +kernel
theorem test_wf_bad_frame : ¬WellFormed (.badFrame (angleBytes 1 2 3 4 0)) := by decide +kernel
theorem test_wf_foreign_broadcast : ¬WellFormed (.requestNotAddressed (rawOf ⟨15, 7, 0, List.replicate 95 0⟩ 9 [1])) := by
  decide +kernel
theorem test_wf_broadcast_kind : ¬WellFormed (.broadcast (rawOf ⟨15, 7, 0, List.replicate 95 0⟩ 2 [1])) := by
  decide +kernel
theorem test_wf_unknown_known : ¬WellFormed (.unknown (rawOf (env 1) 17 [1])) := by decide +kernel
theorem test_wf_address : ¬WellFormed (.heartbeat ⟨16, 7, 0, List.replicate 96 0⟩ 0) := by decide +kernel
theorem test_wf_read_table : ¬WellFormed (.read (env 2) 11 0) := by decide +kernel
theorem test_wf_write_item : ¬WellFormed (.writeConfig (env 6) 34 0 0) := by decide +kernel
theorem test_wf_addressed_only : ¬WellFormed (.popSnapshot ⟨15, 7, 0, List.replicate 96 0⟩) := by decide +kernel
theorem test_wf_accepts : WellFormed (.popSnapshot (env 0)) ∧ WellFormed (.setMode (env 1) 9) := by decide +kernel

/-! ## Commands, one step each -/

def replyStatus (t : State) : Byte := byteAt (t.ringOut.getLastD []) 6

def c0 : State := configured (inMode .standby s0)

theorem test_angle_first_base :
    (after (.angleFrame 12 610 320 50 0) c0).tracker.ref = some ⟨12, 610⟩ := by decide +kernel
theorem test_angle_walk_reaches_discharge :
    ((after (.angleFrame 12 2500 320 50 0) (lockedAt ⟨12, 2499⟩ (c0.setHead 2 doneHead))).head 2).state = .idle := by
  decide +kernel
theorem test_carrier_takes_reset_report :
    (after (.carrierFrame (List.replicate 32 0)) s0).ringOut =
      [sealRing ([3, 38, 0, 2, 0, 0, 0] ++ [0, 8, 1, 0, 0, 0, 3, 0] ++ List.replicate 19 0)] := by decide +kernel
theorem test_reply_passes : (after (.replyFrame [5, 6]) s0).ringOut = [[5, 6]] := by decide +kernel
theorem test_bad_frame_counted : (after (.badFrame [9]) s0).ring.badCount = 1 := by decide +kernel
theorem test_bad_frame_limit :
    (after (.badFrame [9]) { s0 with ring := { s0.ring with badCount := 3 } }).ring.badCount = 0 := by decide +kernel

theorem test_set_mode_standby :
    (after (.setMode (env 1) 1) (inMode .safe s0)).faults.mode = .standby := by decide +kernel
theorem test_set_mode_refused_after_reset : (after (.setMode (env 1) 1) s0).faults.mode = .safe := by decide +kernel
theorem test_clear_reset : (after (.clearFault (env 1) 8) s0).stopEmpty = true := by decide +kernel
theorem test_heartbeat_early :
    ((after (.heartbeat (env 0) 9999)
      { s0 with faults := { s0.faults with watchdog := ⟨true, 50, 1, .watching, some 50, 1⟩ } }).record
        .heartbeat).lastCause = some .heartbeatEarly := by decide +kernel

theorem test_head_row_length : (c0.headRow 2).length = 92 := by decide +kernel
theorem test_part_row_starts_with_presence : c0.partRow.take 3 = [3, 1, 0xC0] := by decide +kernel

theorem test_write_cpr :
    (after (.writeConfigCpr (env 6) 0 4096) (inMode .standby s0)).tracker.cpr = 4096 := by decide +kernel
theorem test_write_item_by_code :
    (after (.writeConfig (env 6) 10 0 20) (inMode .standby s0)).management.headCount = 20 := by decide +kernel
theorem test_write_high_limit_negative :
    (after (.writeConfigLowLimit (env 6) 1 0xFFFFFFFB) s0).faults.temperature.low = -5 := by decide +kernel
theorem test_write_lockout_action_refused :
    (after (.writeConfigAction (env 6) 7 0) s0).record .lockout = s0.record .lockout := by decide +kernel
theorem test_write_priority :
    (after (.writeConfigPriority (env 6) 5 3) s0).reports.prioOf .track = 3 := by decide +kernel

theorem test_write_zone :
    ((after (.writeZone (env 10) 1 ⟨1, 2400, 2500, 0xFF, 3, 4⟩) c0).zones.rows[1]).permitted = 0x7F := by
  decide +kernel
theorem test_begin :
    ((after (.beginSlot (env 13) 3 ⟨411, 7, 5000, 30, 50, 180, 10⟩) c0).slot 3).state = .loading := by decide +kernel
theorem test_drop_with_users :
    ((after (.drop (env 1) 3) (withHead running c0)).slot 3).state = .retiring := by decide +kernel
theorem test_enroll :
    ((after (.enroll (env 13) 2 100 ⟨2480, 35, 5900, 0xFFEC, 55⟩) c0).head 2).calib = some cal := by decide +kernel
theorem test_withdraw_running :
    ((after (.withdraw (env 1) 2) (withHead running c0)).head 2).state = .aborting := by decide +kernel
theorem test_withdraw_frees_user :
    ((after (.withdraw (env 1) 2) (withHead running c0)).slot 3).users = 0 := by decide +kernel
theorem test_release_lockout :
    ((after (.release (env 1) 2) (c0.setHead 2 locked)).head 2).state = .idle := by decide +kernel
theorem test_pop_empty :
    (after (.popSnapshot (env 0)) { s0 with faults := { s0.faults with overflow := true } }).faults.overflow = false := by
  decide +kernel

theorem test_reset_part_holds : (after (.resetPart (env 0)) s0).held = true := by decide +kernel
theorem test_reset_part_ends :
    (after (.resetPartResetEnd 5) (after .resetPartResetBegin (after (.resetPart (env 0)) s0))).management =
      ⟨5, 0, 0, .ring⟩ := by decide +kernel
theorem test_supply_cuts_frame :
    (after (.supplyLeavesRange (some 1)) { s0 with ringOut := [[1, 2], [3, 4]] }).ringOut = [[1, 2], [3]] := by
  decide +kernel
set_option maxRecDepth 20000 in
/-- Between the REPLY to a RESET_PART and its reset a pin reset cuts nothing, and that reset still begins (R161, R177). -/
theorem test_no_cut_while_held :
    let t := after (.resetPinAssert (some 1)) (after (.resetPart (env 0)) s0)
    t.ringOut = (after (.resetPart (env 0)) s0).ringOut ∧ t.resets.ringPending = true ∧
      (after .resetPartResetBegin t).resets.ringActive = true := by decide +kernel
/-- The reject output is inactive from the REPLY to a RESET_PART on (R116, R161). -/
theorem test_reject_output_inactive_while_held :
    let s : State := { s0 with discharge := { s0.discharge with pulse := some 40 } }
    s.rejectOutput = true ∧ (after (.resetPart (env 0)) s).rejectOutput = false := by decide +kernel
theorem test_pin_extends_power :
    (after (.powerOnResetEnd 0) { s0 with resets := ⟨true, false, true, false, false⟩ }).inReset = true := by
  decide +kernel

theorem test_line_falls :
    (after .stopLineFall (inMode .production s0)).faults.mode = .safe := by decide +kernel
theorem test_line_not_sensed_while_driving : (after .stopLineFall s0).record .external = s0.record .external := by
  decide +kernel

theorem test_gap_expiry : (after .gapTimerExpiry (lockedAt ⟨1, 5⟩ c0)).tracker.state = .holdover := by decide +kernel
theorem test_vent_expiry :
    ((after (.ventTimerExpiry 2) (c0.setHead 2 aborting)).head 2).state = .forced := by decide +kernel
theorem test_status_seats :
    ((after (.status ⟨statusFrame 7 8 300 2, false⟩) (onBus (lockedAt ⟨1, 2490⟩ (withHead seating c0)))).head 2).bases =
      some ⟨7, 8⟩ := by decide +kernel
theorem test_status_starts_fill_on_seat :
    (after (.status ⟨statusFrame 7 8 300 2, false⟩) (onBus (withHead seating c0))).busOut.length = 1 := by decide +kernel
theorem test_reply_timer_misses :
    ((after .replyTimerExpiry (onBus (c0.setHead 2 idle))).head 2).scan.miss = 1 := by decide +kernel
theorem test_second_miss_halts :
    ((after .replyTimerExpiry
      (onBus (withHead { running with scan := ⟨5, none, 1, none, false, false⟩ } c0))).head 2).state = .aborting := by
  decide +kernel
theorem test_verification_missing :
    ((after .verificationComplete
      { c0 with store := ⟨c0.store.slots.set 3 { c0.slot 3 with state := .verifying, segCount := some 1 }, some 3⟩ }).slot
        3).state = .loading := by decide +kernel

/-! ## States that meet the hypotheses of the statements, clause by clause, at the ends of each range -/

/-- The four facts that `hears` asks for. -/
theorem hears_of {s : State} {e : Envelope}
    (h : s.held = false ∧ e.address.toNat = s.management.address ∧ s.management.address ≤ 14) : s.hears e := h

def heldPart : State := { s0 with resets := ⟨false, false, false, true, false⟩ }

/-- A broadcast HEARTBEAT's envelope. -/
def envAll : Envelope := ⟨15, 7, 0, List.replicate 96 0⟩

theorem test_witness_StepRunsFrontCommand :
    ({ s0 with pending := [.pulseTimerExpiry] } : State).pending = [.pulseTimerExpiry] ∧ s0.pending = [] := ⟨rfl, rfl⟩

theorem test_witness_HeldPartBypassesFrames :
    heldPart.held = true ∧ ringFrameOf (.ringBypass [1]) = some [1] ∧
      (ringFrameOf (.popSnapshot (env 0))).isSome = true := by decide +kernel

theorem test_witness_UnknownKindSentOn : s0.held = false := rfl

theorem test_witness_BadFramesAreCounted :
    s0.held = false ∧
    (∀ n ∈ [0, 1, 2], ({ s0 with ring := { s0.ring with badCount := n } } : State).ring.badCount + 1 < s0.ring.limit) ∧
    s0.ring.limit ≤ ({ s0 with ring := { s0.ring with badCount := 3 } } : State).ring.badCount + 1 := by decide +kernel

theorem test_witness_CarrierTakesHeadReport :
    s0.held = false ∧ s0.reports.queue = [resetReport .power] ∧
      ({ s0 with reports := { s0.reports with queue := [] } } : State).reports.queue = [] := ⟨rfl, rfl, rfl⟩

theorem test_witness_PassingFramesGoOn :
    s0.held = false ∧ (2 : Byte) ≠ 1 ∧ s0.discharge.master = false ∧ (0 : Byte).toNat = s0.management.address ∧
      15 ≤ (15 : Byte).toNat := by decide +kernel

/-! ### The discharge master -/

/-- The payload of a DOSE report: verdict, station 33, cycle 9, position and dose sequence. -/
def dose (v : Verdict) (pos : Pos) (seq : Nat) : List Byte :=
  [0] ++ nat8 v.code ++ [0, 33, 0, 9] ++ List.replicate 15 0 ++ nat16 pos.rev ++ nat16 pos.count ++ nat16 seq

def master (last : Option Nat) (at_ : Option Pos) (held : List RejectEntry) : State :=
  { c0 with
    tracker := { c0.tracker with pos := at_ }
    discharge := { c0.discharge with
      master := true, gate := 6000, lastSeq := c0.discharge.lastSeq.set 1 last, schedule := held } }

def entry (n : Nat) : RejectEntry := ⟨1, n, 33, 9, .under, ⟨12, 2000⟩, 57152⟩

theorem test_witness_DoseReportsJudged :
    (master none none []).held = false ∧ (master none none []).discharge.master = true ∧
    (1 : Fin 15).val ≠ c0.management.address ∧
    Verdict.ofCode (byteAt (dose .under ⟨12, 2000⟩ 4) 1).toNat = some .under ∧
    (halfAt (dose .under ⟨12, 2000⟩ 4) 25).toNat = 4 ∧ (halfAt (dose .under ⟨12, 2000⟩ 4) 21).toNat = 12 ∧
    -- a duplicate of the schedule's, and of the table's
    (∃ e ∈ (master none none [entry 4]).discharge.schedule, e.source = (1 : Fin 15).val ∧ e.seq = 4) ∧
    (master (some 4) none []).discharge.last 1 = some 4 ∧
    -- in order: none before, and 65535 before 0
    (master none none []).discharge.last 1 = none ∧ (master (some 65535) none []).discharge.last 1 = some 65535 ∧
    0 = (65535 + 1) % 65536 ∧ (master (some 65535) none []).discharge.last 1 ≠ some 0 ∧
    -- a gap: neither the one before nor its successor
    (master (some 2) none []).discharge.last 1 = some 2 ∧ 4 ≠ 2 ∧ 4 ≠ (2 + 1) % 65536 ∧
    -- late at the due position itself, not one count before it, not with the position absent
    (master none (some ⟨13, 3904⟩) []).late ((12 * 4096 + 2000 + 6000) % (65536 * 4096)) = true ∧
    (master none (some ⟨13, 3903⟩) []).late ((12 * 4096 + 2000 + 6000) % (65536 * 4096)) = false ∧
    (master none none []).late ((12 * 4096 + 2000 + 6000) % (65536 * 4096)) = false ∧
    -- a full schedule, and one with one place left
    64 ≤ (master none none (List.replicate 64 (entry 9))).discharge.schedule.length ∧
    (master none none (List.replicate 63 (entry 9))).discharge.schedule.length < 64 := by decide +kernel

theorem test_witness_BroadcastsAndUnknownRequests :
    s0.hears (env 1) ∧ s0.held = false ∧ (rawOf (env 0) 18 []).address.toNat = s0.management.address ∧
      s0.management.address ≤ 14 ∧ envAll.address = 15 :=
  ⟨hears_of (by decide +kernel), by decide +kernel⟩

/-! ### The watchdog -/

def watch (state : WatchState) (lowerTaken : Nat) : State :=
  { s0 with
    faults := { s0.faults with
      watchdog := ⟨state != .disabled, 50, lowerTaken, state, if state = .watching then some 50 else none, lowerTaken⟩ } }

theorem test_witness_RequestsAndWatchdog :
    0 < (watch .watching 1).faults.watchdog.lowerTaken ∧ (watch .disabled 0).faults.watchdog.state = .disabled ∧
    ((watch .watching 0).faults.watchdog.lowerTaken = 0 ∧ (watch .watching 0).faults.watchdog.state = .watching) ∧
    ((watch .waiting 0).faults.watchdog.lowerTaken = 0 ∧ (watch .waiting 0).faults.watchdog.state = .waiting) := by
  decide +kernel

theorem test_witness_RequestsAndWatchdog_heartbeat :
    ((watch .watching 0).hears (env 0) ∧ (watch .watching 1).hears (env 0) ∧ (watch .waiting 1).hears (env 0)) ∧
    (watch .watching 0).faults.watchdog.lowerTaken = 0 ∧ (watch .disabled 0).faults.watchdog.state = .disabled ∧
    (0 < (watch .watching 1).faults.watchdog.lowerTaken ∧ (watch .watching 1).faults.watchdog.state = .watching ∧
      (watch .watching 1).faults.watchdog.lowerTaken * 10000 ≤ 10000 ∧
      9999 < (watch .watching 1).faults.watchdog.lowerTaken * 10000) ∧
    (0 < (watch .waiting 1).faults.watchdog.lowerTaken ∧ (watch .waiting 1).faults.watchdog.state = .waiting) :=
  ⟨⟨hears_of (by decide +kernel), hears_of (by decide +kernel), hears_of (by decide +kernel)⟩, by decide +kernel⟩

/-! ### The angle tracker -/

/-- A pressure monitor as after reset. -/
def bowl : Monitor := ⟨none, 0, false, 150, 700, 10, 3⟩

theorem test_witness_AngleReadingsReachMonitors :
    s0.held = false ∧ (∀ v ∈ ([149, 701] : List Int), v < bowl.low ∨ bowl.high < v) ∧
    (∀ v ∈ ([150, 159, 691, 700] : List Int), bowl.low ≤ v ∧ v ≤ bowl.high ∧
      ¬(bowl.low + bowl.hysteresis ≤ v ∧ v ≤ bowl.high - bowl.hysteresis)) ∧
    (∀ v ∈ ([160, 690] : List Int), bowl.low ≤ v ∧ v ≤ bowl.high ∧ bowl.low + bowl.hysteresis ≤ v ∧
      v ≤ bowl.high - bowl.hysteresis) ∧
    -- a sample that raises and one that does not, below and above the limits, and each action of SUPPLY
    ((bowl.take 149).2 = false ∧ ({ bowl with count := 2 }.take 149).2 = true ∧
      ({ bowl with count := 2 }.take 701).2 = true) ∧
    (∀ a ∈ [Action.note, .hold, .halt, .stop], ((s0.updRecord .supply fun r => { r with action := a }).record
      .supply).action = a) := by decide +kernel

/-- A part whose two monitors raise at their next samples outside the limits. -/
def alarmed (first : Bool) : State :=
  { s0 with
    faults := { s0.faults with
      pressure := { s0.faults.pressure with count := 2 }, temperature := { s0.faults.temperature with count := 2 } }
    arbiter := { s0.arbiter with temperatureFirst := first } }

theorem test_supply_orders :
    ((after (.angleFrame 1 2 900 300 0) (alarmed false)).record .supply).lastCause = some .tempHigh ∧
      ((after (.angleFrame 1 2 100 300 0) (alarmed true)).record .supply).lastCause = some .pressureLow := by
  decide +kernel

/-- A tracker in a state, with a reference position and a run. -/
def tracking (st : TrackerState) (ref : Option Pos) (run : Nat) : State :=
  { c0 with tracker := { c0.tracker with state := st, ref := ref, pos := ref, run := run } }

/-- A frame against the reference 12, 100, with CPR 4096 and a maximum step of 32, at both ends of each band, and a wrap of
the count with the next revolution and with the same one (R4). -/
theorem test_classes_of_a_frame :
    let cls := fun rev count => (tracking .locked none 0).tracker.classify ⟨12, 100⟩ ⟨rev, count⟩
    let wrap := fun rev => (tracking .locked none 0).tracker.classify ⟨65535, 4090⟩ ⟨rev, 2⟩
    (cls 12 100 = .forward ∧ cls 12 132 = .forward ∧ cls 13 100 = .jump ∧ cls 11 132 = .jump) ∧
    (cls 12 133 = .jump ∧ cls 12 67 = .jump ∧ cls 13 67 = .jump) ∧
    (cls 12 68 = .reverse ∧ cls 12 99 = .reverse ∧ cls 11 99 = .reverse) ∧
    (cls 12 4095 = .jump ∧ cls 12 4096 = .outOfRange ∧ wrap 0 = .forward ∧ wrap 65535 = .jump) ∧
    (advanceBy 4096 99 100 = 4095 ∧ advanceBy 4096 100 100 = 0 ∧ revConsistent ⟨12, 100⟩ ⟨12, 100⟩ = true ∧
      revConsistent ⟨65535, 4090⟩ ⟨0, 2⟩ = true) := by decide +kernel

theorem test_witness_AngleAcquiresTimebase :
    let s := fun run => tracking .acquiring (some ⟨12, 100⟩) run
    let tr := (s 2).tracker
    (s 2).held = false ∧ (tracking .noTimebase none 0).tracker.state = .noTimebase ∧
    (tracking .lost (some ⟨12, 100⟩) 0).tracker.state = .lost ∧ (tracking .acquiring none 0).tracker.ref = none ∧
    (4095 : Half).toNat < c0.tracker.cpr ∧ ¬(4096 : Half).toNat < c0.tracker.cpr ∧
    tr.state = .acquiring ∧ tr.ref = some ⟨12, 100⟩ ∧
    (tr.classify ⟨12, 100⟩ ⟨12, 132⟩ = .forward ∧ tr.run + 1 < tr.acquireCount) ∧
    (s 3).tracker.acquireCount ≤ (s 3).tracker.run + 1 ∧
    tr.classify ⟨12, 100⟩ ⟨12, 68⟩ = .reverse ∧ tr.classify ⟨12, 100⟩ ⟨12, 133⟩ = .jump ∧
    tr.classify ⟨12, 100⟩ ⟨12, 67⟩ = .jump ∧ tr.classify ⟨12, 100⟩ ⟨12, 4096⟩ = .outOfRange ∧
    -- a frame that raises no monitor, at each edge
    (((s 3).faults.pressure.take 320).2 = false ∧ ((s 3).faults.temperature.take 50).2 = false ∧
      (s 3).tracker.edge = .both ∧ ∀ g ∈ [TrackEdge.gain, .loss, .none],
        ({ (s 3).tracker with edge := g } : Tracker).edge = g) := by decide +kernel

/-- The frame that locks reports GAIN with the state LOCKED and its position, where the edge selects it (R12). -/
theorem test_gain_reported :
    (after (.angleFrame 12 132 320 50 0) (tracking .acquiring (some ⟨12, 100⟩) 3)).reports.queue =
      [resetReport .power, ⟨1, .track .gain .locked (some ⟨12, 132⟩)⟩] := by decide +kernel

/-- An entry leaves at the position its due position is reached at, with the pulse started, and not one count before. -/
theorem test_due_test :
    let s := master none none [entry 4]
    (s.dueTest ⟨13, 3903⟩).discharge.schedule = [entry 4] ∧ (s.dueTest ⟨13, 3903⟩).rejectOutput = false ∧
      (s.dueTest ⟨13, 3904⟩).discharge.schedule = [] ∧ (s.dueTest ⟨13, 3904⟩).rejectOutput = true := by decide +kernel

theorem test_witness_AngleInLockAndHoldover :
    let ref : Pos := ⟨12, 100⟩
    let tr := (tracking .locked (some ref) 4).tracker
    (tracking .locked (some ref) 4).held = false ∧ tr.ref = some ref ∧ tr.state = .locked ∧ tr.pos = some ref ∧
    (s0.faults.pressure.take 320).2 = false ∧ (s0.faults.temperature.take 50).2 = false ∧
    tr.classify ref ref = .forward ∧ tr.classify ref ⟨12, 132⟩ = .forward ∧ tr.classify ref ⟨12, 133⟩ = .jump ∧
    tr.classify ref ⟨12, 4096⟩ = .outOfRange ∧ tr.classify ref ⟨12, 68⟩ = .reverse ∧
    tr.jumpPending = false ∧ ({ tr with jumpPending := true } : Tracker).jumpPending = true ∧
    (tracking .holdover (some ref) 4).tracker.state = .holdover ∧
    ((1124 : Half).toNat < tr.cpr ∧ advanceBy 4096 1124 100 ≤ 4096 / 4 ∧ revConsistent ref ⟨12, 1124⟩ = true) ∧
    ¬advanceBy 4096 1125 100 ≤ 4096 / 4 ∧ (tracking .holdover (some ref) 4).tracker.pos = some ref := by decide +kernel

/-- An accepted frame that moves the position walks every head that is not OFF (R16). -/
theorem test_angle_walks_heads :
    ((after (.angleFrame 12 10 320 50 0) (lockedAt ⟨11, 4090⟩ (inMode .production (c0.setHead 2 idle)))).head 2).state =
      .emptyPass := by decide +kernel

/-! ### Modes -/

/-- A part ready for PRODUCTION. -/
def ready (m : Mode) : State := (configured (inMode m s0)).setHead 2 idle

theorem test_witness_SetModeTable :
    ((ready .safe).hears (env 1) ∧ (ready .standby).hears (env 1) ∧ (ready .production).hears (env 1)) ∧
    3 ≤ (3 : Byte).toNat ∧ (ready .safe).taken.faults.mode = .safe ∧
    ((∀ c, ((ready .safe).taken.record c).inStop = false) ∧ (ready .safe).taken.lineHeld = false ∧
      (ready .safe).taken.lockoutCount < (ready .safe).taken.faults.lockoutLimit ∧
      ∀ c, ¬(((ready .safe).taken.record c).condition = true ∧ ((ready .safe).taken.record c).action = .stop)) ∧
    (s0.taken.record .reset).inStop = true ∧
    (ready .standby).taken.faults.mode = .standby ∧ (ready .production).taken.faults.mode = .production ∧
    ((ready .standby).taken.tracker.cpr ≠ 0 ∧ (ready .standby).taken.zones.seatEnd ≠ 0 ∧
      (ready .standby).taken.zones.dischargeAngle ≠ 0 ∧
      (ready .standby).taken.zones.rows[(0 : Fin 8)].valid = true ∧ ((ready .standby).taken.head 2).state ≠ .off) ∧
    ((inMode .standby s0).taken.faults.mode = .standby ∧ (inMode .standby s0).taken.tracker.cpr = 0) :=
  ⟨⟨hears_of (by decide +kernel), hears_of (by decide +kernel), hears_of (by decide +kernel)⟩, by decide +kernel,
    by decide +kernel,
    ⟨by intro c; cases c <;> decide +kernel, by decide +kernel, by decide +kernel,
      by intro c; cases c <;> decide +kernel⟩,
    by decide +kernel⟩

theorem test_witness_SafeEntryAbortsHeads :
    let s := (withHead running (inMode .production s0)).setHead 3 seating
    s0.faults.mode = .safe ∧ s.faults.mode ≠ .safe ∧ (∀ h, (s.head h).clean = true) ∧
      ((s.head 2).state = .running ∧ (s.head 2).record = none) ∧
      ((s.head 3).state = .seating ∧ (s.head 3).record = none) ∧
      ((s.head 4).state ≠ .running ∧ (s.head 4).state ≠ .seating) := by decide +kernel

/-! ### READ -/

/-- Slot 3 LOADING with one segment of two written. -/
def loading : State :=
  c0.setSlot 3 { c0.slot 3 with state := .loading, segCount := some 2, cells := (c0.slot 3).cells.set 0 ⟨.blank, true, true⟩ }

theorem test_witness_ReadsAnswered :
    loading.hears (env 2) ∧ (loading.taken.slot 3).state ≠ .free ∧ (loading.taken.slot 3).segCount = some 2 ∧
      (0 : Fin 12).val < 2 ∧ (loading.taken.slot 3).cells[(0 : Fin 12)].written = true :=
  ⟨hears_of (by decide +kernel), by decide +kernel⟩

theorem test_witness_ReadsAnswered_refused :
    loading.hears (env 2) ∧ (1 : Byte) ≠ 0 ∧ 8 ≤ (8 : Byte).toNat ∧ 12 ≤ (12 : Byte).toNat ∧ 48 ≤ (48 : Byte).toNat ∧
      14 ≤ (14 : Byte).toNat ∧ (3 : Byte).toNat = (3 : SlotId).val ∧ (11 : Byte).toNat = (11 : Fin 12).val ∧
      (loading.taken.slot 2).state = .free ∧ (loading.taken.slot 3).segCount.getD 0 ≤ (2 : Fin 12).val ∧
      (loading.taken.slot 3).cells[(1 : Fin 12)].written = false ∧ 11 < (12 : Byte).toNat :=
  ⟨hears_of (by decide +kernel), by decide +kernel⟩

/-! ### WRITE_CONFIG -/

/-- The words lie in a range, its ends among them. -/
def spans (lo hi : Int) (vs : List Word) : Bool :=
  vs.all fun v => decide (lo ≤ v.toInt ∧ v.toInt ≤ hi)

/-- The words lie on both sides of a range. -/
def misses (lo hi : Int) (below above : Word) : Bool := decide (below.toInt = lo - 1 ∧ above.toInt = hi + 1)

theorem test_witness_WritesInEveryMode :
    s0.hears (env 6) ∧ spans 1 32 [1, 32] ∧ spans 1 250 [1, 250] ∧
    (∀ g ∈ [TrackEdge.none, .gain, .loss, .both], (BitVec.ofNat 32 g.code).toInt = g.code) ∧
    spans 100 5000 [100, 5000] ∧ spans 0 200 [0, 200] ∧ spans 16 4095 [16, 4095] ∧ spans 1 255 [1, 255] ∧
    spans 1 4 [1, 4] ∧ spans 2 100 [2, 100] ∧ spans 1 8 [1, 8] ∧
    (1 : Word).toInt = 1 ∧ (2 : Word).toInt = 2 ∧ (4 : Word).toInt = 4 ∧ (8 : Word).toInt = 8 :=
  ⟨hears_of (by decide +kernel), by decide +kernel⟩

theorem test_witness_WritesOutsideProduction :
    (c0.hears (env 6) ∧ (inMode .standby s0).hears (env 6)) ∧ c0.faults.mode ≠ .production ∧
    (spans 1 4096 [1, 2047] ∧ 2 * 2047 < c0.taken.tracker.cpr ∧ (inMode .standby s0).taken.tracker.cpr = 0) ∧
    spans 2 16 [2, 16] ∧ spans 0 255 [0, 255] ∧
    (1 < c0.taken.tracker.cpr ∧ 2499 < c0.taken.zones.dischargeAngle) ∧
    (4095 < c0.taken.tracker.cpr ∧ c0.taken.zones.seatEnd < 61 ∧ c0.taken.zones.seatEnd < 4095) ∧
    (spans 1 48 [1, 48] ∧ c0.taken.management.stationBase + 48 ≤ 256 ∧
      ({ c0 with management := { c0.management with stationBase := 208 } } : State).taken.management.stationBase + 48 ≤
        256) ∧
    (∀ h : HeadId, 1 ≤ h.val → (c0.taken.head h).state = .off) ∧
    ((2 : Nat) ≤ (2 : HeadId).val ∧ ((c0.setHead 2 idle).taken.head 2).state ≠ .off) ∧
    ((inMode .standby s0).taken.management.headCount = 0 ∧ 236 + c0.taken.management.headCount ≤ 256) ∧
    (c0.taken.tracker.cpr ≠ 0 ∧ spans 1 16384 [1, 16384] ∧ 16384 ≤ 4 * c0.taken.tracker.cpr) ∧
    spans 5 250 [5, 250] :=
  ⟨⟨hears_of (by decide +kernel), hears_of (by decide +kernel)⟩, by decide +kernel⟩

theorem test_witness_CprAndMasterEnableWrites :
    ((c0.setHead 2 idle).hears (env 6) ∧ c0.hears (env 6) ∧ (inMode .standby s0).hears (env 6)) ∧
    c0.faults.mode ≠ .production ∧ ((c0.setHead 2 idle).taken.head 2).state ≠ .off ∧
    ((∀ h, (c0.taken.head h).state = .off) ∧ spans 1024 65535 [2501, 65535] ∧ 2 * c0.taken.tracker.maxStep < 2501 ∧
      (∀ i : Fin 8, c0.taken.zones.rows[i].valid = true → c0.taken.zones.rows[i].stop ≤ 2501) ∧
      c0.taken.zones.dischargeAngle < 2501) ∧
    ((∀ h, ((inMode .standby s0).taken.head h).state = .off) ∧ spans 1024 65535 [1024] ∧
      2 * (inMode .standby s0).taken.tracker.maxStep < 1024 ∧
      (∀ i : Fin 8, (inMode .standby s0).taken.zones.rows[i].valid = false) ∧
      (inMode .standby s0).taken.zones.dischargeAngle < 1024) :=
  ⟨⟨hears_of (by decide +kernel), hears_of (by decide +kernel), hears_of (by decide +kernel)⟩, by decide +kernel⟩

theorem test_witness_CprAndMasterEnableWrites_master :
    (c0.hears (env 6) ∧ (master none none []).hears (env 6)) ∧ c0.faults.mode ≠ .production ∧
      c0.taken.discharge.gate = 0 ∧ (master none none []).taken.discharge.gate ≠ 0 ∧
      (master none none []).taken.discharge.master = true ∧ c0.taken.discharge.master = false :=
  ⟨⟨hears_of (by decide +kernel), hears_of (by decide +kernel)⟩, by decide +kernel⟩

/-- The band of a monitor is not empty. -/
def band (m : Monitor) : Bool := m.low + m.hysteresis ≤ m.high - m.hysteresis

theorem test_witness_SelectorWrites :
    s0.hears (env 6) ∧ (FaultClass.timebase ≠ .reset ∧ FaultClass.meter ≠ .lockout) ∧
    (∀ a ∈ [Action.note, .hold, .halt, .stop], (BitVec.ofNat 32 a.code).toInt = a.code) ∧ spans 0 3 [0, 3] ∧
    (spans 0 1000 [0, 680] ∧ band { bowl with low := 680 } = true ∧ band { bowl with low := 681 } = false) ∧
    (spans 0 1000 [170, 1000] ∧ band { bowl with high := 170 } = true ∧ band { bowl with high := 169 } = false) ∧
    (spans (-500) 1000 [-500, 1000] ∧ misses (-500) 1000 (-501) 1001 ∧ misses 0 1000 (-1) 1001) ∧
    (spans 0 100 [0, 100] ∧ band { bowl with hysteresis := 100 } = true ∧ misses 0 100 (-1) 101) ∧
    (spans 1 8 [1, 8] ∧ misses 1 8 0 9 ∧ band bowl = true ∧ s0.taken.monitor .pressure = bowl) :=
  ⟨hears_of (by decide +kernel), by decide +kernel⟩

/-- Two heads in LOCKOUT; the LOCKOUT condition as given. -/
def lockedOut (limit : Nat) (condition : Bool) : State :=
  let s := ((s0.setHead 2 locked).setHead 3 locked).updRecord .lockout fun r => { r with condition := condition }
  { s with faults := { s.faults with lockoutLimit := limit } }

theorem test_witness_LockoutAndHeartbeatWrites :
    ((lockedOut 3 false).hears (env 6) ∧ (lockedOut 2 true).hears (env 6)) ∧ spans 1 8 [1, 2, 3, 8] ∧
      (lockedOut 2 true).taken.lockoutCount < 3 ∧ 2 ≤ (lockedOut 2 true).taken.lockoutCount ∧
      ((lockedOut 2 true).taken.record .lockout).condition = true ∧
      2 ≤ (lockedOut 3 false).taken.lockoutCount ∧ ((lockedOut 3 false).taken.record .lockout).condition = false :=
  ⟨⟨hears_of (by decide +kernel), hears_of (by decide +kernel)⟩, by decide +kernel⟩

theorem test_witness_LockoutAndHeartbeatWrites_heartbeat :
    ((watch .disabled 0).hears (env 6) ∧ (watch .watching 1).hears (env 6)) ∧
      (watch .disabled 0).taken.faults.watchdog.enable = false ∧ (watch .watching 1).taken.faults.watchdog.enable = true ∧
      spans 1 255 [1, 2, 255] ∧ (watch .disabled 0).taken.faults.watchdog.lower = 0 ∧
      (watch .watching 1).taken.faults.watchdog.lower < 2 ∧ (0 : Word).toInt = 0 ∧
      49 < (watch .watching 1).taken.faults.watchdog.upper :=
  ⟨⟨hears_of (by decide +kernel), hears_of (by decide +kernel)⟩, by decide +kernel⟩

theorem test_witness_WritesRefused :
    ((ready .production).hears (env 6) ∧ c0.hears (env 6) ∧ (watch .watching 1).hears (env 6)) ∧
    (ready .production).faults.mode = .production ∧ c0.faults.mode ≠ .production ∧
    ((∀ h, (c0.head h).state = .off) ∧ misses 1024 65535 1023 65536) ∧
    (misses 1 4096 0 4097 ∧ c0.tracker.cpr ≠ 0 ∧ (c0.tracker.cpr : Int) ≤ 2 * (2048 : Word).toInt) ∧
    misses 2 16 1 17 ∧ misses 0 255 (-1) 256 ∧ (c0.tracker.cpr : Int) ≤ (4096 : Word).toInt ∧ misses 1 48 0 49 ∧
    misses 0 1 (-1) 2 ∧ (inMode .standby s0).tracker.cpr = 0 ∧ 4 * (c0.tracker.cpr : Int) < (16385 : Word).toInt ∧
    (∃ i : Fin 8, c0.zones.rows[i].valid = true ∧ (1024 : Word).toInt < c0.zones.rows[i].stop) ∧
    (1024 : Word).toInt ≤ c0.zones.dischargeAngle ∧ c0.zones.dischargeAngle ≠ 0 ∧
    (BitVec.ofNat 32 c0.zones.dischargeAngle).toInt ≤ c0.zones.dischargeAngle ∧
    (BitVec.ofNat 32 c0.zones.seatEnd).toInt ≤ c0.zones.seatEnd ∧ c0.management.headCount ≠ 0 ∧
    256 < (255 : Word).toInt + c0.management.headCount ∧
    misses 5 250 4 251 ∧ misses 1 32 0 33 ∧ misses 1 250 0 251 ∧ misses 0 3 (-1) 4 ∧ misses 100 5000 99 5001 ∧
    misses 0 200 (-1) 201 ∧ misses 16 4095 15 4096 ∧ misses 1 255 0 256 ∧ misses 1 4 0 5 ∧ misses 2 100 1 101 ∧
    misses 1 8 0 9 ∧
    (([0, 3, 5, 9] : List Word).all fun v => ¬(v.toInt = 1 ∨ v.toInt = 2 ∨ v.toInt = 4 ∨ v.toInt = 8)) ∧
    ((watch .watching 1).faults.watchdog.lower ≠ 0 ∧
      (1 : Word).toInt ≤ (watch .watching 1).faults.watchdog.lower) ∧
    ((-1 : Word).toInt < 0 ∧ (50 : Word).toInt ≠ 0 ∧ (s0.faults.watchdog.upper : Int) ≤ (50 : Word).toInt) ∧
    (FaultClass.timebase ≠ .reset ∧ FaultClass.timebase ≠ .lockout ∧ FaultClass.meter ≠ .reset ∧
      FaultClass.meter ≠ .lockout) ∧
    13 < (14 : Byte).toNat ∧ (0 : Byte).toNat = 0 ∧ 5 < (6 : Byte).toNat ∧ 1 < (2 : Byte).toNat ∧
    34 < (35 : Byte).toNat :=
  ⟨⟨hears_of (by decide +kernel), hears_of (by decide +kernel), hears_of (by decide +kernel)⟩, by decide +kernel⟩

/-! ### WRITE_ZONE and the store -/

theorem test_witness_WriteZoneRow :
    let rows := c0.taken.zones.rows
    let ranged := fun z : ZoneFields => decide (z.valid = 1 ∧ 1 ≤ z.start.toNat ∧ z.start.toNat < z.stop.toNat ∧
      z.stop.toNat ≤ c0.taken.tracker.cpr ∧ z.guard.toNat ≤ 1023)
    c0.hears (env 10) ∧ c0.faults.mode ≠ .production ∧ 8 ≤ (8 : Byte).toNat ∧
    ((2 : Byte) ≠ 0 ∧ ranged ⟨2, 1, 2, 0, 0, 0⟩ = false ∧ ranged ⟨1, 0, 2, 0, 0, 0⟩ = false ∧
      ranged ⟨1, 5, 5, 0, 0, 0⟩ = false ∧ ranged ⟨1, 5, 4097, 0, 0, 0⟩ = false ∧ ranged ⟨1, 5, 6, 0, 1024, 0⟩ = false) ∧
    (ranged ⟨1, 2399, 4096, 0, 1023, 255⟩ = true ∧
      ∃ k : Fin 8, k ≠ 1 ∧ rows[k].valid = true ∧ rows[k].start < 4096 ∧ 2399 < rows[k].stop) ∧
    (ranged ⟨1, 2400, 4096, 0, 1023, 255⟩ = true ∧ ranged ⟨1, 1, 100, 0, 0, 0⟩ = true ∧
      ¬∃ k : Fin 8, k ≠ 1 ∧ rows[k].valid = true ∧ rows[k].start < 4096 ∧ 2400 < rows[k].stop) :=
  ⟨hears_of (by decide +kernel), by decide +kernel⟩

/-- Slot 3 in a state, with some users. -/
def slotIn (st : SlotState) (users : Nat) : State := c0.setSlot 3 { c0.slot 3 with state := st, users := users, gen := 255 }

def goodHeader : HeaderFields := ⟨411, 12, 30000, 2000, 2000, 500, 100⟩

theorem test_witness_BeginBySlotState :
    c0.hears (env 13) ∧ 8 ≤ (8 : Byte).toNat ∧ headerInRange goodHeader = true ∧
    headerInRange { goodHeader with segCount := 1, target := 1 } = true ∧
    (∀ h ∈ [{ goodHeader with segCount := 0 }, { goodHeader with segCount := 13 }, { goodHeader with target := 0 },
        { goodHeader with target := 30001 }, { goodHeader with underTol := 2001 }, { goodHeader with overTol := 2001 },
        { goodHeader with ratio := 501 }, { goodHeader with ratioTol := 101 }], headerInRange h = false) ∧
    ((slotIn .free 0).taken.slot 3).state = .free ∧ ((slotIn .loading 0).taken.slot 3).state = .loading ∧
    ((slotIn .verifying 0).taken.slot 3).state = .verifying ∧
    (((slotIn .ready 0).taken.slot 3).state = .ready ∧ ((slotIn .ready 0).taken.slot 3).users = 0) ∧
    (((slotIn .corrupt 0).taken.slot 3).state = .corrupt ∧ ((slotIn .corrupt 0).taken.slot 3).users = 0) ∧
    ¬((slotIn .ready 1).taken.slot 3).users = 0 ∧ ((slotIn .active 0).taken.slot 3).state = .active :=
  ⟨hears_of (by decide +kernel), by decide +kernel⟩

/-- The ranges of R25 for a record of a kind and end condition, as SegmentWritesRecord spells them. -/
def fits (f : SegmentFields) (kind : SegKind) (ending : EndCond) : Bool :=
  let par := f.param.toNat
  decide (f.kind.toNat = kind.code ∧ f.ending.toNat = ending.code) &&
  decide (kind = .fill ∨ kind = .trim → 1 ≤ f.aperture.toNat ∧ f.aperture.toNat ≤ 15 ∧ 1 ≤ f.step.toNat ∧
    f.step.toNat ≤ 15 ∧ 1 ≤ f.interval.toNat) &&
  decide (kind ≠ .fill → kind ≠ .trim → f.aperture.toNat = 0 ∧ f.step.toNat = 0 ∧ f.interval.toNat = 0) &&
  decide (kind = .syrup → ending = .volume ∧ par = 0) &&
  decide (kind ≠ .syrup → kind ≠ .fill → kind ≠ .trim → ending ≠ .volume) &&
  decide (kind ≠ .syrup → ending = .volume → 1 ≤ par ∧ par ≤ 1000) &&
  decide ((ending = .probe → par = 0) ∧ (ending = .pressureEq → 1 ≤ par ∧ par ≤ 100)) &&
  decide ((ending = .pressureLow → par ≤ 1000) ∧ (ending = .angle → 1 ≤ par)) &&
  decide (f.dwell.toNat ≤ 1023 ∧ 1 ≤ f.deadline.toNat)

/-- Records at the ends of the ranges of R25, with their kinds and end conditions. -/
def fitting : List (SegmentFields × SegKind × EndCond) :=
  [(⟨4, 15, 15, 255, 1, 1000, 1023, 1⟩, .fill, .volume), (⟨5, 1, 1, 1, 2, 0, 0, 1⟩, .trim, .probe),
    (⟨3, 0, 0, 0, 1, 0, 0, 1⟩, .syrup, .volume), (⟨2, 0, 0, 0, 3, 100, 0, 1⟩, .pressurize, .pressureEq),
    (⟨7, 0, 0, 0, 4, 1000, 0, 1⟩, .snift, .pressureLow), (⟨6, 0, 0, 0, 5, 1, 0, 65535⟩, .settle, .angle)]

/-- Records one past the ends. -/
def unfitting : List SegmentFields :=
  [⟨4, 0, 3, 30, 1, 1000, 0, 1⟩, ⟨4, 16, 3, 30, 1, 1000, 0, 1⟩, ⟨5, 3, 3, 30, 1, 1001, 0, 1⟩, ⟨3, 0, 0, 0, 1, 1, 0, 1⟩,
    ⟨1, 0, 0, 0, 1, 9, 0, 1⟩, ⟨2, 0, 0, 0, 3, 101, 0, 1⟩, ⟨7, 0, 0, 0, 4, 1001, 0, 1⟩, ⟨6, 0, 0, 0, 5, 0, 0, 1⟩,
    ⟨6, 0, 0, 0, 5, 1, 1024, 1⟩, ⟨6, 0, 0, 0, 5, 1, 0, 0⟩, ⟨0, 0, 0, 0, 5, 1, 0, 1⟩, ⟨6, 0, 0, 0, 6, 1, 0, 1⟩]

/-- The spelled ranges and `recordOf` agree on these records. -/
theorem test_segment_ranges :
    (fitting.all fun x => fits x.1 x.2.1 x.2.2 && (recordOf x.1).isSome) = true ∧
      (unfitting.all fun f => recordOf f == none) = true := by decide +kernel

theorem test_witness_SegmentWritesRecord :
    loading.hears (env 13) ∧ 8 ≤ (8 : Byte).toNat ∧ ((slotIn .verifying 0).taken.slot 3).state = .verifying ∧
    (((slotIn .ready 0).taken.slot 3).state ≠ .verifying ∧ ((slotIn .ready 0).taken.slot 3).state ≠ .loading) ∧
    ((loading.taken.slot 3).state = .loading ∧ (loading.taken.slot 3).segCount.getD 0 ≤ (2 : Byte).toNat ∧
      12 ≤ (12 : Byte).toNat) ∧
    ((1 : Byte).toNat = (1 : Fin 12).val ∧ (1 : Fin 12).val < (loading.taken.slot 3).segCount.getD 0) ∧
    fits ⟨4, 15, 15, 255, 1, 1000, 1023, 1⟩ .fill .volume = true ∧
    ¬∃ kind ending, fits ⟨4, 0, 3, 30, 1, 1000, 0, 1100⟩ kind ending = true :=
  ⟨hears_of (by decide +kernel), by decide +kernel, by decide +kernel, by decide +kernel, by decide +kernel,
    by decide +kernel, by decide +kernel, fun ⟨k, e, h⟩ => by cases k <;> cases e <;> cases h⟩

/-- The verifier busy with slot 3. -/
def verifying : State :=
  { slotIn .verifying 0 with store := { (slotIn .verifying 0).store with verifier := some 3 } }

theorem test_witness_CommitStartsVerifier :
    (verifying.hears (env 5) ∧ loading.hears (env 5)) ∧ 8 ≤ (8 : Byte).toNat ∧ verifying.taken.store.verifier ≠ none ∧
      (c0.taken.store.verifier = none ∧ (c0.taken.slot 3).state ≠ .loading) ∧
      (loading.taken.store.verifier = none ∧ (loading.taken.slot 3).state = .loading) :=
  ⟨⟨hears_of (by decide +kernel), hears_of (by decide +kernel)⟩, by decide +kernel⟩

/-- Slot 3 READY and slot 4 as given. -/
def ready3 (st : SlotState) : State := (slotIn .ready 0).setSlot 4 { c0.slot 4 with state := st }

theorem ready3_active : ∀ i, ((ready3 .active).slot i).state = .active → i = 4 := by decide +kernel

theorem ready3_free : ∀ i, ((ready3 .free).slot i).state ≠ .active := by decide +kernel

theorem test_witness_SelectAndDropBySlotState :
    ((ready3 .free).hears (env 1) ∧ (ready3 .active).hears (env 1) ∧ verifying.hears (env 1)) ∧
    ((ready3 .active).OneActive ∧ (ready3 .free).OneActive) ∧
    (((ready3 .free).taken.slot 3).state = .ready ∧ ∀ i, ((ready3 .free).taken.slot i).state ≠ .active) ∧
    (((ready3 .active).taken.slot 3).state = .ready ∧ ((ready3 .active).taken.slot 4).state = .active) ∧
    (((ready3 .active).taken.slot 5).state ≠ .ready ∧ ((ready3 .active).taken.slot 5).state ≠ .active) ∧
    ((ready3 .active).taken.slot 3).users = 0 ∧ ((slotIn .ready 1).taken.slot 3).users ≠ 0 ∧
    (loading.taken.slot 3).state = .loading ∧
    ((verifying.taken.slot 3).state = .verifying ∧ verifying.taken.store.verifier = some 3) ∧
    ((slotIn .retiring 1).taken.slot 3).state = .retiring ∧ ((slotIn .corrupt 1).taken.slot 3).state = .corrupt :=
  ⟨⟨hears_of (by decide +kernel), hears_of (by decide +kernel), hears_of (by decide +kernel)⟩,
    ⟨fun i j hi hj => (ready3_active i hi).trans (ready3_active j hj).symm,
      fun i _ hi _ => absurd hi (ready3_free i)⟩,
    by decide +kernel⟩

/-- A slot with a profile of three segments, a FILL to the final cut, a SETTLE and a SNIFT, changed as given and committed
with the CRC of what it holds. -/
def profile (f : Slot → Slot) : Slot :=
  let record := fun (k : SegKind) (e : EndCond) (p deadline : Nat) => (⟨⟨k, 0, 0, 0, e, p, 0, deadline⟩, true, true⟩ : SegCell)
  let t : Slot := { c0.slot 3 with state := .verifying, profile := some 411, segCount := some 3, header := fillWork.header }
  let cells := ((t.cells.set 0 (record .fill .volume 1000 1100)).set 1 (record .settle .angle 5 1200)).set 2
    (record .snift .pressureLow 20 2499)
  let t := f { t with cells := cells }
  { t with crc := some t.computedCrc }

/-- Change the cell at an index. -/
def atCell (i : Fin 12) (f : SegCell → SegCell) (t : Slot) : Slot := { t with cells := t.cells.set i (f t.cells[i]) }

def upsetCell (i : Fin 12) : Slot → Slot := atCell i fun c => { c with clean := false }

/-- One slot for each result: nothing wrong; an index unwritten; a wrong CRC; a last segment that is no SNIFT, falling
deadlines, a deadline at Θd; a kind permitted nowhere; the header, a segment, and both in error (R31). -/
theorem test_verification_results :
    let z := c0.zones
    let closed : ZoneMap := { z with rows := Vector.replicate 8 .blank }
    (profile id).verify z = (.ok, none) ∧
    (profile (atCell 2 fun c => { c with written := false })).verify z = (.missing, some 2) ∧
    ({ profile id with crc := some ((profile id).computedCrc + 1) } : Slot).verify z = (.crcMismatch, none) ∧
    (profile (atCell 2 fun c => { c with record := { c.record with kind := .settle } })).verify z = (.badSequence, some 2) ∧
    (profile (atCell 1 fun c => { c with record := { c.record with deadline := 1099 } })).verify z =
      (.badSequence, some 1) ∧
    (profile (atCell 2 fun c => { c with record := { c.record with deadline := 2500 } })).verify z =
      (.badSequence, some 2) ∧
    (profile id).verify closed = (.noZone, some 0) ∧
    (profile fun t => { t with headerClean := false }).verify z = (.parity, none) ∧
    (profile (upsetCell 1)).verify z = (.parity, some 1) ∧
    (profile fun t => upsetCell 1 { t with headerClean := false }).verify z = (.parity, none) := by decide +kernel

/-- A condition of a well-formed profile fails at an index, as VerificationOutcome spells it. -/
def illFormed (t : Slot) (z : ZoneMap) (n : Nat) (i : Fin 12) : Bool :=
  let record := fun i : Fin 12 => t.cells[i].record
  let fills := fun i : Fin 12 => (record i).kind = .fill ∨ (record i).kind = .trim
  let cuts := fun i : Fin 12 => fills i ∧ (record i).ending = .volume
  let lastFill := fun i : Fin 12 => fills i ∧ ∀ k : Fin 12, k.val < n → fills k → k ≤ i
  decide (((record i).kind = .syrup ∧ (t.header.ratio = 0 ∨ ∃ k : Fin 12, k < i ∧ (record k).kind = .syrup)) ∨
    (cuts i ∧ ∃ k : Fin 12, k < i ∧ cuts k ∧ (record i).param < (record k).param) ∨
    (i.val + 1 = n ∧ ∀ k : Fin 12, k.val < n → ¬fills k) ∨
    (lastFill i ∧ ¬((record i).ending = .volume ∧ (record i).param = 1000)) ∨
    (cuts i ∧ (record i).param = 1000 ∧ ¬lastFill i) ∨
    (i.val + 1 = n ∧ (record i).kind ≠ .snift) ∨
    (∃ k : Fin 12, k < i ∧ (record i).deadline < (record k).deadline) ∨ z.dischargeAngle ≤ (record i).deadline)

theorem test_witness_VerificationOutcome :
    let t := profile id
    let below := fun n : Nat => (List.finRange 12).filter fun i => i.val < n
    (verifying.held = false ∧ verifying.store.verifier = some 3) ∧ (heldPart.held = true ∧ c0.store.verifier = none) ∧
    (t.segCount = some 3 ∧ t.crc = some t.computedCrc ∧ (below 3).all (fun i => t.cells[i].written) = true) ∧
    -- no condition fails, and one fails first at the last index
    ((below 3).all (fun i => !illFormed t c0.zones 3 i) = true ∧
      (let u := profile (atCell 2 fun c => { c with record := { c.record with kind := .settle } })
       illFormed u c0.zones 3 2 = true ∧ (below 2).all (fun i => !illFormed u c0.zones 3 i) = true)) ∧
    (c0.zones.rows[(0 : Fin 8)].valid = true ∧ (below 3).all (fun i =>
      c0.zones.rows[(0 : Fin 8)].permitted.getLsbD (t.cells[i].record.kind.code - 1)) = true) ∧
    (t.headerClean = true ∧ (below 3).all (fun i => t.cells[i].clean) = true ∧
      (profile (upsetCell 1)).cells[(1 : Fin 12)].clean = false) := by decide +kernel

/-! ### Requests that act on a head -/

def goodCalib : CalibFields := ⟨500, 500, 20000, 0xFE0C, 500⟩

/-- The ranges of R43, as EnrollAndCalibrate spells them. -/
def ranged (f : CalibFields) : Bool := decide <|
  500 ≤ f.liquidK.toNat ∧ f.liquidK.toNat ≤ 20000 ∧ -500 ≤ f.liquidTrim.toInt ∧ f.liquidTrim.toInt ≤ 500 ∧
  500 ≤ f.syrupK.toNat ∧ f.syrupK.toNat ≤ 20000 ∧ -500 ≤ f.syrupTrim.toInt ∧ f.syrupTrim.toInt ≤ 500 ∧
  f.overrun.toNat ≤ 500

theorem c0_urgentOnce : c0.UrgentOnce := by
  refine ⟨by decide +kernel, by decide +kernel, fun _ => by decide +kernel⟩

theorem test_witness_EnrollAndCalibrate :
    (c0.hears (env 13) ∧ (c0.setHead 19 idle).hears (env 13) ∧ (c0.setHead 19 doneHead).hears (env 13)) ∧
    c0.taken.UrgentOnce ∧
    c0.taken.management.headCount ≤ (20 : Byte).toNat ∧ (19 : HeadId).val < c0.taken.management.headCount ∧
    (c0.taken.head 19).state = .off ∧ ((c0.setHead 19 idle).taken.head 19).state = .idle ∧
    (((c0.setHead 19 doneHead).taken.head 19).state ≠ .off ∧ ((c0.setHead 19 doneHead).taken.head 19).state ≠ .idle) ∧
    ((4095 : Half).toNat < c0.taken.tracker.cpr ∧ ranged goodCalib = true ∧ ranged ⟨20000, 0xFE0C, 500, 500, 0⟩ = true) ∧
    ¬(4096 : Half).toNat < c0.taken.tracker.cpr ∧
    [{ goodCalib with liquidK := 499 }, { goodCalib with liquidTrim := 501 }, { goodCalib with syrupK := 20001 },
      { goodCalib with syrupTrim := 0xFE0B }, { goodCalib with overrun := 501 }].all (fun k => !ranged k) = true :=
  ⟨⟨hears_of (by decide +kernel), hears_of (by decide +kernel), hears_of (by decide +kernel)⟩, c0_urgentOnce,
    by decide +kernel⟩

/-- Head 2 as given, not yet withdrawn. -/
def headIn (c : Head) : State := withHead c c0

theorem test_witness_WithdrawByState :
    ((headIn idle).hears (env 1) ∧ (headIn running).hears (env 1) ∧ (headIn locked).hears (env 1)) ∧
    (headIn idle).taken.management.headCount ≤ (20 : Byte).toNat ∧ (2 : HeadId).val < c0.taken.management.headCount ∧
    (c0.taken.head 2).state = .off ∧ ((headIn locked).taken.head 2).state = .lockout ∧
    ((headIn { doneHead with withdraw := true }).taken.head 2).withdraw = true ∧
    (((headIn doneHead).taken.head 2).state = .done ∧ ((headIn doneHead).taken.head 2).withdraw = false ∧
      ((headIn doneHead).taken.head 2).clean = true) ∧ ((headIn aborting).taken.head 2).state = .aborting ∧
    (((headIn idle).taken.head 2).state = .idle ∧ ((headIn idle).taken.head 2).withdraw = false ∧
      ((headIn idle).taken.head 2).clean = true) ∧
    (((headIn seating).taken.head 2).state = .seating ∧ ((headIn seating).taken.head 2).pin = some thePin ∧
      ((headIn seating).taken.head 2).record = none) ∧
    (((headIn running).taken.head 2).state = .running ∧ ((headIn running).taken.head 2).pin = some thePin ∧
      ((headIn running).taken.head 2).record = none) :=
  ⟨⟨hears_of (by decide +kernel), hears_of (by decide +kernel), hears_of (by decide +kernel)⟩, by decide +kernel⟩

theorem test_witness_ReleaseRows :
    ((headIn locked).hears (env 1) ∧ (ready .production).hears (env 1)) ∧
    (20 : Nat) ≤ (20 : Byte).toNat ∧ (ready .production).taken.faults.mode = .production ∧
    (headIn locked).taken.faults.mode ≠ .production ∧
    (((headIn idle).taken.head 2).state ≠ .lockout ∧ ((headIn idle).taken.head 2).hold = false) ∧
    (((headIn { idle with hold := true }).taken.head 2).state ≠ .off ∧
      ((headIn { idle with hold := true }).taken.head 2).hold = true ∧
      ((headIn { idle with hold := true }).taken.head 2).clean = true) ∧
    (((headIn locked).taken.head 2).state = .lockout ∧ ((headIn locked).taken.head 2).record = none ∧
      ((headIn locked).taken.head 2).withdraw = false) ∧
    ((headIn { locked with record := some aRecord }).taken.head 2).record.isSome = true ∧
    ((headIn { locked with withdraw := true }).taken.head 2).withdraw = true :=
  ⟨⟨hears_of (by decide +kernel), hears_of (by decide +kernel)⟩, by decide +kernel⟩

def aSnapshot : Snapshot := running.snapshot 34 .zoneCut

def stacked (l : List Snapshot) : State := { s0 with faults := { s0.faults with snapshots := l, overflow := true } }

theorem test_witness_ClearFaultAndPopSnapshot :
    (s0.hears (env 1) ∧ (stacked [aSnapshot]).hears (env 1)) ∧ 14 ≤ (14 : Byte).toNat ∧
    ((lockedOut 2 true).taken.record .lockout).condition = true ∧
    ((s0.taken.record .ring).condition = false ∧ (s0.taken.record .ring).latched = false) ∧
    ((s0.taken.record .reset).condition = false ∧ (s0.taken.record .reset).latched = true ∧
      (s0.taken.record .reset).inStop = true ∧ s0.taken.lineHeld = false) ∧
    (∀ k, k ≠ .reset → (s0.taken.record k).inStop = false) ∧
    ({ s0 with lineHeld := true } : State).taken.lineHeld = true ∧
    (stacked [aSnapshot]).taken.faults.snapshots = [aSnapshot] ∧ (stacked []).taken.faults.snapshots = [] :=
  ⟨⟨hears_of (by decide +kernel), hears_of (by decide +kernel)⟩, by decide +kernel, by decide +kernel,
    by decide +kernel, by decide +kernel, by intro k; cases k <;> decide +kernel, by decide +kernel⟩

/-! ### Resets and the stop line -/

/-- Reset conditions: power-on, supply out, pin, RESET_PART answered, RESET_PART reset. -/
def resetting (powerOn supplyOut pin pending active : Bool) : State :=
  { s0 with resets := ⟨powerOn, supplyOut, pin, pending, active⟩ }

theorem test_witness_ResetPartSequence :
    s0.hears (env 0) ∧ (resetting false false false true false).resets.ringPending = true ∧
    s0.resets.ringPending = false ∧
    ((resetting false false false false true).resets.ringActive = true ∧
      (resetting false false false false true).resets.powerOn = false ∧
      (resetting false false false false true).resets.pin = false) ∧
    (resetting true false false false true).resets.powerOn = true ∧
    (resetting false false true false true).resets.pin = true ∧ s0.resets.ringActive = false :=
  ⟨hears_of (by decide +kernel), by decide +kernel⟩

theorem test_witness_PowerAndPinResets :
    s0.inReset = false ∧ (resetting false false true false false).inReset = true ∧
    ((resetting true false false false false).resets.powerOn = true ∧
      (resetting true false false false false).resets.supplyOut = false ∧
      (resetting true false false false false).resets.pin = false ∧
      (resetting true false false false false).resets.ringActive = false) ∧
    (resetting true false true false false).resets.pin = true ∧
    (resetting true false false false true).resets.ringActive = true ∧
    ((resetting false false true false false).resets.pin = true ∧
      (resetting false false true false false).resets.powerOn = false) ∧
    -- a frame being cut, and none because the part is held already
    (s0.held = false ∧ ({ s0 with ringOut := [[1, 2], [3, 4]] } : State).ringOut = [[1, 2]] ++ [[3, 4]]) ∧
    ((resetting false false false true false).inReset = false ∧ (resetting false false false true false).held = true) := by
  decide +kernel

theorem test_witness_StopLineSensed :
    s0.drives = true ∧ heldPart.held = true ∧ ({ c0 with lineHeld := true } : State).lineHeld = true ∧
    (c0.drives = false ∧ c0.held = false ∧ c0.lineHeld = false) ∧
    ((c0.record .external).action = .stop ∧ ∀ h, (c0.head h).clean = true) := by decide +kernel

/-! ### Timers and the valve bus -/

theorem test_witness_TimebaseTimers :
    let s := lockedAt ⟨12, 100⟩ c0
    let hold : State := { s with tracker := { s.tracker with holdoverTimer := some 50 } }
    (s.held = false ∧ s.tracker.gapTimer ≠ none ∧ s.tracker.state = .locked) ∧
    (({ s with tracker := { s.tracker with state := .acquiring } } : State).tracker.state = .acquiring) ∧
    heldPart.held = true ∧ c0.tracker.gapTimer = none ∧
    (hold.held = false ∧ hold.tracker.holdoverTimer ≠ none ∧ (hold.record .timebase).action = .stop ∧
      hold.faults.mode ≠ .safe ∧ (∀ h, (hold.head h).clean = true) ∧ hold.tracker.edge = .both ∧
      ({ hold.tracker with edge := .gain } : Tracker).edge = .gain) ∧
    c0.tracker.holdoverTimer = none := by decide +kernel

theorem test_witness_VentPulseHeartbeatTimers :
    (onBus (headIn aborting)).scanner.inFlight ≠ none ∧
    (headIn aborting).held = false ∧
    (((headIn aborting).head 2).ventTimer ≠ none ∧ ((headIn aborting).head 2).state = .aborting ∧
      ((headIn aborting).head 2).clean = true) ∧ ((headIn idle).head 2).ventTimer = none ∧
    ((watch .watching 0).faults.watchdog.timer ≠ none ∧ (watch .watching 0).faults.watchdog.state = .watching) ∧
    (watch .waiting 0).faults.watchdog.timer = none := by decide +kernel

/-- Head 2 on the bus with a miss count. -/
def missing (n : Nat) : State := onBus (headIn { idle with scan := ⟨5, none, n, none, false, false⟩ })

theorem test_witness_ExchangeOutcomes :
    (({ headIn idle with scanner := { (headIn idle).scanner with urgent := [2] } } : State).scanner.urgent = [2]) ∧
    (c0.scanner.urgent = [] ∧ ∀ h, (c0.head h).state = .off) ∧
    ((headIn idle).scanner.urgent = [] ∧ ((headIn idle).head 2).state ≠ .off ∧ (headIn idle).scanner.scanPos = none) ∧
    -- a COMMAND that starts a confirmation, and those that start none
    (idle.state ≠ .lockout ∧ idle.scan.lastSent ≠ some idle.valves ∧ locked.state = .lockout ∧
      ({ idle with scan := ⟨5, some .rest, 0, none, false, false⟩ } : Head).scan.lastSent = some idle.valves ∧
      ({ idle with scan := ⟨5, some .rest, 0, none, false, true⟩ } : Head).scan.forcedUnsent = true) ∧
    (c0.held = false ∧ c0.scanner.inFlight = none) ∧
    ((missing 0).held = false ∧ (missing 0).scanner.inFlight = some flight ∧ flight.discard = false) ∧
    ({ flight with discard := true } : InFlight).discard = true ∧
    (((missing 0).head flight.head).state ≠ .off ∧ ((missing 0).head flight.head).state ≠ .lockout ∧
      ((missing 0).head flight.head).scan.miss + 1 < (missing 0).scanner.missLimit) ∧
    (missing 1).scanner.missLimit ≤ ((missing 1).head flight.head).scan.miss + 1 ∧
    (statusOk [] = false ∧ byteAt [3] 0 ≠ BitVec.ofNat 8 flight.head.val ∧ (byteAt [2, 6] 1).toNat ≠ flight.seq) ∧
    (statusOk (statusFrame 1 2 3 0) = true ∧ byteAt (statusFrame 1 2 3 0) 0 = BitVec.ofNat 8 flight.head.val ∧
      (byteAt (statusFrame 1 2 3 0) 1).toNat = flight.seq) ∧
    ((onBus (headIn locked)).head flight.head).state = .lockout := by decide +kernel

/-- The part after the reply timer of head 2's exchange has expired, at its first miss. -/
def missed : State := after .replyTimerExpiry (missing 0)

/-- A frame received together with the expiry and taken after it is discarded (R102). -/
theorem test_frame_at_the_expiry_is_discarded : after (.status ⟨[1], true⟩) missed = missed := by decide +kernel

/-- A late frame, taken right after the expiry, ends the next exchange as a miss (R102, worked scan steps 7 and 8). -/
theorem test_late_frame_ends_the_next_exchange :
    (missed.head 2).scan.miss = 1 ∧
      ((after (.status ⟨[1], false⟩) missed).record .comm).lastCause = some .commMisses := by decide +kernel

/-- The observation of an idle head before the STATUS. -/
def lastSeen : Obs := ⟨300, false, false, .rest, false, 0, 65530, 7⟩

def watched (leakRaised : Bool) : State :=
  onBus (headIn { idle with lastObs := some lastSeen, meter := ⟨3, leakRaised, false, none, none, false⟩ })

theorem watched_quiet : (watched false).QuietStatus flight (statusFrame 10 8 300 0) lastSeen := by
  unfold State.QuietStatus; decide +kernel

/-- Increments at the step limit, on a head whose leak was raised before. -/
theorem watched_far_quiet : (watched true).QuietStatus flight (statusFrame 1018 1031 300 0) lastSeen := by
  unfold State.QuietStatus; decide +kernel

/-- Head 2 as given with its last observation, its exchange in flight, in a part locked at cycle angle `θ` whose slot 3
holds three segments, the first a FILL and the second a TRIM. -/
def dosing (c : Head) (θ : Nat) : State :=
  let s := onBus (lockedAt ⟨1, θ⟩ (headIn { c with lastObs := some lastSeen }))
  s.setSlot 3
    { s.slot 3 with
      segCount := some 3, header := fillWork.header
      cells := ((s.slot 3).cells.set 0 ⟨fillWork.record, true, true⟩).set 1 ⟨{ fillWork.record with kind := .trim }, true, true⟩ }

/-- A segment of a kind with an end and a parameter, on the header of chapter 4. -/
def work (k : SegKind) (e : EndCond) (p : Nat) : Work := ⟨fillWork.header, ⟨k, 12, 3, 30, e, p, 0, 1100⟩⟩

/-- An ACTIVE segment of head 2 that ends on the probe. -/
def probing (index : Nat) : Head :=
  { filling with segIndex := index, work := some ⟨fillWork.header, { fillWork.record with ending := .probe, param := 0 }⟩ }

/-- The STATUS of a safe close: the valves as commanded, the bottle's pressure as given. -/
def closing (pressure : Nat) : Frame :=
  sealBus (nat8 2 ++ nat8 5 ++ nat16 10 ++ nat16 8 ++ nat16 pressure ++ [0, Valves.venting.set, 0, 0, 0])

theorem seating_quiet : ∀ θ ∈ [600, 2490], ∀ f ∈ [statusFrame 10 8 300 0, statusFrame 10 8 300 2],
    (dosing seating θ).QuietStatus flight f lastSeen := by
  unfold State.QuietStatus; decide +kernel

theorem probing_quiet : ∀ i ∈ [0, 2], ∀ θ ∈ [900, 2490], ∀ f ∈ [statusFrame 10 8 300 0, statusFrame 10 8 300 1],
    (dosing (probing i) θ).QuietStatus flight f lastSeen := by
  unfold State.QuietStatus; decide +kernel

theorem riding_quiet : ∀ c ∈ [doneHead, { doneHead with bases := some ⟨3, 4⟩ }, { idle with state := .emptyPass }],
    (dosing c 900).QuietStatus flight (statusFrame 10 8 300 0) lastSeen := by
  unfold State.QuietStatus; decide +kernel

theorem closing_quiet : ∀ c ∈ [aborting, { aborting with record := some aRecord }, { aborting with withdraw := true },
    { aborting with state := .forced, level := 2 }, locked], ∀ p ∈ [20, 21],
    (dosing c 900).QuietStatus flight (closing p) lastSeen := by
  unfold State.QuietStatus; decide +kernel

/-- The head after the end of its segment, as GoodStatusByHeadState has it go on. -/
def afterSegment (index θ : Nat) : State :=
  (dosing (probing index) θ).setHead 2 (((dosing (probing index) θ).head 2).ended (work .fill .probe 0) θ)

/-- What `GoesOn` asks of a head whose segment has ended: the last of three segments, and the one before with a start and
without one. -/
theorem goesOn_premises :
    (∀ i ∈ [0, 2], ((afterSegment i 900).head 2).state = .running ∧ ((afterSegment i 900).head 2).pin = some thePin ∧
      ((afterSegment i 900).slot 3).segCount = some 3 ∧ ((afterSegment i 900).head 2).calib = some cal ∧
      ((afterSegment i 900).head 2).record = none) ∧
    (3 ≤ ((afterSegment 2 900).head 2).segIndex ∧ ((afterSegment 0 900).head 2).segIndex = (1 : Fin 12).val) ∧
    (((afterSegment 0 900).slot 3).state ≠ .corrupt ∧ ((afterSegment 0 900).slot 3).headerClean = true ∧
      ((afterSegment 0 900).slot 3).cells[(1 : Fin 12)].clean = true) ∧
    (afterSegment 0 900).mayStart ((afterSegment 0 900).head 2) .trim 900 = true ∧
    (afterSegment 0 2490).mayStart ((afterSegment 0 2490).head 2) .trim 2490 = false := by decide +kernel

/-- The STATUS frames and states of the lemmas above, which meet `QuietStatus`, meet the premises of the clauses. -/
theorem test_witness_GoodStatusByHeadState :
    -- not seated, and seated with a start and without one
    (((watched false).head 2).state = .idle ∧ ((watched false).head 2).record = none ∧
      ((watched false).head 2).bases = none) ∧
    (statusAt (statusFrame 10 8 300 0)).obs.seated = false ∧
    ((statusAt (statusFrame 10 8 300 2)).obs.seated = true ∧ ((dosing seating 600).head 2).pin = some thePin ∧
      ((dosing seating 600).head 2).segIndex = (0 : Fin 12).val ∧ ((dosing seating 600).slot 3).state ≠ .corrupt ∧
      ((dosing seating 600).slot 3).headerClean = true ∧ ((dosing seating 600).slot 3).cells[(0 : Fin 12)].clean = true) ∧
    ((dosing seating 600).cycleAngle 2 = some 600 ∧
      (dosing seating 600).mayStart { (dosing seating 600).head 2 with bases := some ⟨10, 8⟩ } .fill 600 = true ∧
      (dosing seating 2490).mayStart { (dosing seating 2490).head 2 with bases := some ⟨10, 8⟩ } .fill 2490 = false) ∧
    -- a segment that does not end, and one that does
    ((statusAt (statusFrame 10 8 300 0)).obs.probe = false ∧ (statusAt (statusFrame 10 8 300 1)).obs.probe = true ∧
      0 ≤ (900 + c0.tracker.cpr - 600) % c0.tracker.cpr ∧ (probing 0).startAngle = some 600 ∧
      (dosing (probing 0) 900).cycleAngle 2 = some 900 ∧ (probing 0).bases ≠ none ∧ (probing 0).record = none ∧
      (probing 0).work = some (work .fill .probe 0)) ∧
    -- a ride, with bases and without
    (doneHead.state = .done ∧ doneHead.record ≠ none ∧ doneHead.bases = none) ∧
    -- a safe close, complete and not, in each of the three states
    (flight.predates = false ∧ (statusAt (closing 20)).obs.valves = aborting.valves ∧
      (statusAt (closing 20)).obs.pressure ≤ (dosing aborting 900).sequencer.releasePressure ∧
      ¬(statusAt (closing 21)).obs.pressure ≤ (dosing aborting 900).sequencer.releasePressure) := by
  decide +kernel

/-! ### Faults -/

/-- A class with an action. -/
def acting (c : FaultClass) (a : Action) (s : State) : State := s.updRecord c fun r => { r with action := a }

theorem test_witness_PartRaiseLatchesReportsActs :
    let s := fun a => acting .ring a ((withHead running (inMode .production c0)).setHead 3 seating)
    (∀ h, ((s .halt).head h).clean = true) ∧
    (∀ a ∈ [Action.note, .hold, .halt, .stop], ((s a).record (Cause.ringCrc).cls).action = a) ∧
    (((s .halt).head 2).state = .running ∧ ((s .halt).head 3).state = .seating ∧ ((s .halt).head 3).record = none ∧
      ((s .halt).head 4).state = .off) ∧
    (Cause.ringCrc.cls ≠ .external ∧ Cause.lineLow.cls = .external) := by decide +kernel

theorem test_witness_HeadRaiseEscalates :
    let s := fun a c => acting .zone a (headIn c)
    ((c0.head 2).state = .off ∧ ((headIn locked).head 2).state = .lockout) ∧
    (((s .halt running).head 2).state = .running ∧ (∀ g, ((s .halt running).head g).clean = true) ∧
      Cause.zoneCut.cls ≠ .lockout ∧ (s .halt running).lockoutCount < (s .halt running).faults.lockoutLimit ∧
      (s .halt running).faults.snapshots.length < 16) ∧
    (∀ a ∈ [Action.note, .hold, .halt, .stop], ((s a running).record Cause.zoneCut.cls).action = a) ∧
    (Cause.zoneCut.cls ≠ .valve ∧ Cause.zoneCut.cls ≠ .comm ∧ Cause.zoneCut ≠ .profileLost) ∧
    ((s .stop seating).head 2).state = .seating ∧ ((s .halt aborting).head 2).state = .aborting ∧
    ((s .halt { aborting with state := .forced, level := 2 }).head 2).state = .forced ∧
    (((s .halt idle).head 2).state = .idle ∧ ((s .halt doneHead).head 2).state = .done) ∧
    -- R68 under NOTE and HOLD, with room below the lockout limit
    ((s .note aborting).lockoutCount + 1 < (s .note aborting).faults.lockoutLimit ∧
      Cause.ventTimeout.cls = .valve ∧ Cause.commMisses.cls = .comm ∧
      (∀ a ∈ [Action.note, .hold], ((acting .valve a (headIn aborting)).record .valve).action = a) ∧
      ((acting .table .note (headIn running)).record Cause.profileLost.cls).action = .note) := by decide +kernel

/-- Under NOTE, VENT_TIMEOUT still forces an ABORTING head and PROFILE_LOST still aborts a RUNNING one (R68). -/
theorem test_slides_under_note :
    (((acting .valve .note (headIn aborting)).raiseHead 2 .ventTimeout).head 2).state = .forced ∧
      (((acting .table .note (headIn running)).raiseHead 2 .profileLost).head 2).state = .aborting := by decide +kernel

/-- Head 2 RUNNING with a parity error in its context. -/
def upset (c : Head) : State := headIn { c with clean := false }

/-- Slot 3 of `dosing` with its header in error, or CORRUPT. -/
def spoiled (c : Head) (st : SlotState) : State :=
  (dosing c 900).setSlot 3 { (dosing c 900).slot 3 with state := st, headerClean := false }

theorem test_witness_ParityErrorsAct :
    (∀ c ∈ [idle, doneHead, { idle with state := .emptyPass }, aborting, running, seating, locked,
        { aborting with state := .forced, level := 2 }],
      ((upset c).head 2).state ≠ .off ∧ ((upset c).head 2).clean = false ∧
        (upset c).lockoutCount + 1 < ({ upset c with
          faults := { (upset c).faults with lockoutLimit := 3 } } : State).faults.lockoutLimit) ∧
    (locked.valves = .venting ∧ locked.arm = none ∧ ({ locked with valves := .rest } : Head).valves ≠ .venting ∧
      ({ locked with arm := some ⟨.liquid, 9⟩ } : Head).arm ≠ none) ∧
    (∀ g, g ≠ 2 → ((upset running).head g).clean = true) ∧
    (∀ c ∈ [running, seating], ((upset c).head 2).pin = some thePin ∧ ((upset c).head 2).record = none) ∧
    (∀ a ∈ [Action.note, .stop], ((acting .table a (upset idle)).record .table).action = a) ∧
    ((upset idle).faults.snapshots.length < 16 ∧ (upset idle).faults.mode ≠ .safe) ∧
    -- a PENDING segment, and one before the last that ends, in a CORRUPT slot and in one misread
    (((spoiled running .corrupt).head 2).state = .running ∧ ((spoiled running .corrupt).head 2).pin = some thePin ∧
      ((spoiled running .corrupt).head 2).phase = some .pending ∧
      ((spoiled running .corrupt).head 2).segIndex = (0 : Fin 12).val ∧
      ((spoiled running .corrupt).slot 3).state = .corrupt) ∧
    (((spoiled running .active).slot 3).state ≠ .corrupt ∧ ((spoiled running .active).slot 3).headerClean = false) ∧
    (((spoiled running .active).slot 3).segCount = some 3 ∧
      ((spoiled running .active).head 2).segIndex + 1 = (1 : Fin 12).val) := by decide +kernel

/-- The rewrite of a head in LOCKOUT posts where it changes the command, and only there (R45, R70). -/
theorem test_lockout_rewrite_posts :
    ((upset { locked with valves := .rest }).contextParity 2).scanner.inFlight.map (·.urgent) = some true ∧
      ((upset locked).contextParity 2).scanner.inFlight = none := by decide +kernel

/-- An entry to FORCED leaves a COMMAND to be sent, and that COMMAND starts a confirmation even with the valves of the one
before, as no other such does (R107). -/
theorem test_forced_starts_confirmation :
    let forced := fun unsent : Bool =>
      headIn { aborting with state := .forced, level := 2, scan := ⟨5, some .venting, 0, none, false, unsent⟩ }
    (((onBus (upset running)).contextParity 2).head 2).scan.forcedUnsent = true ∧
      ((forced true).chooseNext.head 2).scan.confirm = some 3 ∧
      ((forced false).chooseNext.head 2).scan.confirm = none := by decide +kernel

theorem test_context_parity_forces :
    (((upset running).contextParity 2).head 2).state = .forced ∧
      (((upset running).contextParity 2).head 2).record.map (·.verdict) = some .aborted := by decide +kernel

theorem test_profile_parity_corrupts :
    let t := (spoiled running .active).pendingTest 2 (some 900)
    (t.head 2).state = .aborting ∧ (t.record .table).lastCause = some .profileParity := by decide +kernel

/-! ### A STATUS that raises -/

/-- Head 2 idle with a confirmation awaited and its miss count at 1. -/
def awaiting (n : Option Nat) : State :=
  onBus (headIn { idle with lastObs := some lastSeen, scan := ⟨5, none, 1, n, false, false⟩ })

theorem test_witness_StatusIsTakenInOrder :
    (∀ n ∈ [none, some 1, some 2], (awaiting n).held = false ∧ (awaiting n).scanner.inFlight = some flight ∧
      ((awaiting n).head flight.head).state ≠ .off ∧ ((awaiting n).head flight.head).state ≠ .lockout ∧
      ((awaiting n).head flight.head).scan.confirm = n) ∧
    (flight.discard = false ∧ flight.answeredBy (statusFrame 10 8 300 8) = true ∧
      (statusAt (statusFrame 10 8 300 8)).nodeFault = true ∧ (statusAt (statusFrame 10 8 300 0)).nodeFault = false) ∧
    -- valves that match and that differ
    ((statusAt (statusFrame 10 8 300 0)).obs.valves = flight.valves ∧
      (statusAt (closing 20)).obs.valves.v ≠ flight.valves.v ∧ flight.answeredBy (closing 20) = true) ∧
    ((onBus (headIn { locked with scan := ⟨5, none, 0, some 1, false, false⟩ })).head 2).state = .lockout ∧
    -- increments, and a head not yet observed
    (((headIn idle).head 2).lastObs = none ∧ ((awaiting none).head 2).lastObs = some lastSeen) ∧
    -- the states that take it, and the segment and the close that it ends or not
    (seating.state = .seating ∧ (statusAt (statusFrame 10 8 300 2)).obs.seated = true ∧
      (statusAt (statusFrame 10 8 300 0)).obs.seated = false) ∧
    (running.state = .running ∧ running.phase ≠ some .active ∧ filling.phase = some .active ∧
      filling.work = some fillWork ∧ filling.startAngle = some 600 ∧ (dosing filling 900).cycleAngle 2 = some 900) ∧
    ((dosing aborting 900).predates = false ∧ aborting.withdraw = false ∧
      ({ aborting with record := some aRecord } : Head).record ≠ none) := by decide +kernel

theorem test_mismatch_raised :
    ((after (.status ⟨closing 20, false⟩) (awaiting (some 1))).record .valve).lastCause = some .valveMismatch ∧
      ((after (.status ⟨closing 20, false⟩) (awaiting (some 2))).record .valve).lastCause = none := by decide +kernel

theorem test_node_fault_raised :
    ((after (.status ⟨statusFrame 10 8 300 8, false⟩) (awaiting none)).record .comm).lastCause = some .commNode := by
  decide +kernel

theorem test_jump_then_leak_raised :
    ((after (.status ⟨statusFrame 1025 20 300 0, false⟩) (awaiting none)).record .meter).lastCause = some .meterJump ∧
      ((after (.status ⟨statusFrame 1025 28 300 0, false⟩) (awaiting none)).record .meter).lastCause = some .meterLeak := by
  decide +kernel

/-! ### The dose cycle -/

/-- A part in PRODUCTION with slot 3 ACTIVE and head 2 as given. -/
def inLine (c : Head) : State := withHead c (configured (inMode .production s0))

theorem inLine_active : ∀ j, ((inLine idle).slot j).state = .active → j = 3 := by decide +kernel

theorem inLine_oneActive (c : Head) : (inLine c).OneActive :=
  fun i j hi hj => (inLine_active i hi).trans (inLine_active j hj).symm

theorem test_witness_InfeedBeginsCycle :
    (((inLine idle).head 2).state = .idle ∧ ((inLine idle).head 2).record = none) ∧ s0.faults.mode ≠ .production ∧
    ((inLine idle).faults.mode = .production ∧ ((inLine idle).head 2).pin = none ∧
      (0 < cal.liquidK ∧ 0 < cal.syrupK ∧ ((inLine idle).head 2).calib = some cal)) ∧
    (∃ k ∈ FaultClass.all, (((inLine idle).updRecord .supply fun r => { r with bars := true }).record k).bars = true) ∧
    (∀ k ∈ FaultClass.all, ((inLine idle).record k).bars = false) ∧
    ((inLine { idle with hold := true }).head 2).hold = true ∧
    ((inLine { idle with withdraw := true }).head 2).withdraw = true ∧
    (((inLine idle).head 2).hold = false ∧ ((inLine idle).head 2).withdraw = false) ∧
    (∀ j, ((configured (inMode .production s0)).slot j).state ≠ .active) ∧
    (((inLine idle).slot 3).state = .active ∧ ((inLine idle).slot 3).profile = some 411) := by decide +kernel

theorem test_witness_SeatEndAndDischarge :
    (((inLine doneHead).head 2).clean = true ∧ ((inLine doneHead).head 2).state ≠ .off ∧
      ((inLine doneHead).head 2).state ≠ .running ∧ (inLine doneHead).zones.seatEnd = 60 ∧
      (inLine doneHead).zones.dischargeAngle = 2500) ∧
    (inLine running).OneActive ∧
    (((inLine seating).head 2).state = .seating ∧ ((inLine seating).head 2).pin = some thePin ∧
      ((inLine seating).head 2).record = none) ∧ ((inLine idle).head 2).state ≠ .seating ∧
    ((inLine idle).head 2).state = .idle ∧
    (((inLine doneHead).head 2).state = .done ∧ ((inLine doneHead).head 2).record = some aRecord ∧
      (inLine doneHead).discharge.master = false ∧ (inLine doneHead).reports.prioOf .dose ≠ 0) ∧
    (({ inLine doneHead with
        reports := { (inLine doneHead).reports with prios := (inLine doneHead).reports.prios.set 0 0 } } :
        State).reports.prioOf .dose = 0) ∧
    (((inLine running).head 2).state = .running ∧ ((inLine running).head 2).pin = some thePin ∧
      (acting .deadline .stop (inLine running)).record .deadline = { (inLine running).record .deadline with action := .stop } ∧
      ((inLine running).head 2).record = none ∧ (∀ g, ((inLine running).head g).clean = true) ∧
      (inLine running).lockoutCount < (inLine running).faults.lockoutLimit ∧
      (inLine running).faults.snapshots.length < 16 ∧ (inLine running).faults.mode ≠ .safe) :=
  ⟨by decide +kernel, inLine_oneActive _, by decide +kernel⟩

/-- The forced head's record leaves as a DOSE report after the FAULT report (R61). -/
theorem test_forced_discharge_emits :
    (((inLine running).dischargeCrossing 2 ⟨12, 2500⟩).reports.queue.map fun r => r.body.kind) = [.fault, .fault, .dose] := by
  decide +kernel

/-- The part of `inLine` as discharge master. -/
def masterLine (c : Head) (trackerFirst : Bool) : State :=
  { inLine c with
    discharge := { (inLine c).discharge with master := true, gate := 6000 }
    arbiter := { (inLine c).arbiter with trackerFirst := trackerFirst } }

theorem test_witness_CrossingsByState :
    (∀ c ∈ [aborting, { aborting with state := .forced, level := 2 }, locked],
      ((inLine c).head 2).record = none ∧ (inLine c).faults.mode = .production ∧ (headIn c).faults.mode ≠ .production) ∧
    (aborting.state = .aborting ∧ locked.state = .lockout ∧ seating.state = .seating ∧ running.state = .running ∧
      doneHead.state = .done) ∧
    ({ aborting with record := some aRecord } : Head).record = some aRecord ∧
    ((inLine idle).reports.prioOf .dose ≠ 0 ∧ (inLine idle).discharge.master = false) ∧
    ((masterLine doneHead true).discharge.master = true ∧ (0 : Fin 15).val = (masterLine doneHead true).management.address ∧
      (masterLine doneHead true).reports.prioOf .dose ≠ 0) := by decide +kernel

theorem test_infeed_of_lockout :
    (((inLine locked).infeedCrossing 2 ⟨12, 0⟩).head 2).record.map (·.verdict) = some .locked ∧
      (((inLine running).infeedCrossing 2 ⟨12, 0⟩).head 2).state = .forced := by decide +kernel

theorem test_master_takes_its_own :
    ((masterLine doneHead false).emit 2 ⟨12, 2500⟩).discharge.schedule.length = 1 := by decide +kernel

/-- Head 2 RUNNING in an ACTIVE segment of a kind and end, in a part at cycle angle 900. -/
def inSegment (k : SegKind) (e : EndCond) (p : Nat) : State := dosing { filling with work := some (work k e p) } 900

theorem test_witness_RunningHeadTakesAngle :
    let s := inSegment .fill .angle 2400
    -- a boundary, its rows within CPR, and the ends of a segment that lie at an angle
    (2400 < s.tracker.cpr ∧ (∀ i : Fin 8, s.zones.rows[i].valid = true → s.zones.rows[i].stop ≤ s.tracker.cpr) ∧
      s.zones.boundary s.tracker.cpr 2400 = true ∧ s.zones.boundary s.tracker.cpr 2399 = false) ∧
    (∀ i j : Fin 8, s.zones.rows[i].valid = true → s.zones.rows[j].valid = true → i = j) ∧
    ((s.head 2).angleEndAt 2400 = true ∧ s.deadlineAt (s.head 2) 1100 = true ∧ (s.head 2).rampPointAt 630 = true ∧
      s.startPointAt running 110 = true ∧ s.startPointAt { running with lastClosed := some (500, .v) } 504 = true) ∧
    -- ACTIVE in a region that permits it, and at its end, for a kind that is a product and one that is none
    ((s.head 2).state = .running ∧ (s.head 2).phase = some .active ∧ (s.head 2).clean = true ∧
      (s.head 2).work = some (work .fill .angle 2400)) ∧
    (s.zones.rows[(0 : Fin 8)].permitted.getLsbD (SegKind.fill.code - 1) = true ∧ SegKind.fill ≠ .settle ∧
      ((inSegment .snift .angle 2400).head 2).work = some (work .snift .angle 2400)) ∧
    -- ZONE CUT under NOTE leaves the head RUNNING, under HALT not
    (∀ a ∈ [(Action.note, HeadState.running), (.halt, .aborting)],
      (((acting .zone a.1 (s.setHead 2 ((s.head 2).ended (work .fill .angle 2400) 2400))).raiseHead 2 .zoneCut).head
        2).state = a.2) ∧
    -- a PENDING segment with a start and without one
    (((dosing running 900).head 2).phase = some .pending ∧ ((dosing running 900).head 2).pin = some thePin ∧
      ((dosing running 900).head 2).segIndex = (0 : Fin 12).val ∧
      ((dosing running 900).slot 3).state ≠ .corrupt ∧ ((dosing running 900).slot 3).headerClean = true ∧
      ((dosing running 900).slot 3).cells[(0 : Fin 12)].clean = true ∧
      (dosing running 900).mayStart ((dosing running 900).head 2) .fill 900 = true ∧
      (dosing running 900).mayStart ((dosing running 900).head 2) .fill 2400 = false) ∧
    ((headIn idle).head 2).state ≠ .running := by decide +kernel

theorem test_zone_cut_of_a_fill :
    let s := acting .zone .note (inSegment .fill .angle 3000)
    let t := s.takeAngle 2 2400 ⟨12, 2400⟩
    (t.head 2).segIndex = 1 ∧ (t.head 2).lastClosed = some (2400, .l) ∧ (t.record .zone).lastCause = some .zoneCut := by
  decide +kernel

theorem test_deadline_and_ramp :
    let s := acting .deadline .note (inSegment .fill .angle 2400)
    ((s.takeAngle 2 1100 ⟨12, 1100⟩).record .deadline).lastCause = some .deadlineSegment ∧
      ((s.takeAngle 2 630 ⟨12, 630⟩).head 2).valves.l = 6 := by decide +kernel

theorem c0_rows_disjoint : ∀ i j : Fin 8, c0.zones.rows[i].valid = true → c0.zones.rows[j].valid = true → i = j := by
  decide +kernel

theorem test_witness_SegmentStartSetsCommand :
    (∀ (i j : Fin 8) (a : Nat), (c0.zones.rows[i].valid = true ∧ c0.zones.rows[i].start ≤ a ∧ a < c0.zones.rows[i].stop) →
      (c0.zones.rows[j].valid = true ∧ c0.zones.rows[j].start ≤ a ∧ a < c0.zones.rows[j].stop) → i = j) ∧
    (c0.mayStart running .fill 110 = true ∧ c0.mayStart running .fill 109 = false ∧
      c0.mayStart running .fill 2400 = false ∧ c0.mayStart running .settle 2400 = true ∧
      c0.mayStart { running with lastClosed := some (500, .v) } .fill 503 = false ∧
      c0.mayStart { running with lastClosed := some (500, .v) } .fill 504 = true ∧
      c0.mayStart { running with bases := none } .fill 110 = false) ∧
    (running.bases = some ⟨40000, 0⟩ ∧ running.calib = some cal) ∧
    ((work .fill .probe 0).record.kind = .fill ∧ (work .trim .volume 1).record.ending = .volume) ∧
    (∀ k ∈ [SegKind.purge, .pressurize, .syrup, .settle, .snift], (work k .probe 0).record.kind = k ∧
      k ≠ .fill ∧ k ≠ .trim) ∧
    (work .fill .probe 0).record.ending ≠ .volume ∧ (work .fill .probe 0).record.kind ≠ .syrup ∧
    ((work .trim .volume 999).record.param < 1000 ∧ (work .trim .volume 1000).record.param = 1000) ∧
    (volumeOf 2480 35 filling.liquidTotal + 2772 ≤ 2772 ∧ volumeOf 2480 35 0 + 2773 > 2772) ∧
    filling.lastObs.isSome = true :=
  ⟨fun i j _ hi hj => c0_rows_disjoint i j hi.1 hj.1, by decide +kernel⟩

theorem test_witness_VolumeVerdictLearning :
    (0 < 2480 ∧ (10000 : Int) + (-20) = (9980 : Nat) ∧ 0 < 9980) ∧
    (3269 + 30 < 3300 ∧ ¬3270 + 30 < 3300) ∧ (3300 + 30 < 3331 ∧ ¬3300 + 30 < 3330) ∧
    ((160 + 8) * 3300 < 1000 * 555 ∧ ¬(160 + 8) * 3300 < 1000 * 554) ∧
    (1000 * 501 + 8 * 3300 < 160 * 3300 ∧ ¬1000 * 502 + 8 * 3300 < 160 * 3300) ∧
    (0 ≤ (160 : Int) ∧ (160 : Int) ≤ 2 * 55 + 50 ∧ 2 * 55 + 50 < (161 : Int) ∧ (-1 : Int) < 0) ∧
    (({ filling with meter := ⟨0, false, true, some 2717, some 55, true⟩ } : Head).meter.finalDone = true) := by
  decide +kernel

/-! ### The queue, the frames and the invariants -/

def report (p : Nat) : Report := ⟨p, .track .gain .locked none⟩

theorem test_witness_ReportInsertedByPriority :
    ((List.replicate 30 (report 3) ++ [report 1]).length < 32) ∧
      (List.replicate 30 (report 3) ++ [report 1]).Pairwise (fun a b => b.prio ≤ a.prio) ∧
      ([] : List Report).length < 32 := by decide +kernel

theorem test_witness_FullQueueEvictsOrDrops :
    let q := List.replicate 31 (report 3) ++ [report 1]
    q.length = 32 ∧ q.Pairwise (fun a b => b.prio ≤ a.prio) ∧ (∃ x ∈ q, x.prio = 1) ∧ (∀ x ∈ q, 1 ≤ x.prio) ∧
      (report 1).prio ≤ 1 ∧ 1 < (report 2).prio := by decide +kernel

theorem test_witness_RingFramesDecode :
    WellFormed (.setMode (env 1) 1) ∧ (Instr.setMode (env 1) 1).arrives false 0 9 = true ∧
      (ringFrameOf (.setMode (env 1) 1)).isSome = true ∧ (Instr.heartbeat (env 0) 9).arrives false 0 9 = true ∧
      (Instr.ringBypass [1]).arrives true 0 9 = true := by decide +kernel

theorem test_witness_StopAndLockoutKeepSafe :
    (lockedOut 2 true).StopsAreSafe ∧ (lockedOut 2 true).LockoutGuarded ∧
      step (lockedOut 2 true) = .next (lockedOut 2 true) :=
  ⟨fun _ => rfl, ⟨by decide +kernel, fun _ => rfl⟩, rfl⟩

theorem test_witness_HeadsCommandTheirState :
    (inLine filling).HeadsCommand ∧ step (inLine filling) = .next (inLine filling) := by
  have two : ∀ h, ((inLine filling).head h).state = .running → h = 2 := by decide +kernel
  refine ⟨fun h => ⟨by revert h; decide +kernel, by revert h; decide +kernel, fun hr => ?_⟩, rfl⟩
  rw [two h hr]
  exact .inr ⟨by decide +kernel, fillWork, by decide +kernel, by decide +kernel, by decide +kernel⟩

/-- A head whose segment is PENDING commands the rest pattern (R45). -/
theorem test_pending_commands_rest : running.CommandsSegment := .inl ⟨rfl, rfl⟩

theorem test_witness_ReportQueueStaysOrdered :
    c0.QueueOrdered ∧ step c0 = .next c0 :=
  ⟨⟨by decide +kernel, by decide +kernel, by decide +kernel, by intro k; cases k <;> decide +kernel⟩, rfl⟩

theorem test_witness_StoreCountsItsUsers :
    (inLine running).OneActive ∧ (inLine running).UsersCounted ∧ step (inLine running) = .next (inLine running) :=
  ⟨inLine_oneActive _, ⟨by decide +kernel, by decide +kernel, by decide +kernel, by decide +kernel⟩, rfl⟩

theorem test_witness_UrgentQueueStaysSound :
    let s : State := { missing 0 with scanner := { (missing 0).scanner with urgent := [2] } }
    s.UrgentOnce ∧ step s = .next s :=
  ⟨⟨by decide +kernel, by decide +kernel, fun h => by cases h⟩, rfl⟩

theorem test_witness_ScheduleAndSnapshotsBounded :
    let s := master (some 4) none [entry 4]
    s.ScheduleSound ∧ s.SnapshotsFit ∧ step s = .next s :=
  ⟨⟨by decide +kernel, by decide +kernel, by decide +kernel, fun h => by cases h⟩,
    by unfold State.SnapshotsFit; decide +kernel, rfl⟩

end Sys2Proof.Tests
end

/-! PROOFS. BEGIN, SEGMENT and COMMIT (R27 to R29): the range checks as propositions, what each request answers case by
case, and the statements about them. -/

namespace Sys2Proof.Machine

/-! ### The answer to an addressed request -/

/-- The state once an answer to a request has been sent on as its REPLY. -/
def Answer.reply (a : Answer) (e : Envelope) (kind : Byte) : State := a.after.replied e kind a.status a.contents

@[simp] theorem Answer.reply_refuse (s : State) (st : ReplyStatus) (e : Envelope) (kind : Byte) :
    (s.refuse st).reply e kind = s.replied e kind st [] := rfl

@[simp] theorem Answer.reply_done (s : State) (e : Envelope) (kind : Byte) :
    s.done.reply e kind = s.replied e kind .ok [] := rfl

@[simp] theorem Answer.reply_slotReply (s : State) (st : ReplyStatus) (j : SlotId) (e : Envelope) (kind : Byte) :
    (s.slotReply st j).reply e kind = s.replied e kind st (nat8 j ++ nat8 (s.slot j).gen) := rfl

theorem exec_beginSlot_hears {s : State} {e : Envelope} (h : s.hears e) (b : Byte) (hd : HeaderFields) :
    exec (.beginSlot e b hd) s = .next ((s.taken.beginSlot b hd).reply e 6) :=
  congrArg Host.Outcome.next (State.takeAddressed_hears h 6 _ _)

theorem exec_segment_hears {s : State} {e : Envelope} (h : s.hears e) (b k : Byte) (f : SegmentFields) :
    exec (.segment e b k f) s = .next ((s.taken.writeSegment b k f).reply e 7) :=
  congrArg Host.Outcome.next (State.takeAddressed_hears h 7 _ _)

theorem exec_commit_hears {s : State} {e : Envelope} (h : s.hears e) (b : Byte) (crc : Word) :
    exec (.commit e b crc) s = .next ((s.taken.commit b crc).reply e 8) :=
  congrArg Host.Outcome.next (State.takeAddressed_hears h 8 _ _)

/-! ### BEGIN (R27) -/

/-- The ranges of R24, as a proposition. -/
def HeaderRanged (hd : HeaderFields) : Prop :=
  1 ≤ hd.segCount.toNat ∧ hd.segCount.toNat ≤ 12 ∧ 1 ≤ hd.target.toNat ∧ hd.target.toNat ≤ 30000 ∧
    hd.underTol.toNat ≤ 2000 ∧ hd.overTol.toNat ≤ 2000 ∧ hd.ratio.toNat ≤ 500 ∧ hd.ratioTol.toNat ≤ 100

theorem headerInRange_iff (hd : HeaderFields) : headerInRange hd = true ↔ HeaderRanged hd := by
  simp only [headerInRange, HeaderRanged, Bool.and_eq_true, decide_eq_true_eq, and_assoc]

theorem Slot.beginnable_iff (t : Slot) :
    t.beginnable = true ↔ t.state = .free ∨ t.state = .loading ∨ t.state = .verifying ∨
      ((t.state = .ready ∨ t.state = .corrupt) ∧ t.users = 0) := by
  unfold Slot.beginnable
  cases t.state <;> simp

@[simp] theorem State.abandon_slot (s : State) (i j : SlotId) : (s.abandon j).slot i = s.slot i := by
  unfold State.abandon
  split <;> rfl

theorem State.abandon_verifier (s : State) (j : SlotId) :
    (s.abandon j).store.verifier = if s.store.verifier = some j then none else s.store.verifier := by
  unfold State.abandon
  split <;> rfl

/-- To abandon a verification changes the store alone. -/
theorem State.abandon_frame (s : State) (j : SlotId) : { s.abandon j with store := s.store } = s := by
  unfold State.abandon
  split <;> rfl

/-- The state once BEGIN has acted on a slot. -/
def State.begunAt (s : State) (j : SlotId) (hd : HeaderFields) : State :=
  (s.abandon j).setSlot j ((s.slot j).begun hd)

theorem State.begunAt_slot (s : State) (j : SlotId) (hd : HeaderFields) :
    (s.begunAt j hd).slot j = (s.slot j).begun hd := State.slot_setSlot _ _ _

theorem State.begunAt_slot_ne (s : State) {i j : SlotId} (hd : HeaderFields) (h : i ≠ j) :
    (s.begunAt j hd).slot i = s.slot i := by
  rw [State.begunAt, State.slot_setSlot_eq, if_neg h, State.abandon_slot]

theorem State.begunAt_verifier (s : State) (j : SlotId) (hd : HeaderFields) :
    (s.begunAt j hd).store.verifier = if s.store.verifier = some j then none else s.store.verifier :=
  s.abandon_verifier j

/-- BEGIN changes the store alone. -/
theorem State.begunAt_frame (s : State) (j : SlotId) (hd : HeaderFields) :
    { s.begunAt j hd with store := s.store } = s := s.abandon_frame j

theorem State.beginSlot_noSlot {b : Byte} (h : 8 ≤ b.toNat) (hd : HeaderFields) (s : State) :
    s.beginSlot b hd = s.refuse .badRow := by
  simp only [State.beginSlot, slotOf_outside h]

/-- BEGIN of a slot checks the header, then the slot's state. -/
theorem State.beginSlot_at (j : SlotId) (hd : HeaderFields) (s : State) :
    s.beginSlot (BitVec.ofNat 8 j.val) hd =
      if !headerInRange hd then s.refuse .badValue
      else if (s.slot j).beginnable then (s.begunAt j hd).slotReply .ok j
      else s.refuse .refusedState := by
  simp only [State.beginSlot, slotOf_ofNat, State.begunAt]

theorem State.beginSlot_unranged {hd : HeaderFields} (h : ¬HeaderRanged hd) (j : SlotId) (s : State) :
    s.beginSlot (BitVec.ofNat 8 j.val) hd = s.refuse .badValue := by
  simp [State.beginSlot_at, headerInRange_iff, h]

theorem State.beginSlot_closed {s : State} {j : SlotId} {hd : HeaderFields} (h : HeaderRanged hd)
    (closed : (s.slot j).beginnable = false) :
    s.beginSlot (BitVec.ofNat 8 j.val) hd = s.refuse .refusedState := by
  simp [State.beginSlot_at, (headerInRange_iff hd).mpr h, closed]

theorem State.beginSlot_open {s : State} {j : SlotId} {hd : HeaderFields} (h : HeaderRanged hd)
    (opened : (s.slot j).beginnable = true) :
    s.beginSlot (BitVec.ofNat 8 j.val) hd = (s.begunAt j hd).slotReply .ok j := by
  simp [State.beginSlot_at, (headerInRange_iff hd).mpr h, opened]

/-- Settles O26: the request is executed on `s.taken`, where the header decides first and the slot's state then. -/
theorem beginBySlotState : Obligations.BeginBySlotState := by
  intro e hd s hears u ranged
  refine ⟨fun b hb => ?noSlot, fun j => ?slot⟩
  case noSlot => rw [exec_beginSlot_hears hears, State.beginSlot_noSlot hb, Answer.reply_refuse]
  case slot =>
    intro t run open_
    have ran : run = .next ((u.beginSlot (BitVec.ofNat 8 j.val) hd).reply e 6) := exec_beginSlot_hears hears _ _
    refine ⟨fun hr => ?unranged, fun hr hc => ?closed, fun hr ho => ?opened⟩
    case unranged => rw [ran, State.beginSlot_unranged hr, Answer.reply_refuse]
    case closed =>
      have closed : t.beginnable = false := Bool.eq_false_iff.mpr fun o => hc (t.beginnable_iff.mp o)
      rw [ran, State.beginSlot_closed hr closed, Answer.reply_refuse]
    case opened =>
      have opened : t.beginnable = true := t.beginnable_iff.mpr ho
      refine ⟨u.begunAt j hd, ?_, u.begunAt_slot j hd, fun i hi => u.begunAt_slot_ne hd hi, u.begunAt_verifier j hd,
        u.begunAt_frame j hd⟩
      rw [ran, State.beginSlot_open hr opened, Answer.reply_slotReply, State.begunAt_slot]
      rfl

/-! ### The segment record (R25) -/

/-- A kind is the one of a code exactly when the code is its code. -/
theorem SegKind.ofCode_eq_some {n : Nat} {k : SegKind} : SegKind.ofCode n = some k ↔ n = k.code := by
  constructor
  · unfold SegKind.ofCode
    split <;> rintro ⟨⟩ <;> rfl
  · rintro rfl
    cases k <;> rfl

theorem EndCond.ofCode_eq_some {n : Nat} {c : EndCond} : EndCond.ofCode n = some c ↔ n = c.code := by
  constructor
  · unfold EndCond.ofCode
    split <;> rintro ⟨⟩ <;> rfl
  · rintro rfl
    cases c <;> rfl

/-- The ranges of R25, as a proposition: the aperture fields by the kind, the end parameter by the end condition. -/
def SegRecord.Ranged (r : SegRecord) : Prop :=
  (r.kind = .fill ∨ r.kind = .trim →
    1 ≤ r.aperture ∧ r.aperture ≤ 15 ∧ 1 ≤ r.step ∧ r.step ≤ 15 ∧ 1 ≤ r.interval) ∧
  (r.kind ≠ .fill → r.kind ≠ .trim → r.aperture = 0 ∧ r.step = 0 ∧ r.interval = 0) ∧
  (r.kind = .syrup → r.ending = .volume ∧ r.param = 0) ∧
  (r.kind ≠ .syrup → r.kind ≠ .fill → r.kind ≠ .trim → r.ending ≠ .volume) ∧
  (r.kind ≠ .syrup → r.ending = .volume → 1 ≤ r.param ∧ r.param ≤ 1000) ∧
  (r.ending = .probe → r.param = 0) ∧ (r.ending = .pressureEq → 1 ≤ r.param ∧ r.param ≤ 100) ∧
  (r.ending = .pressureLow → r.param ≤ 1000) ∧ (r.ending = .angle → 1 ≤ r.param) ∧
  r.dwell ≤ 1023 ∧ 1 ≤ r.deadline

theorem paramInRange_iff (k : SegKind) (c : EndCond) (p : Nat) :
    paramInRange k c p = true ↔
      (k = .syrup → c = .volume → p = 0) ∧ (k ≠ .syrup → c = .volume → 1 ≤ p ∧ p ≤ 1000) ∧
      (c = .probe → p = 0) ∧ (c = .pressureEq → 1 ≤ p ∧ p ≤ 100) ∧ (c = .pressureLow → p ≤ 1000) ∧
      (c = .angle → 1 ≤ p) := by
  cases c
  case volume => by_cases h : k = .syrup <;> simp [paramInRange, h]
  all_goals simp [paramInRange]

/-- The check of a record is the ranges of R25; an interval read from one byte is at most 255. -/
theorem SegRecord.inRange_iff {r : SegRecord} (byte : r.interval ≤ 255) : r.inRange = true ↔ r.Ranged := by
  obtain ⟨kind, aperture, step, interval, ending, param, dwell, deadline⟩ := r
  change interval ≤ 255 at byte
  unfold SegRecord.inRange SegRecord.Ranged
  rw [Bool.and_eq_true, Bool.and_eq_true, Bool.and_eq_true, paramInRange_iff]
  cases kind
  case syrup => simp +contextual [and_assoc]
  all_goals simp [byte, and_assoc]

/-- The record of a kind and an end condition with the other fields of a SEGMENT. -/
def recordAs (f : SegmentFields) (kind : SegKind) (ending : EndCond) : SegRecord :=
  { kind := kind, aperture := f.aperture.toNat, step := f.step.toNat, interval := f.interval.toNat, ending := ending
    param := f.param.toNat, dwell := f.dwell.toNat, deadline := f.deadline.toNat }

/-- The fields of a SEGMENT spell a record of a kind and an end condition in its ranges. -/
def SegmentRanged (f : SegmentFields) (kind : SegKind) (ending : EndCond) : Prop :=
  f.kind.toNat = kind.code ∧ f.ending.toNat = ending.code ∧ (recordAs f kind ending).Ranged

theorem recordAs_inRange_iff (f : SegmentFields) (kind : SegKind) (ending : EndCond) :
    (recordAs f kind ending).inRange = true ↔ (recordAs f kind ending).Ranged :=
  SegRecord.inRange_iff (Nat.le_of_lt_succ f.interval.isLt)

theorem recordOf_of_ranged {f : SegmentFields} {kind : SegKind} {ending : EndCond} (h : SegmentRanged f kind ending) :
    recordOf f = some (recordAs f kind ending) := by
  obtain ⟨hk, he, hr⟩ := h
  unfold recordOf
  rw [SegKind.ofCode_eq_some.mpr hk, EndCond.ofCode_eq_some.mpr he]
  exact if_pos ((recordAs_inRange_iff f kind ending).mpr hr)

theorem recordOf_of_unranged {f : SegmentFields} (h : ¬∃ kind ending, SegmentRanged f kind ending) :
    recordOf f = none := by
  unfold recordOf
  split
  · next kind ending hk he =>
    refine if_neg fun hr => h ⟨kind, ending, SegKind.ofCode_eq_some.mp hk, EndCond.ofCode_eq_some.mp he, ?_⟩
    exact (recordAs_inRange_iff f kind ending).mp hr
  · rfl

/-! ### SEGMENT (R28) -/

theorem State.writeSegment_noSlot {b : Byte} (h : 8 ≤ b.toNat) (k : Byte) (f : SegmentFields) (s : State) :
    s.writeSegment b k f = s.refuse .badRow := by
  simp only [State.writeSegment, slotOf_outside h]

theorem State.writeSegment_verifying {s : State} {j : SlotId} (h : (s.slot j).state = .verifying) (k : Byte)
    (f : SegmentFields) : s.writeSegment (BitVec.ofNat 8 j.val) k f = s.refuse .busy := by
  simp [State.writeSegment, h]

theorem State.writeSegment_notLoading {s : State} {j : SlotId} (hv : (s.slot j).state ≠ .verifying)
    (hl : (s.slot j).state ≠ .loading) (k : Byte) (f : SegmentFields) :
    s.writeSegment (BitVec.ofNat 8 j.val) k f = s.refuse .refusedState := by
  simp [State.writeSegment, hv, hl]

theorem State.writeSegment_noIndex {s : State} {j : SlotId} {k : Byte} (hl : (s.slot j).state = .loading)
    (hk : 12 ≤ k.toNat ∨ (s.slot j).segCount.getD 0 ≤ k.toNat) (f : SegmentFields) :
    s.writeSegment (BitVec.ofNat 8 j.val) k f = s.refuse .badRow := by
  by_cases h : k.toNat < 12
  · have hn : (s.slot j).segCount.getD 0 ≤ k.toNat := hk.resolve_left (Nat.not_le.mpr h)
    simp [State.writeSegment, hl, indexOf, h, hn]
  · simp [State.writeSegment, hl, indexOf_outside (Nat.not_lt.mp h)]

theorem State.writeSegment_unranged {s : State} {j : SlotId} {k : Byte} {i : Fin 12} {f : SegmentFields}
    (hl : (s.slot j).state = .loading) (hk : k.toNat = i.val) (hi : i.val < (s.slot j).segCount.getD 0)
    (hf : recordOf f = none) : s.writeSegment (BitVec.ofNat 8 j.val) k f = s.refuse .badValue := by
  simp [State.writeSegment, hl, indexOf_of_toNat hk, Nat.not_le.mpr hi, hf]

theorem State.writeSegment_written {s : State} {j : SlotId} {k : Byte} {i : Fin 12} {f : SegmentFields}
    {r : SegRecord} (hl : (s.slot j).state = .loading) (hk : k.toNat = i.val)
    (hi : i.val < (s.slot j).segCount.getD 0) (hf : recordOf f = some r) :
    s.writeSegment (BitVec.ofNat 8 j.val) k f = (s.setSlot j ((s.slot j).write i r)).done := by
  simp [State.writeSegment, hl, indexOf_of_toNat hk, Nat.not_le.mpr hi, hf]

/-- Settles O27: the checks in the order of R28, the last of them by the ranges of R25. -/
theorem segmentWritesRecord : Obligations.SegmentWritesRecord := by
  intro e f s hears u ap st gap par ranged
  refine ⟨fun b k hb => ?noSlot, fun j k => ?slot⟩
  case noSlot => rw [exec_segment_hears hears, State.writeSegment_noSlot hb, Answer.reply_refuse]
  case slot =>
    intro t n run
    have ran : run = .next ((u.writeSegment (BitVec.ofNat 8 j.val) k f).reply e 7) := exec_segment_hears hears _ _ _
    rw [ran]
    refine ⟨fun hv => ?busy, fun hv hl => ?refused, fun hl hk => ?noIndex, fun i hl hk hi hr => ?unranged,
      fun i kind ending hl hk hi hr => ?written⟩
    case busy => rw [State.writeSegment_verifying hv, Answer.reply_refuse]
    case refused => rw [State.writeSegment_notLoading hv hl, Answer.reply_refuse]
    case noIndex => rw [State.writeSegment_noIndex hl hk, Answer.reply_refuse]
    case unranged => rw [State.writeSegment_unranged hl hk hi (recordOf_of_unranged hr), Answer.reply_refuse]
    case written =>
      have spelled : recordOf f = some (recordAs f kind ending) := recordOf_of_ranged hr
      rw [State.writeSegment_written hl hk hi spelled, Answer.reply_done]
      rfl

/-! ### COMMIT (R29) -/

theorem State.commit_noSlot {b : Byte} (h : 8 ≤ b.toNat) (crc : Word) (s : State) :
    s.commit b crc = s.refuse .badRow := by
  simp only [State.commit, slotOf_outside h]

theorem State.commit_busy {s : State} (h : s.store.verifier ≠ none) (j : SlotId) (crc : Word) :
    s.commit (BitVec.ofNat 8 j.val) crc = s.refuse .busy := by
  simp [State.commit, Option.isSome_iff_ne_none.mpr h]

theorem State.commit_notLoading {s : State} {j : SlotId} (idle : s.store.verifier = none)
    (hl : (s.slot j).state ≠ .loading) (crc : Word) :
    s.commit (BitVec.ofNat 8 j.val) crc = s.refuse .refusedState := by
  simp [State.commit, idle, hl]

theorem State.commit_accepted {s : State} {j : SlotId} (idle : s.store.verifier = none)
    (hl : (s.slot j).state = .loading) (crc : Word) :
    s.commit (BitVec.ofNat 8 j.val) crc = (s.verify j crc).slotReply .accepted j := by
  simp [State.commit, idle, hl]

/-- The slot that the verifier takes is VERIFYING with its committed CRC and is otherwise as it was. -/
theorem State.verify_slot (s : State) (j : SlotId) (crc : Word) :
    (s.verify j crc).slot j = { s.slot j with state := .verifying, crc := some crc } := State.slot_setSlot _ _ _

/-- Settles O28: a busy verifier is answered first, then the slot's state. -/
theorem commitStartsVerifier : Obligations.CommitStartsVerifier := by
  intro e crc s hears u
  refine ⟨fun b hb => ?noSlot, fun j => ?slot⟩
  case noSlot => rw [exec_commit_hears hears, State.commit_noSlot hb, Answer.reply_refuse]
  case slot =>
    intro t run
    have ran : run = .next ((u.commit (BitVec.ofNat 8 j.val) crc).reply e 8) := exec_commit_hears hears _ _
    rw [ran]
    refine ⟨fun hv => ?busy, fun idle hl => ?refused, fun idle hl => ?accepted⟩
    case busy => rw [State.commit_busy hv, Answer.reply_refuse]
    case refused => rw [State.commit_notLoading idle hl, Answer.reply_refuse]
    case accepted =>
      rw [State.commit_accepted idle hl, Answer.reply_slotReply, State.verify_slot]
      rfl

end Sys2Proof.Machine

/-! PROOFS. Ring traffic and the Report Queue: a frame of an unknown kind (R154), and where a report is placed in a
queue with room for it (R164). -/

namespace Sys2Proof.Machine

/-! ### Frames of an unknown kind (R154) -/

theorem exec_unknownKindFrame_live {s : State} (h : s.held = false) (f : Frame) :
    exec (.unknownKindFrame f) s = .next (s.goodFrame.sendRing f) := by
  change Host.Outcome.next (s.takeFrame f fun s => s.goodFrame.sendRing f) = _
  rw [State.takeFrame_live h]

/-- Settles O6: a part that is not held does nothing but count the frame as good and send it on. -/
theorem unknownKindSentOn : Obligations.UnknownKindSentOn := by
  intro f s live
  rw [exec_unknownKindFrame_live live]
  rfl

/-! ### A report created while the queue has room (R164) -/

theorem ReportQueue.place_room {q : ReportQueue} (room : q.queue.length < Config.queueSize) (r : Report) :
    q.place r = { q with queue := insertReport r q.queue } :=
  if_pos room

/-- Settles O52: with room in the queue nothing is evicted, so the report placed is one inserted in an ordered queue. -/
theorem reportInsertedByPriority : Obligations.ReportInsertedByPriority := by
  intro q r room ordered
  obtain ⟨before, after, split, inserted, higher, lower⟩ := insertReport_ordered_split r ordered
  refine ⟨before, after, split, higher, lower, ?_⟩
  rw [ReportQueue.place_room room, inserted]

end Sys2Proof.Machine

/-! PROOFS. The invariants that every step keeps (R33, R36, R45, R97, R98, R116, R137, R142, R149, R162): one predicate
for all of them, with what a command may owe in its middle, and the moves of the model that keep it. -/

namespace Sys2Proof.Machine

/-! ### Counting heads -/

theorem State.heads_toList (s : State) : s.heads.toList = allHeads.map s.head := by
  apply List.ext_getElem
  · simp [allHeads]
  · intro i h1 h2
    simp [allHeads, State.head]

theorem State.countP_heads (s : State) (p : Head → Bool) :
    s.heads.toList.countP p = ∑ h : HeadId, (p (s.head h)).toNat := by
  have count : ∀ l : List HeadId, (l.map s.head).countP p = (l.map fun h => (p (s.head h)).toNat).sum := by
    intro l
    induction l with
    | nil => rfl
    | cons a l ih => cases e : p (s.head a) <;> simp [e, ih, Nat.add_comm]
  rw [State.heads_toList, count, ← List.sum_toFinset _ allHeads_nodup]
  exact Finset.sum_congr (Finset.eq_univ_iff_forall.mpr fun h => List.mem_toFinset.mpr (mem_allHeads h)) fun _ _ => rfl

/-- A change of one head moves a count of heads by that head alone. -/
theorem State.countP_heads_change {s t : State} {h : HeadId} {p : Head → Bool}
    (other : ∀ g, g ≠ h → p (t.head g) = p (s.head g)) :
    t.heads.toList.countP p + (p (s.head h)).toNat = s.heads.toList.countP p + (p (t.head h)).toNat := by
  have e : ∑ g ∈ Finset.univ.erase h, (p (t.head g)).toNat = ∑ g ∈ Finset.univ.erase h, (p (s.head g)).toNat :=
    Finset.sum_congr rfl fun g hg => by rw [other g (Finset.ne_of_mem_erase hg)]
  have es := Finset.add_sum_erase Finset.univ (fun g => (p (s.head g)).toNat) (Finset.mem_univ h)
  have et := Finset.add_sum_erase Finset.univ (fun g => (p (t.head g)).toNat) (Finset.mem_univ h)
  simp only [State.countP_heads] at *
  omega

theorem State.countP_heads_congr {s t : State} {p : Head → Bool} (all : ∀ g, p (t.head g) = p (s.head g)) :
    t.heads.toList.countP p = s.heads.toList.countP p := by
  simp only [State.countP_heads, all]

/-! ### The laws, and what a command may owe -/

/-- How far the middle of a command is from R142: a head has entered LOCKOUT and the count is not yet looked at again,
or one has left it or the limit has been written. -/
inductive LockDebt where
  | settled | entered | opened

/-- The part of R142 that holds under a debt. -/
def State.LockOwed (s : State) : LockDebt → Prop
  | .settled => s.LockoutGuarded
  | .entered => (s.record .lockout).condition = true →
      s.faults.lockoutLimit ≤ s.lockoutCount ∧ s.faults.mode = .safe
  | .opened => (s.record .lockout).condition = true → s.faults.mode = .safe

theorem State.LockOwed.toOpened {s : State} : ∀ {l : LockDebt}, s.LockOwed l → s.LockOwed .opened
  | .settled, h => fun c => h.2 (h.1.mp c)
  | .entered, h => fun c => (h c).2
  | .opened, h => h

/-- A head commands what its state commands (R45). -/
def Head.Commands (c : Head) : Prop :=
  c.level = c.state.level ∧ (c.state ≠ .running → c.valves = c.state.valves) ∧
    (c.state = .running → c.CommandsSegment)

/-- Every head commands what its state commands, but that one whose segment has just ended still carries the pattern of
that segment into the start test of R56. -/
def State.CommandsLoose (s : State) (loose : Option HeadId) : Prop :=
  ∀ h, (s.head h).Commands ∨
    (loose = some h ∧ (s.head h).level = (s.head h).state.level ∧ (s.head h).state = .running ∧
      (s.head h).phase = some .pending)

/-- The invariants, by name. -/
inductive Law where
  | stops | commands | queue | users | urgent | schedule | snapshots

/-- The state upholds a law under the debts of a command in its middle. -/
def State.Upholds (s : State) (l : LockDebt) (loose : Option HeadId) : Law → Prop
  | .stops => s.StopsAreSafe ∧ s.LockOwed l
  | .commands => s.CommandsLoose loose
  | .queue => s.QueueOrdered
  | .users => s.OneActive ∧ s.UsersCounted
  | .urgent => s.UrgentOnce
  | .schedule => s.ScheduleSound
  | .snapshots => s.SnapshotsFit

/-! ### States that agree on what the laws read -/

/-- Two contexts agree on what the laws read of a head. -/
structure Head.Alike (c d : Head) : Prop where
  state  : d.state = c.state := by rfl
  level  : d.level = c.level := by rfl
  pin    : d.pin = c.pin := by rfl
  valves : d.valves = c.valves := by rfl
  phase  : d.phase = c.phase := by rfl
  work   : d.work = c.work := by rfl

theorem Head.Alike.refl (c : Head) : c.Alike c := {}

theorem Head.Alike.trans {c d e : Head} (a : c.Alike d) (b : d.Alike e) : c.Alike e where
  state := b.state.trans a.state
  level := b.level.trans a.level
  pin := b.pin.trans a.pin
  valves := b.valves.trans a.valves
  phase := b.phase.trans a.phase
  work := b.work.trans a.work

theorem Head.Alike.of_butScan {c d : Head} (h : d.butScan = c.butScan) : c.Alike d where
  state := Head.field_eq_of_butScan Head.state (fun _ => rfl) h
  level := Head.field_eq_of_butScan Head.level (fun _ => rfl) h
  pin := Head.field_eq_of_butScan Head.pin (fun _ => rfl) h
  valves := Head.field_eq_of_butScan Head.valves (fun _ => rfl) h
  phase := Head.field_eq_of_butScan Head.phase (fun _ => rfl) h
  work := Head.field_eq_of_butScan Head.work (fun _ => rfl) h

theorem Head.Commands.alike {c d : Head} (a : c.Alike d) (h : c.Commands) : d.Commands := by
  unfold Head.Commands Head.CommandsSegment at *
  rw [a.state, a.level, a.valves, a.phase, a.work]
  exact h

/-- Two states agree on what the laws read beside the heads, the store and the bus. -/
structure State.Beside (s t : State) : Prop where
  mode      : t.faults.mode = s.faults.mode := by rfl
  limit     : t.faults.lockoutLimit = s.faults.lockoutLimit := by rfl
  stops     : ∀ c, (t.record c).inStop = true → (s.record c).inStop = true := by exact fun _ h => h
  condition : (t.record .lockout).condition = (s.record .lockout).condition := by rfl
  snapshots : t.faults.snapshots = s.faults.snapshots := by rfl
  schedule  : t.discharge.schedule = s.discharge.schedule := by rfl
  master    : t.discharge.master = s.discharge.master := by rfl
  queue     : t.reports.queue = s.reports.queue := by rfl
  prios     : t.reports.prios = s.reports.prios := by rfl

/-- Two states agree on everything the laws read. -/
structure State.Alike (s t : State) : Prop extends s.Beside t where
  heads  : ∀ g, (s.head g).Alike (t.head g) := by exact fun _ => .refl _
  store  : t.store = s.store := by rfl
  urgent : t.scanner.urgent = s.scanner.urgent := by rfl
  idle   : t.scanner.inFlight = none ↔ s.scanner.inFlight = none := by exact Iff.rfl

section
variable {s t : State} {l l' : LockDebt} {o o' : Option HeadId} {i : Law}

theorem State.Beside.of_faults (f : t.faults = s.faults) (r : t.reports = s.reports) (d : t.discharge = s.discharge) :
    s.Beside t where
  mode := by rw [f]
  limit := by rw [f]
  stops := fun c h => by rwa [State.record_congr (s := s) (t := t) (by rw [f])]
  condition := by rw [State.record_congr (s := s) (t := t) (by rw [f])]
  snapshots := by rw [f]
  schedule := by rw [d]
  master := by rw [d]
  queue := by rw [r]
  prios := by rw [r]

/-- A move that agrees beside the heads, the store and the bus keeps a law once the laws about those are kept. -/
theorem State.Upholds.move (b : s.Beside t) (lock : s.LockOwed l → t.LockOwed l')
    (commands : s.CommandsLoose o → t.CommandsLoose o')
    (users : s.OneActive → s.UsersCounted → t.OneActive ∧ t.UsersCounted) (urgent : s.UrgentOnce → t.UrgentOnce)
    (k : s.Upholds l o i) : t.Upholds l' o' i := by
  cases i with
  | stops =>
    refine ⟨fun ⟨c, hc⟩ => ?_, lock k.2⟩
    rw [b.mode]
    exact k.1 ⟨c, b.stops c hc⟩
  | commands => exact commands k
  | queue => simpa only [State.Upholds, State.QueueOrdered, ReportQueue.prioOf, b.queue, b.prios] using k
  | users => exact users k.1 k.2
  | urgent => exact urgent k
  | schedule => simpa only [State.Upholds, State.ScheduleSound, b.schedule, b.master] using k
  | snapshots => simpa only [State.Upholds, State.SnapshotsFit, b.snapshots] using k

/-! ### R142 under a move -/

theorem State.LockOwed.count (b : s.Beside t) (n : t.lockoutCount = s.lockoutCount) (k : s.LockOwed l) :
    t.LockOwed l := by
  cases l <;> simpa only [State.LockOwed, State.LockoutGuarded, b.mode, b.limit, b.condition, n] using k

theorem State.LockOwed.grown (b : s.Beside t) (n : s.lockoutCount ≤ t.lockoutCount) (k : s.LockOwed .settled) :
    t.LockOwed .entered := by
  intro c
  rw [b.condition] at c
  rw [b.mode, b.limit]
  exact ⟨Nat.le_trans (k.1.mp c) n, k.2 (k.1.mp c)⟩

theorem State.LockOwed.opens (b : s.Beside t) (k : s.LockOwed l) : t.LockOwed .opened := by
  intro c
  rw [b.condition] at c
  rw [b.mode]
  exact k.toOpened c

theorem State.lockoutCount_congr (e : ∀ g, (t.head g).state = (s.head g).state) : t.lockoutCount = s.lockoutCount :=
  State.countP_heads_congr fun g => by rw [e g]

theorem State.lockoutCount_eq {h : HeadId} (other : ∀ g, g ≠ h → (t.head g).state = (s.head g).state)
    (from_ : (s.head h).state ≠ .lockout) (into : (t.head h).state ≠ .lockout) : t.lockoutCount = s.lockoutCount := by
  have e := State.countP_heads_change (s := s) (t := t) (h := h) (p := fun c => c.state == .lockout)
    fun g hg => by rw [other g hg]
  rw [beq_eq_false_iff_ne.mpr from_, beq_eq_false_iff_ne.mpr into] at e
  exact e

theorem State.lockoutCount_le {h : HeadId} (other : ∀ g, g ≠ h → (t.head g).state = (s.head g).state)
    (from_ : (s.head h).state ≠ .lockout) : s.lockoutCount ≤ t.lockoutCount := by
  have e := State.countP_heads_change (s := s) (t := t) (h := h) (p := fun c => c.state == .lockout)
    fun g hg => by rw [other g hg]
  simp only [beq_eq_false_iff_ne.mpr from_, Bool.toNat_false] at e
  unfold State.lockoutCount
  omega

/-! ### Commands under a move -/

theorem State.CommandsLoose.alike (a : ∀ g, (s.head g).Alike (t.head g)) (k : s.CommandsLoose o) :
    t.CommandsLoose o := by
  intro h
  rcases k h with k | ⟨k1, k2, k3, k4⟩
  · exact Or.inl (k.alike (a h))
  · exact Or.inr ⟨k1, by rw [(a h).level, (a h).state, k2], by rw [(a h).state, k3], by rw [(a h).phase, k4]⟩

theorem State.CommandsLoose.change {h : HeadId} (other : ∀ g, g ≠ h → (s.head g).Alike (t.head g))
    (now : s.CommandsLoose o → (t.head h).Commands) (k : s.CommandsLoose o) : t.CommandsLoose o := by
  intro g
  by_cases e : g = h
  · subst e
    exact Or.inl (now k)
  · have a := other g e
    rcases k g with k | ⟨k1, k2, k3, k4⟩
    · exact Or.inl (k.alike a)
    · exact Or.inr ⟨k1, by rw [a.level, a.state, k2], by rw [a.state, k3], by rw [a.phase, k4]⟩

/-- A head that is not RUNNING commands its state, whatever head is loose. -/
theorem State.CommandsLoose.notRunning (k : s.CommandsLoose o) {h : HeadId} (e : (s.head h).state ≠ .running) :
    (s.head h).Commands := by
  rcases k h with k | ⟨-, -, k3, -⟩
  · exact k
  · exact absurd k3 e

theorem State.CommandsLoose.level (k : s.CommandsLoose o) (h : HeadId) :
    (s.head h).level = (s.head h).state.level := by
  rcases k h with k | ⟨-, k2, -, -⟩
  · exact k.1
  · exact k2

theorem Head.Commands.of_notRunning {c : Head} (e : c.state ≠ .running) (hl : c.level = c.state.level)
    (v : c.valves = c.state.valves) : c.Commands :=
  ⟨hl, fun _ => v, fun r => absurd r e⟩

/-! ### The urgent queue under a move -/

theorem State.UrgentOnce.states (u : t.scanner.urgent = s.scanner.urgent)
    (f : t.scanner.inFlight = none → s.scanner.inFlight = none)
    (e : ∀ g, (t.head g).state = .off ↔ (s.head g).state = .off) (k : s.UrgentOnce) : t.UrgentOnce := by
  obtain ⟨k1, k2, k3⟩ := k
  refine ⟨by rw [u]; exact k1, fun h hh => ?_, fun hf h => (e h).mpr (k3 (f hf) h)⟩
  rw [u] at hh
  exact fun c => k2 h hh ((e h).mp c)

theorem State.UrgentOnce.change {h : HeadId} (u : t.scanner.urgent = s.scanner.urgent)
    (f : t.scanner.inFlight = none → s.scanner.inFlight = none)
    (other : ∀ g, g ≠ h → (t.head g).state = (s.head g).state)
    (from_ : (s.head h).state ≠ .off) (into : (t.head h).state ≠ .off) (k : s.UrgentOnce) : t.UrgentOnce := by
  refine State.UrgentOnce.states u f (fun g => ?_) k
  by_cases e : g = h
  · subst e; exact ⟨fun c => absurd c into, fun c => absurd c from_⟩
  · rw [other g e]

/-! ### Users under a move -/

/-- The states in which a head is pinned (R36). -/
def HeadState.pins (st : HeadState) : Bool := st == .seating || st == .running

theorem State.pinned_congr (j : SlotId) (e : ∀ g, (t.head g).pin = (s.head g).pin) : t.pinned j = s.pinned j :=
  State.countP_heads_congr fun g => by rw [e g]

theorem State.pinned_change {h : HeadId} (j : SlotId) (other : ∀ g, g ≠ h → (t.head g).pin = (s.head g).pin) :
    t.pinned j + ((s.head h).pin.map (·.slot) == some j).toNat =
      s.pinned j + ((t.head h).pin.map (·.slot) == some j).toNat :=
  State.countP_heads_change (p := fun c => c.pin.map (·.slot) == some j) fun g hg => by rw [other g hg]

theorem State.UsersCounted.notPinned (k : s.UsersCounted) {h : HeadId} (e : (s.head h).state.pins = false) :
    (s.head h).pin = none := by
  have p := k.2.1 h
  unfold HeadState.pins at e
  rw [e] at p
  simpa using p

theorem State.UsersCounted.pinned (k : s.UsersCounted) {h : HeadId} (e : (s.head h).state.pins = true) :
    ∃ p, (s.head h).pin = some p := by
  have p := k.2.1 h
  unfold HeadState.pins at e
  rw [e] at p
  exact Option.isSome_iff_exists.mp p

/-- A slot that a head is pinned to has a user. -/
theorem State.UsersCounted.pos (k : s.UsersCounted) {h : HeadId} {p : Pin} (e : (s.head h).pin = some p) :
    0 < (s.slot p.slot).users := by
  rw [k.1]
  unfold State.pinned
  rw [List.countP_pos_iff]
  exact ⟨s.head h, by simp [State.head], by simp [e]⟩

theorem State.users_keep (store : t.store = s.store) (pin : ∀ g, (t.head g).pin = (s.head g).pin)
    (state : ∀ g, (t.head g).state.pins = (s.head g).state.pins) (k1 : s.OneActive) (k2 : s.UsersCounted) :
    t.OneActive ∧ t.UsersCounted := by
  have slot : ∀ j, t.slot j = s.slot j := fun j => State.slot_congr store j
  obtain ⟨u1, u2, u3, u4⟩ := k2
  refine ⟨fun i j hi hj => k1 i j (slot i ▸ hi) (slot j ▸ hj), fun j => ?_, fun h => ?_, fun j => ?_, fun j => ?_⟩
  · rw [slot, State.pinned_congr j pin, u1]
  · exact (pin h) ▸ (u2 h).trans (state h).symm
  · rw [slot]; exact u3 j
  · rw [slot, store]; exact u4 j

/-- A head that leaves SEATING and RUNNING gives its pin back (R37). -/
theorem State.users_give {h : HeadId} (other : ∀ g, g ≠ h → (s.head g).Alike (t.head g))
    (from_ : (s.head h).state.pins = true) (into : (t.head h).state.pins = false) (pin : (t.head h).pin = none)
    (slots : ∀ p, (s.head h).pin = some p → ∀ j, t.slot j = if j = p.slot then (s.slot j).release else s.slot j)
    (verifier : t.store.verifier = s.store.verifier) (k1 : s.OneActive) (k2 : s.UsersCounted) :
    t.OneActive ∧ t.UsersCounted := by
  obtain ⟨p, hp⟩ := k2.pinned from_
  have pos := k2.pos hp
  have slot := slots p hp
  have count : ∀ j, t.pinned j + (p.slot == j).toNat = s.pinned j := by
    intro j
    have e := State.pinned_change (s := s) (t := t) (h := h) j fun g hg => (other g hg).pin
    simpa [hp, pin] using e
  obtain ⟨u1, u2, u3, u4⟩ := k2
  have st : ∀ j, (t.slot j).state = (s.slot j).state ∨
      ((t.slot j).state = .free ∧ (t.slot j).users = 0 ∧ ((s.slot j).state = .retiring ∨ (s.slot j).state = .corrupt)) := by
    intro j
    rw [slot j]
    split
    · unfold Slot.release
      split
      · next x => exact Or.inr ⟨rfl, rfl, x.2⟩
      · exact Or.inl rfl
    · exact Or.inl rfl
  have users : ∀ j, (t.slot j).users = (s.slot j).users - (p.slot == j).toNat := by
    intro j
    rw [slot j]
    split
    · next e =>
      subst e
      unfold Slot.release
      split
      · next x => simp [Slot.freed, x.1]
      · simp
    · next e => rw [beq_eq_false_iff_ne.mpr (Ne.symm e)]; rfl
  have active : ∀ j, (t.slot j).state = .active → (s.slot j).state = .active := by
    intro j hj
    rcases st j with a | a
    · exact a ▸ hj
    · rw [a.1] at hj; cases hj
  refine ⟨fun i j hi hj => k1 i j (active i hi) (active j hj), fun j => ?_, fun g => ?_, fun j hj => ?_, fun j => ?_⟩
  · have := u1 j; have := count j; have := users j; omega
  · by_cases e : g = h
    · subst e
      rw [pin]
      exact into.symm
    · have a := other g e
      rw [a.pin, a.state]; exact u2 g
  · have := users j
    rcases st j with a | a
    · rw [a] at hj
      have := u3 j hj
      omega
    · exact a.2.1
  · rw [verifier, ← u4 j]
    rcases st j with a | ⟨a, -, b⟩
    · rw [a]
    · rw [a]; rcases b with b | b <;> simp [b]

end
end Sys2Proof.Machine

/-! PROOFS. The moves of one block that keep the laws: records, reports, snapshots, the bus, and a head's entry to each
of its states. -/

namespace Sys2Proof.Machine

section
variable {s t : State} {l l' : LockDebt} {o o' : Option HeadId} {i : Law}

/-! ### Moves that the laws do not see -/

theorem State.Upholds.alike (a : s.Alike t) (k : s.Upholds l o i) : t.Upholds l o i :=
  k.move a.toBeside (·.count a.toBeside (State.lockoutCount_congr fun g => (a.heads g).state))
    (·.alike a.heads)
    (State.users_keep a.store (fun g => (a.heads g).pin) fun g => by rw [(a.heads g).state])
    (·.states a.urgent a.idle.mp fun g => by rw [(a.heads g).state])

theorem State.Upholds.setHead (k : s.Upholds l o i) {h : HeadId} {c : Head} (a : (s.head h).Alike c) :
    (s.setHead h c).Upholds l o i := by
  refine k.alike { heads := fun g => ?_ }
  rw [State.head_setHead_eq]
  split
  · next e => exact e ▸ a
  · exact .refl _

theorem State.Upholds.updHead (k : s.Upholds l o i) {h : HeadId} {f : Head → Head}
    (a : (s.head h).Alike (f (s.head h))) : (s.updHead h f).Upholds l o i := State.Upholds.setHead k a

theorem State.Upholds.updRecord (k : s.Upholds l o i) {c : FaultClass} {f : ClassRecord → ClassRecord}
    (stops : (f (s.record c)).inStop = true → (s.record c).inStop = true)
    (condition : c = .lockout → (f (s.record c)).condition = (s.record c).condition) :
    (s.updRecord c f).Upholds l o i := by
  refine k.alike { stops := fun d => ?_, condition := ?_ }
  · rw [State.record_updRecord_eq]
    split
    · next e => exact e ▸ stops
    · exact id
  · rw [State.record_updRecord_eq]
    split
    · next e => subst e; exact condition rfl
    · rfl

theorem State.Upholds.setCondition (k : s.Upholds l o i) {c : FaultClass} (b : Bool) (n : c ≠ .lockout) :
    (s.setCondition c b).Upholds l o i := k.updRecord id fun e => absurd e n

/-! ### Reports, the Discharge Tracker, snapshots, the store -/

theorem State.Upholds.reports (k : s.Upholds l o i) (q : ReportQueue)
    (ordered : s.QueueOrdered → ({ s with reports := q } : State).QueueOrdered) :
    ({ s with reports := q } : State).Upholds l o i := by
  cases i with
  | queue => exact ordered k
  | stops => cases l <;> exact k
  | _ => exact k

theorem State.Upholds.report (k : s.Upholds l o i) (b : ReportBody) : (s.report b).Upholds l o i :=
  k.reports _ fun q => State.report_queueOrdered q b

theorem State.Upholds.discharge (k : s.Upholds l o i) (d : Discharge)
    (sound : s.ScheduleSound → ({ s with discharge := d } : State).ScheduleSound) :
    ({ s with discharge := d } : State).Upholds l o i := by
  cases i with
  | schedule => exact sound k
  | stops => cases l <;> exact k
  | _ => exact k

theorem State.Upholds.store (k : s.Upholds l o i) (w : Store)
    (users : s.OneActive → s.UsersCounted →
      ({ s with store := w } : State).OneActive ∧ ({ s with store := w } : State).UsersCounted) :
    ({ s with store := w } : State).Upholds l o i := by
  cases i with
  | users => exact users k.1 k.2
  | stops => cases l <;> exact k
  | _ => exact k

/-- A change of the Fault Unit with the snapshots in their bound and the laws about stops and LOCKOUT kept. -/
theorem State.Upholds.faults (k : s.Upholds l o i) (f : FaultUnit)
    (fit : s.faults.snapshots.length ≤ 16 → f.snapshots.length ≤ 16)
    (stops : s.StopsAreSafe → ({ s with faults := f } : State).StopsAreSafe)
    (lock : s.LockOwed l → ({ s with faults := f } : State).LockOwed l') :
    ({ s with faults := f } : State).Upholds l' o i := by
  cases i with
  | snapshots => exact fit k
  | stops => exact ⟨stops k.1, lock k.2⟩
  | _ => exact k

theorem State.Upholds.pushSnapshot (k : s.Upholds l o i) (h : HeadId) (c : Cause) :
    (s.pushSnapshot h c).Upholds l o i := by
  unfold State.pushSnapshot
  split
  · next room => exact k.faults _ (fun _ => room) (fun x => x) (fun x => by cases l <;> exact x)
  · exact k.faults _ (fun x => x) (fun x => x) (fun x => by cases l <;> exact x)

theorem State.Upholds.latchReport (k : s.Upholds l o i) (c : Cause) (a b : Option Nat) :
    (s.latchReport c a b).Upholds l o i :=
  (k.updRecord (c := c.cls) (f := fun r => { r with latched := true, lastCause := some c, lastStation := a })
    id fun _ => rfl).report _

/-! ### The mode and the stop-cause set -/

/-- The state with the mode SAFE. -/
def State.safed (s : State) : State := { s with faults := { s.faults with mode := .safe } }

theorem State.safed_of_safe (m : s.faults.mode = .safe) : s.safed = s := by
  unfold State.safed
  rw [← m]

theorem State.Upholds.safed (k : s.Upholds l o i) : s.safed.Upholds l o i :=
  k.faults _ id (fun _ _ => rfl) fun x => by
    cases l with
    | settled => exact ⟨x.1, fun _ => rfl⟩
    | entered => exact fun c => ⟨(x c).1, rfl⟩
    | opened => exact fun _ => rfl

theorem State.addStop_eq (s : State) (c : FaultClass) : s.addStop c = { s with faults := (s.addStop c).faults } := by
  unfold State.addStop
  dsimp only
  split <;> rfl

@[simp] theorem State.addStop_limit (s : State) (c : FaultClass) :
    (s.addStop c).faults.lockoutLimit = s.faults.lockoutLimit := by
  unfold State.addStop; dsimp only; split <;> rfl

/-- Adding a class to the stop-cause set removes no condition but that of EXTERNAL. -/
theorem State.addStop_condition (s : State) {c d : FaultClass} (n : d ≠ .external) :
    ((s.addStop c).record d).condition = (s.record d).condition := by
  unfold State.addStop
  dsimp only
  split
  · rw [State.record_updRecord_eq, if_neg n, State.record_updRecord_eq]; split <;> rfl
  · rw [State.record_updRecord_eq]; split <;> rfl

/-- A class joins the stop-cause set as the mode becomes SAFE. -/
theorem State.Upholds.stopped (k : s.Upholds l o i) (c : FaultClass) : (s.addStop c).safed.Upholds l o i := by
  unfold State.safed
  rw [State.addStop_eq]
  refine k.faults _ (fun x => by simpa using x) (fun _ _ => rfl) fun x => ?_
  have cond := State.addStop_condition s (c := c) (d := .lockout) (by decide)
  have limit := State.addStop_limit s c
  cases l with
  | settled =>
    refine ⟨?_, fun _ => rfl⟩
    show ((s.addStop c).record .lockout).condition = true ↔ (s.addStop c).faults.lockoutLimit ≤ s.lockoutCount
    rw [cond, limit]
    exact x.1
  | entered =>
    intro e
    change ((s.addStop c).record .lockout).condition = true at e
    refine ⟨?_, rfl⟩
    show (s.addStop c).faults.lockoutLimit ≤ s.lockoutCount
    rw [cond] at e
    rw [limit]
    exact (x e).1
  | opened => exact fun _ => rfl

/-- The part may leave a mode: SAFE only with an empty stop-cause set and below the lockout limit (R129). -/
theorem State.Upholds.mode (k : s.Upholds .settled o i) (m : Mode)
    (may : m = .safe ∨ s.faults.mode ≠ .safe ∨ (s.stopEmpty = true ∧ s.lockoutCount < s.faults.lockoutLimit)) :
    ({ s with faults := { s.faults with mode := m } } : State).Upholds .settled o i := by
  refine k.faults _ id (fun x e => ?_) fun x => ⟨x.1, fun e => ?_⟩
  · rcases may with rfl | n | n
    · rfl
    · exact absurd (x e) n
    · obtain ⟨c, hc⟩ := e
      have := s.stopEmpty_iff.mp n.1 c
      rw [show s.record c = ({ s with faults := { s.faults with mode := m } } : State).record c from rfl, hc] at this
      cases this
  · rcases may with rfl | n | n
    · rfl
    · exact absurd (x.2 e) n
    · exact absurd e (Nat.not_le.mpr n.2)

/-! ### The bus -/

theorem State.BusOnly.beside (b : s.BusOnly t) : s.Beside t := .of_faults b.faults b.reports b.discharge

theorem State.sendCommand_inFlight (s : State) (h : HeadId) (u : Bool) : (s.sendCommand h u).scanner.inFlight ≠ none := by
  simp [State.sendCommand]

theorem State.sendCommand_urgent (s : State) (h : HeadId) (u : Bool) :
    (s.sendCommand h u).scanner.urgent = s.scanner.urgent := rfl

/-- The choice of the next exchange is sound where the urgent queue is; it leaves the bus idle only with every head OFF. -/
theorem State.chooseNext_urgentOnce (nodup : s.scanner.urgent.Nodup)
    (live : ∀ h ∈ s.scanner.urgent, (s.head h).state ≠ .off) : s.chooseNext.UrgentOnce := by
  have st : ∀ g, (s.chooseNext.head g).state = (s.head g).state := s.chooseNext_field Head.state fun _ => rfl
  refine ⟨?_, ?_, ?_⟩
  · unfold State.chooseNext
    split
    · next h rest e => rw [e] at nodup; exact (List.nodup_cons.mp nodup).2
    · split <;> exact nodup
  · intro h hh
    rw [st]
    refine live h ?_
    unfold State.chooseNext at hh
    split at hh
    · next a rest e => rw [e]; exact List.mem_cons_of_mem _ hh
    · split at hh <;> exact hh
  · intro idle h
    rw [st]
    unfold State.chooseNext at idle
    split at idle
    · exact absurd idle (State.sendCommand_inFlight _ _ _)
    · split at idle
      · exact absurd idle (State.sendCommand_inFlight _ _ _)
      · next none_ =>
        have n := List.find?_eq_none.mp none_ h
        have mem : h ∈ scanOrder s.scanner.scanPos := by
          unfold scanOrder
          split
          · next p _ =>
            simp only [List.mem_append, List.mem_filter, mem_allHeads, true_and, decide_eq_true_eq]
            exact lt_or_ge p h
          · exact mem_allHeads h
        simpa [Head.enrolled] using n mem

/-- A post is sound: on an idle bus every head is OFF, and an OFF head posts nothing. -/
theorem State.post_urgentOnce (k : s.UrgentOnce) (h : HeadId) : (s.post h).UrgentOnce := by
  unfold State.post
  split
  · next e =>
    dsimp only
    have busy : s.scanner.inFlight ≠ none := by
      intro idle
      have off := k.2.2 idle h
      simp [Head.enrolled, off] at e
    rw [if_neg (by simpa using busy)]
    refine ⟨?_, fun g hg => ?_, fun idle => absurd idle busy⟩
    · exact List.nodup_append.mpr ⟨k.1, by simp, fun a ha b hb => by
        rw [List.mem_singleton.mp hb]
        exact fun x => e.2 (x ▸ ha)⟩
    · rcases List.mem_append.mp hg with hg | hg
      · exact k.2.1 g hg
      · rw [List.mem_singleton.mp hg]
        exact fun off => by simp [Head.enrolled, show (s.head h).state = .off from off] at e
  · exact k

/-- A move of the bus alone keeps every law that does not speak of the bus. -/
theorem State.Upholds.busOnly (k : s.Upholds l o i) (b : s.BusOnly t) (urgent : s.UrgentOnce → t.UrgentOnce) :
    t.Upholds l o i := by
  have a : ∀ g, (s.head g).Alike (t.head g) := fun g => .of_butScan (b.heads g)
  exact k.move b.beside (·.count b.beside (State.lockoutCount_congr fun g => (a g).state)) (·.alike a)
    (State.users_keep b.store (fun g => (a g).pin) fun g => by rw [(a g).state]) urgent

theorem State.Upholds.post (k : s.Upholds l o i) (h : HeadId) : (s.post h).Upholds l o i :=
  k.busOnly (s.post_busOnly h) fun u => State.post_urgentOnce u h

/-- An exchange has ended and the next is chosen (R97). -/
theorem State.Upholds.next (k : s.Upholds l o i) :
    ({ s with scanner := { s.scanner with inFlight := none } } : State).chooseNext.Upholds l o i := by
  have b := State.chooseNext_busOnly { s with scanner := { s.scanner with inFlight := none } }
  refine k.busOnly ⟨b.store, b.faults, b.reports, b.discharge, b.heads⟩ fun u => ?_
  exact State.chooseNext_urgentOnce u.1 u.2.1

/-! ### A head's entry to a state -/

@[simp] theorem State.changeState_urgent (s : State) (h : HeadId) (st : HeadState) :
    (s.changeState h st).scanner.urgent = s.scanner.urgent := by
  unfold State.changeState; dsimp only; split <;> rfl

@[simp] theorem State.changeState_idle (s : State) (h : HeadId) (st : HeadState) :
    (s.changeState h st).scanner.inFlight = none ↔ s.scanner.inFlight = none := by
  unfold State.changeState
  dsimp only
  split
  · exact Option.map_eq_none_iff
  · exact Iff.rfl

/-- From `s` to `t` the head `h` alone has changed of what the laws read, the store apart. -/
structure State.Turns (s t : State) (h : HeadId) : Prop extends s.Beside t where
  other  : ∀ g, g ≠ h → (s.head g).Alike (t.head g)
  urgent : t.scanner.urgent = s.scanner.urgent
  idle   : t.scanner.inFlight = none ↔ s.scanner.inFlight = none

/-- A head that leaves SEATING or RUNNING, with its pin given back. -/
theorem State.Upholds.give {h : HeadId} (k : s.Upholds l o i) (c : s.Turns t h) (from_ : (s.head h).state.pins = true)
    (into : (t.head h).state.pins = false ∧ (t.head h).state ≠ .off ∧ (t.head h).state ≠ .lockout)
    (pin : (t.head h).pin = none)
    (slots : ∀ p, (s.head h).pin = some p → ∀ j, t.slot j = if j = p.slot then (s.slot j).release else s.slot j)
    (verifier : t.store.verifier = s.store.verifier) (commands : s.CommandsLoose o → (t.head h).Commands) :
    t.Upholds l o i := by
  obtain ⟨p, no, nl⟩ := into
  have f : (s.head h).state ≠ .off ∧ (s.head h).state ≠ .lockout := by
    constructor <;> · intro e; rw [e] at from_; cases from_
  exact k.move c.toBeside
    (·.count c.toBeside (State.lockoutCount_eq (fun g hg => (c.other g hg).state) f.2 nl))
    (·.change c.other commands)
    (State.users_give c.other from_ p pin slots verifier)
    (·.change c.urgent c.idle.mp (fun g hg => (c.other g hg).state) f.1 no)

/-- A head that goes from one state to another, neither OFF, with its pin as it is. -/
theorem State.Upholds.turn {h : HeadId} (k : s.Upholds l o i) (c : s.Turns t h) (store : t.store = s.store)
    (pin : (t.head h).pin = (s.head h).pin) (pins : (t.head h).state.pins = (s.head h).state.pins)
    (from_ : (s.head h).state ≠ .off) (into : (t.head h).state ≠ .off)
    (commands : s.CommandsLoose o → (t.head h).Commands)
    (lock : s.LockOwed l → t.LockOwed l') : t.Upholds l' o i := by
  refine k.move c.toBeside lock (·.change c.other commands) (State.users_keep store (fun g => ?_) fun g => ?_)
    (·.change c.urgent c.idle.mp (fun g hg => (c.other g hg).state) from_ into)
  · by_cases e : g = h
    · rw [e, pin]
    · exact (c.other g e).pin
  · by_cases e : g = h
    · rw [e, pins]
    · rw [(c.other g e).state]

/-- A turn between states other than LOCKOUT leaves R142 as it is. -/
theorem State.Turns.lock {h : HeadId} (c : s.Turns t h) (from_ : (s.head h).state ≠ .lockout)
    (into : (t.head h).state ≠ .lockout) (k : s.LockOwed l) : t.LockOwed l :=
  k.count c.toBeside (State.lockoutCount_eq (fun g hg => (c.other g hg).state) from_ into)

end
end Sys2Proof.Machine

/-! PROOFS. The laws through the safe-close sequence and the Fault Unit (R62 to R70, R130, R134 to R137, R142). -/

namespace Sys2Proof.Machine

section
variable {s t : State} {l l' : LockDebt} {o o' : Option HeadId} {i : Law}

/-! ### Entries (R62, R64, R66, R49, R72) -/

@[simp] theorem State.releasePin_verifier (s : State) (h : HeadId) :
    (s.releasePin h).store.verifier = s.store.verifier := (Keeps.releasePin (.refl s) h).verifier

@[simp] theorem State.changeState_slot (s : State) (h : HeadId) (st : HeadState) (j : SlotId) :
    (s.changeState h st).slot j = s.slot j := State.slot_congr (s.changeState_store h st) j

@[simp] theorem State.updHead_slot (s : State) (h : HeadId) (f : Head → Head) (j : SlotId) :
    (s.updHead h f).slot j = s.slot j := rfl

theorem State.changeState_head_self (s : State) (h : HeadId) (st : HeadState) :
    (s.changeState h st).head h = { s.head h with state := st, level := st.level } := by
  rw [State.changeState_head, if_pos rfl]

theorem State.changeState_head_ne (s : State) {g h : HeadId} (st : HeadState) (e : g ≠ h) :
    (s.changeState h st).head g = s.head g := by
  rw [State.changeState_head, if_neg e]

theorem State.releasePin_head_self (s : State) (h : HeadId) :
    (s.releasePin h).head h = { s.head h with pin := none } := by
  rw [State.releasePin_head, if_pos rfl]

theorem State.releasePin_head_ne (s : State) {g h : HeadId} (e : g ≠ h) : (s.releasePin h).head g = s.head g := by
  rw [State.releasePin_head, if_neg e]

theorem State.Upholds.enterAborting {h : HeadId} (k : s.Upholds l o i) (run : (s.head h).state = .running) :
    (s.enterAborting h).Upholds l o i := by
  refine State.Upholds.post (State.Upholds.give k (h := h)
    { toBeside := .of_faults (by simp) (by simp) (by simp), urgent := by simp, idle := by simp, other := ?other }
    (by rw [run]; rfl) ?into ?pin ?slots (by simp) fun _ => ?commands) h
  case other =>
    intro g hg
    simp only [State.head_updHead_ne _ _ hg, State.releasePin_head_ne _ hg, State.changeState_head_ne _ _ hg]
    exact .refl _
  case into =>
    simp only [State.head_updHead, State.releasePin_head_self, State.changeState_head_self, Head.withRecord_state]
    exact ⟨rfl, by simp [Head.vented, Head.withoutSegment], by simp [Head.vented, Head.withoutSegment]⟩
  case pin => simp [State.releasePin_head_self]
  case slots =>
    intro p hp j
    have e : (((s.changeState h .aborting).updHead h Head.vented).head h).pin = some p := by
      simp [State.changeState_head_self, Head.vented, Head.withoutSegment, hp]
    show (((s.changeState h .aborting).updHead h Head.vented).releasePin h).slot j = _
    rw [State.releasePin_slot e]
    simp only [State.updHead_slot, State.changeState_slot]
    split
    · next x => rw [x]
    · rfl
  case commands =>
    simp only [State.head_updHead, State.releasePin_head_self, State.changeState_head_self]
    refine .of_notRunning ?_ ?_ ?_ <;>
      simp [Head.vented, Head.withoutSegment, HeadState.level, HeadState.valves]

theorem State.Upholds.giveUpSeating {h : HeadId} (k : s.Upholds l o i) (seat : (s.head h).state = .seating)
    (v : Verdict) (r : Option SkipReason) : (s.giveUpSeating h v r).Upholds l o i := by
  refine State.Upholds.give k (h := h)
    { toBeside := .of_faults (by simp) (by simp) (by simp), urgent := ?urgent, idle := ?idle, other := ?other }
    (by rw [seat]; rfl) ?into ?pin ?slots ?verifier fun c => ?commands
  case urgent => simp [State.giveUpSeating]
  case idle => simp [State.giveUpSeating]
  case other => intro g hg; rw [State.giveUpSeating_head, if_neg hg]; exact .refl _
  case into => rw [State.giveUpSeating_head, if_pos rfl]; simp [HeadState.pins]
  case pin => rw [State.giveUpSeating_head, if_pos rfl]; simp
  case slots =>
    intro p hp j
    show ((s.releasePin h).changeState h .emptyPass).slot j = _
    rw [State.changeState_slot, State.releasePin_slot hp]
    split
    · next x => rw [x]
    · rfl
  case verifier => simp [State.giveUpSeating]
  case commands =>
    have v := (c.notRunning (h := h) (by simp [seat])).2.1 (by simp [seat])
    rw [seat] at v
    rw [State.giveUpSeating_head, if_pos rfl]
    exact .of_notRunning (by simp) (by simp [HeadState.level]) (by simpa [HeadState.valves] using v)

/-- The state of an entry to FORCED before its urgent exchange is posted. -/
def State.forcing (s : State) (h : HeadId) : State :=
  (s.changeState h .forced).updHead h fun c =>
    { c.vented with ventTimer := none, scan := { c.scan with forcedUnsent := true } }

theorem State.enterForced_eq (s : State) (h : HeadId) : s.enterForced h = (s.forcing h).post h := rfl

theorem State.forcing_head_self (s : State) (h : HeadId) :
    (s.forcing h).head h =
      { (s.head h).vented with
        state := .forced, level := 2, ventTimer := none, scan := { (s.head h).scan with forcedUnsent := true } } := by
  unfold State.forcing
  rw [State.head_updHead, State.changeState_head_self]
  rfl

theorem State.forcing_head_ne (s : State) {g h : HeadId} (e : g ≠ h) : (s.forcing h).head g = s.head g := by
  unfold State.forcing
  rw [State.head_updHead_ne _ _ e, State.changeState_head_ne _ _ e]

theorem State.forcing_updated (s : State) (h : HeadId) :
    (s.forcing h).faults = s.faults ∧ (s.forcing h).reports = s.reports ∧ (s.forcing h).discharge = s.discharge := by
  simp [State.forcing]

theorem State.forcing_store (s : State) (h : HeadId) : (s.forcing h).store = s.store := by
  simp [State.forcing]

theorem State.forcing_turns (s : State) (h : HeadId) : s.Turns (s.forcing h) h where
  toBeside := .of_faults (by simp [State.forcing]) (by simp [State.forcing]) (by simp [State.forcing])
  other g hg := by rw [State.forcing_head_ne s hg]; exact .refl _
  urgent := by simp [State.forcing]
  idle := by simp [State.forcing]

theorem State.forcing_commands (s : State) (h : HeadId) : ((s.forcing h).head h).Commands := by
  rw [State.forcing_head_self]
  exact .of_notRunning (by simp) rfl rfl

/-- Entry to FORCED of a head that is not pinned. -/
theorem State.Upholds.enterForced {h : HeadId} (k : s.Upholds l o i) (pins : (s.head h).state.pins = false)
    (off : (s.head h).state ≠ .off) (lockout : (s.head h).state ≠ .lockout) : (s.enterForced h).Upholds l o i := by
  have st : ((s.forcing h).head h).state = .forced := by rw [State.forcing_head_self]
  refine State.Upholds.post (k.turn (s.forcing_turns h) (by simp [State.forcing]) ?_ (by rw [st, pins]; rfl) off
    (by simp [st]) (fun _ => s.forcing_commands h) ((s.forcing_turns h).lock lockout (by simp [st]))) h
  rw [State.forcing_head_self]; rfl

/-- Entry to FORCED of a head that gives its pin back. -/
theorem State.Upholds.releaseForced {h : HeadId} (k : s.Upholds l o i) (pins : (s.head h).state.pins = true) :
    ((s.releasePin h).enterForced h).Upholds l o i := by
  have st : (((s.releasePin h).forcing h).head h).state = .forced := by rw [State.forcing_head_self]
  refine State.Upholds.post (k.give (h := h)
    { toBeside := .of_faults (by simp [State.forcing]) (by simp [State.forcing]) (by simp [State.forcing])
      urgent := by simp [State.forcing], idle := by simp [State.forcing], other := ?other }
    pins (by rw [st]; decide) ?pin ?slots (by simp [State.forcing])
    fun _ => State.forcing_commands _ h) h
  case other => intro g hg; rw [State.forcing_head_ne _ hg, State.releasePin_head_ne _ hg]; exact .refl _
  case pin => rw [State.forcing_head_self, State.releasePin_head_self]; rfl
  case slots =>
    intro p hp j
    show ((s.releasePin h).changeState h .forced).slot j = _
    rw [State.changeState_slot, State.releasePin_slot hp]
    split
    · next x => rw [x]
    · rfl

/-- The state of an entry to LOCKOUT before its urgent exchange is posted. -/
def State.locking (s : State) (h : HeadId) : State :=
  (s.changeState h .lockout).updHead h fun c =>
    { c.vented with ventTimer := none, scan := { c.scan with miss := 0, confirm := none } }

theorem State.locking_head_self (s : State) (h : HeadId) :
    (s.locking h).head h =
      { (s.head h).vented with
        state := .lockout, level := 3, ventTimer := none
        scan := { (s.head h).scan with miss := 0, confirm := none } } := by
  unfold State.locking
  rw [State.head_updHead, State.changeState_head_self]
  rfl

theorem State.locking_turns (s : State) (h : HeadId) : s.Turns (s.locking h) h where
  toBeside := .of_faults (by simp [State.locking]) (by simp [State.locking]) (by simp [State.locking])
  other g hg := by
    unfold State.locking
    rw [State.head_updHead_ne _ _ hg, State.changeState_head_ne _ _ hg]
    exact .refl _
  urgent := by simp [State.locking]
  idle := by simp [State.locking]

/-- Entry to LOCKOUT leaves the lockout count to be looked at (R142). -/
theorem State.Upholds.enterLockout {h : HeadId} (k : s.Upholds .settled o i) (forced : (s.head h).state = .forced) :
    (s.enterLockout h).Upholds .entered o i := by
  have st : ((s.locking h).head h).state = .lockout := by rw [State.locking_head_self]
  have turns := s.locking_turns h
  refine State.Upholds.post (k.turn turns (by simp [State.locking]) ?pin (by rw [st, forced]; rfl) (by simp [forced])
    (by simp [st]) (fun _ => ?commands)
    (·.grown turns.toBeside (State.lockoutCount_le (fun g hg => (turns.other g hg).state) (by simp [forced])))) h
  case pin => rw [State.locking_head_self]; rfl
  case commands => rw [State.locking_head_self]; exact .of_notRunning (by simp) rfl rfl

/-! ### Weakening and settling the debt of R142 -/

theorem State.Upholds.entered (k : s.Upholds .settled o i) : s.Upholds .entered o i := by
  cases i with
  | stops => exact ⟨k.1, fun c => ⟨k.2.1.mp c, k.2.2 (k.2.1.mp c)⟩⟩
  | _ => exact k

theorem State.Upholds.settle (k : s.Upholds l o i)
    (e : (s.record .lockout).condition = true ↔ s.faults.lockoutLimit ≤ s.lockoutCount) : s.Upholds .settled o i := by
  cases i with
  | stops => exact ⟨k.1, e, fun c => k.2.toOpened (e.mpr c)⟩
  | _ => exact k

/-! ### The part abort (R69) -/

theorem State.Upholds.abortHead (k : s.Upholds l o i) (h : HeadId) (r : SkipReason) (c : Option Cause) :
    (s.abortHead h r c).Upholds l o i := by
  unfold State.abortHead
  split
  · next e => exact (k.updHead {}).enterAborting (by simpa using e)
  · next e => exact (k.updHead {}).giveUpSeating (by simpa using e) _ _
  · exact k

/-! ### A context parity error (R70) -/

/-- A head with a parity error, before it enters FORCED or LOCKOUT: latched, reported, its snapshot pushed, its checked
fields rewritten. -/
def State.parityRead (s : State) (h : HeadId) : State :=
  ((s.latchReport .contextParity (some (s.station h)) none).pushSnapshot h .contextParity).updHead h fun c =>
    { c.rewritten with
      lastFault := some .contextParity, hold := c.hold || (s.record .table).action == .hold }

/-- A parity error of a head that is neither OFF nor in LOCKOUT, without the stop-cause set. -/
def State.parityEntry (s : State) (h : HeadId) : State :=
  if (s.head h).state = .forced then ((s.parityRead h).parityRecord h).enterLockout h
  else ((s.parityRead h).parityRecord h).enterForced h

theorem State.parityCore_live {h : HeadId} (off : (s.head h).state ≠ .off) (lockout : (s.head h).state ≠ .lockout) :
    s.parityCore h =
      if (s.record .table).action = .stop then (s.parityEntry h).addStop .table else s.parityEntry h := by
  unfold State.parityCore State.parityEntry
  split
  · next e => exact absurd e off
  · next e => exact absurd e lockout
  · rfl

theorem State.parityCore_off {h : HeadId} (off : (s.head h).state = .off) : s.parityCore h = s := by
  unfold State.parityCore
  rw [off]

@[simp] theorem State.pushSnapshot_heads (s : State) (h : HeadId) (c : Cause) : (s.pushSnapshot h c).heads = s.heads := by
  unfold State.pushSnapshot; split <;> rfl

@[simp] theorem State.pushSnapshot_head (s : State) (h : HeadId) (c : Cause) (g : HeadId) :
    (s.pushSnapshot h c).head g = s.head g := State.head_congr (s.pushSnapshot_heads h c) g

@[simp] theorem State.pushSnapshot_store (s : State) (h : HeadId) (c : Cause) : (s.pushSnapshot h c).store = s.store := by
  unfold State.pushSnapshot; split <;> rfl

theorem State.parityRead_head_self (s : State) (h : HeadId) :
    (s.parityRead h).head h =
      { (s.head h).rewritten with
        lastFault := some .contextParity, hold := (s.head h).hold || (s.record .table).action == .hold } := by
  unfold State.parityRead
  rw [State.head_updHead, State.pushSnapshot_head, State.latchReport_head]

theorem State.parityRead_state (s : State) (h : HeadId) : ((s.parityRead h).head h).state = (s.head h).state := by
  rw [State.parityRead_head_self]; rfl

theorem State.parityRead_head_ne (s : State) {g h : HeadId} (e : g ≠ h) : (s.parityRead h).head g = s.head g := by
  unfold State.parityRead
  rw [State.head_updHead_ne _ _ e, State.pushSnapshot_head, State.latchReport_head]

@[simp] theorem State.parityRecord_reports (s : State) (h : HeadId) : (s.parityRecord h).reports = s.reports := by
  unfold State.parityRecord; dsimp only; split <;> simp

@[simp] theorem State.parityRecord_discharge (s : State) (h : HeadId) : (s.parityRecord h).discharge = s.discharge := by
  unfold State.parityRecord; dsimp only; split <;> simp

/-- The record of a parity error is made once the pin is given back, and changes nothing more that the laws read. -/
theorem State.parityRecord_alike {h : HeadId} (pins : (s.head h).state.pins = true) :
    (s.releasePin h).Alike (s.parityRecord h) := by
  have made : ∀ v r p, (s.releasePin h).Alike ((s.releasePin h).updHead h fun d => d.withRecord v r p) := by
    intro v r p
    refine { heads := fun g => ?_ }
    rw [State.head_updHead_eq]
    split
    · unfold Head.withRecord; split <;> exact {}
    · exact .refl _
  unfold State.parityRecord
  dsimp only
  split
  · exact made _ _ _
  · exact made _ _ _
  · next a b =>
    cases e : (s.head h).state with
    | seating => exact absurd e b
    | running => exact absurd e a
    | _ => rw [e] at pins; cases pins

theorem State.parityRecord_unpinned {h : HeadId} (pins : (s.head h).state.pins = false) : s.parityRecord h = s := by
  unfold State.parityRecord
  dsimp only
  split
  · next e => rw [e] at pins; cases pins
  · next e => rw [e] at pins; cases pins
  · rfl

/-- The state once a parity error has been latched and its snapshot pushed, with the context as read. -/
def State.parityLatched (s : State) (h : HeadId) : State :=
  (s.latchReport .contextParity (some (s.station h)) none).pushSnapshot h .contextParity

theorem State.Upholds.parityLatched (k : s.Upholds l o i) (h : HeadId) : (s.parityLatched h).Upholds l o i :=
  (k.latchReport _ _ _).pushSnapshot _ _

theorem State.parityLatched_head (s : State) (h g : HeadId) : (s.parityLatched h).head g = s.head g := by
  unfold State.parityLatched
  rw [State.pushSnapshot_head, State.latchReport_head]

theorem State.parityRead_eq (s : State) (h : HeadId) :
    s.parityRead h = (s.parityLatched h).updHead h fun c =>
      { c.rewritten with lastFault := some .contextParity, hold := c.hold || (s.record .table).action == .hold } := rfl

/-- A head that was dosing goes to FORCED by a parity error and gives its pin back. -/
theorem State.Upholds.parityGive {h : HeadId} (k : s.Upholds l o i) (pins : (s.head h).state.pins = true) :
    (((s.parityRead h).parityRecord h).enterForced h).Upholds l o i := by
  have pins' : ((s.parityRead h).head h).state.pins = true := by rw [State.parityRead_state]; exact pins
  have a := State.parityRecord_alike pins'
  have b := a.toBeside
  have st : ((((s.parityRead h).parityRecord h).forcing h).head h).state = .forced := by rw [State.forcing_head_self]
  have turns := ((s.parityRead h).parityRecord h).forcing_turns h
  refine State.Upholds.post ((k.parityLatched h).give (h := h)
    { toBeside := ?beside, other := ?other, urgent := ?urgent, idle := ?idle }
    (by rw [State.parityLatched_head]; exact pins) (by rw [st]; decide) ?pin ?slots ?verifier
    fun _ => State.forcing_commands _ h) h
  case beside =>
    have f := State.forcing_updated ((s.parityRead h).parityRecord h) h
    exact .of_faults (by rw [f.1, State.parityRecord_faults]; rfl) (by rw [f.2.1, State.parityRecord_reports]; rfl)
      (by rw [f.2.2, State.parityRecord_discharge]; rfl)
  case other =>
    intro g hg
    refine .trans ?_ ((a.heads g).trans (turns.other g hg))
    rw [State.releasePin_head_ne _ hg, State.parityRead_head_ne _ hg, State.parityLatched_head]
    exact .refl _
  case urgent => rw [turns.urgent, a.urgent]; simp [State.parityRead_eq]
  case idle => rw [turns.idle, a.idle]; simp [State.parityRead_eq]
  case pin =>
    rw [State.forcing_head_self]
    show (((s.parityRead h).parityRecord h).head h).pin = none
    rw [(a.heads h).pin, State.releasePin_head_self]
  case slots =>
    intro p hp j
    rw [State.parityLatched_head] at hp
    have e : ((s.parityRead h).head h).pin = some p := by rw [State.parityRead_head_self]; exact hp
    rw [State.slot_congr (State.forcing_store _ h), State.slot_congr a.store, State.releasePin_slot e,
      State.parityRead_eq]
    simp only [State.updHead_slot]
    split
    · next x => rw [x]
    · rfl
  case verifier =>
    have e : (((s.parityRead h).parityRecord h).forcing h).store = ((s.parityRead h).releasePin h).store := by
      rw [State.forcing_store, a.store]
    rw [e, State.releasePin_verifier, State.parityRead_eq, State.updHead_store]

theorem State.parityRead_other (s : State) {g h : HeadId} (e : g ≠ h) :
    ((s.parityLatched h).head g).Alike ((s.parityRead h).head g) := by
  rw [State.parityRead_head_ne _ e, State.parityLatched_head]
  exact .refl _

/-- A head that was not dosing goes to FORCED by a parity error. -/
theorem State.Upholds.parityTurn {h : HeadId} (k : s.Upholds l o i) (pins : (s.head h).state.pins = false)
    (off : (s.head h).state ≠ .off) (lockout : (s.head h).state ≠ .lockout) :
    ((s.parityRead h).enterForced h).Upholds l o i := by
  have st : (((s.parityRead h).forcing h).head h).state = .forced := by rw [State.forcing_head_self]
  have turns := (s.parityRead h).forcing_turns h
  have all : (s.parityLatched h).Turns ((s.parityRead h).forcing h) h :=
    { toBeside := .of_faults (by simp [State.forcing, State.parityRead_eq]) (by simp [State.forcing, State.parityRead_eq])
        (by simp [State.forcing, State.parityRead_eq])
      other := fun g hg => (State.parityRead_other s hg).trans (turns.other g hg)
      urgent := by rw [turns.urgent]; rfl
      idle := by rw [turns.idle]; rfl }
  refine State.Upholds.post ((k.parityLatched h).turn all (by simp [State.forcing, State.parityRead_eq]) ?pin
    (by rw [st, State.parityLatched_head, pins]; rfl) (by rw [State.parityLatched_head]; exact off) (by simp [st])
    (fun _ => State.forcing_commands _ h) (all.lock (by rw [State.parityLatched_head]; exact lockout) (by simp [st]))) h
  case pin => rw [State.forcing_head_self, State.parityRead_head_self, State.parityLatched_head]; rfl

/-- A head in FORCED goes to LOCKOUT by a parity error. -/
theorem State.Upholds.parityLock {h : HeadId} (k : s.Upholds .settled o i) (forced : (s.head h).state = .forced) :
    ((s.parityRead h).enterLockout h).Upholds .entered o i := by
  have st : (((s.parityRead h).locking h).head h).state = .lockout := by rw [State.locking_head_self]
  have turns := (s.parityRead h).locking_turns h
  have all : (s.parityLatched h).Turns ((s.parityRead h).locking h) h :=
    { toBeside := .of_faults (by simp [State.locking, State.parityRead_eq]) (by simp [State.locking, State.parityRead_eq])
        (by simp [State.locking, State.parityRead_eq])
      other := fun g hg => (State.parityRead_other s hg).trans (turns.other g hg)
      urgent := by rw [turns.urgent]; rfl
      idle := by rw [turns.idle]; rfl }
  refine State.Upholds.post ((k.parityLatched h).turn all (by simp [State.locking, State.parityRead_eq]) ?pin
    (by rw [st, State.parityLatched_head, forced]; rfl) (by simp [State.parityLatched_head, forced]) (by simp [st])
    (fun _ => ?commands) (·.grown all.toBeside (State.lockoutCount_le (fun g hg => (all.other g hg).state)
      (by simp [State.parityLatched_head, forced])))) h
  case pin => rw [State.locking_head_self, State.parityRead_head_self, State.parityLatched_head]; rfl
  case commands => rw [State.locking_head_self]; exact .of_notRunning (by simp) rfl rfl

/-- What a parity error of a live head does before its part-level effects: from FORCED a debt of R142, from any other
state none. -/
theorem State.Upholds.parityEntry {h : HeadId} (k : s.Upholds .settled o i) (off : (s.head h).state ≠ .off)
    (lockout : (s.head h).state ≠ .lockout) : (s.parityEntry h).Upholds .entered o i := by
  unfold State.parityEntry
  split
  · next forced =>
    rw [State.parityRecord_unpinned (by rw [State.parityRead_state, forced]; rfl)]
    exact k.parityLock forced
  · cases pins : (s.head h).state.pins
    · rw [State.parityRecord_unpinned (by rw [State.parityRead_state]; exact pins)]
      exact (k.parityTurn pins off lockout).entered
    · exact (k.parityGive pins).entered

theorem State.Upholds.parityEntry_pinned {h : HeadId} (k : s.Upholds l o i) (pins : (s.head h).state.pins = true) :
    (s.parityEntry h).Upholds l o i := by
  unfold State.parityEntry
  split
  · next forced => rw [forced] at pins; cases pins
  · exact k.parityGive pins

/-- A head in LOCKOUT is rewritten with its command. -/
theorem State.Upholds.parityLockout {h : HeadId} (k : s.Upholds l o i) (lockout : (s.head h).state = .lockout) :
    (s.parityCore h).Upholds l o i := by
  have turns : s.Turns (s.updHead h fun c => { c.rewritten with valves := .venting }) h :=
    { other := fun g hg => by rw [State.head_updHead_ne _ _ hg]; exact .refl _, urgent := rfl, idle := Iff.rfl }
  have st : ((s.updHead h fun c => { c.rewritten with valves := .venting }).head h).state = .lockout := by
    rw [State.head_updHead]; exact lockout
  have w : (s.updHead h fun c => { c.rewritten with valves := .venting }).Upholds l o i := by
    refine k.turn turns rfl (by rw [State.head_updHead]; rfl) (by rw [st, lockout]) (by simp [lockout]) (by rw [st]; decide)
      (fun c => ?_) (·.count turns.toBeside (State.lockoutCount_congr fun g => ?_))
    · refine .of_notRunning (by rw [st]; decide) ?_ (by rw [st, State.head_updHead]; rfl)
      rw [st, ← lockout, ← c.level h, State.head_updHead]
      rfl
    · by_cases e : g = h
      · rw [e, st, lockout]
      · rw [State.head_updHead_ne _ _ e]
  unfold State.parityCore
  rw [lockout]
  dsimp only
  split
  · exact w
  · exact w.post h

/-! ### Entry to SAFE (R130) -/

/-- In SAFE the part abort of a head, its context clean or not, keeps the laws. -/
theorem State.Upholds.safeAbortStep (k : s.Upholds l o i) (safe : s.faults.mode = .safe) (c : Option Cause)
    (h : HeadId) : (s.safeAbortStep c h).Upholds l o i := by
  unfold State.safeAbortStep
  split
  · next ab =>
    have pins : (s.head h).state.pins = true := by
      unfold Head.abortable at ab
      unfold HeadState.pins
      rw [Bool.or_comm]
      exact ab
    split
    · exact k.abortHead h _ _
    · rw [State.parityCore_live (by intro e; rw [e] at pins; cases pins) (by intro e; rw [e] at pins; cases pins)]
      have e := k.parityEntry_pinned pins
      split
      · next stop =>
        have m : (s.parityEntry h).faults.mode = .safe := by
          have q := s.parityCore_mode h
          rw [State.parityCore_live (by intro e; rw [e] at pins; cases pins)
            (by intro e; rw [e] at pins; cases pins), if_pos stop, State.addStop_mode] at q
          rw [q, safe]
        rw [← State.safed_of_safe (s := (s.parityEntry h).addStop .table) (by simpa using m)]
        exact e.stopped .table
      · exact e
  · exact k

theorem State.safeAbortStep_mode (s : State) (c : Option Cause) (h : HeadId) :
    (s.safeAbortStep c h).faults.mode = s.faults.mode := by
  unfold State.safeAbortStep
  split
  · split <;> simp
  · rfl

theorem State.Upholds.safeAbort (k : s.Upholds l o i) (safe : s.faults.mode = .safe) (c : Option Cause) :
    (s.safeAbort c).Upholds l o i := by
  rw [State.safeAbort_eq]
  generalize s.headOrder = heads
  induction heads generalizing s with
  | nil => exact k
  | cons h rest ih => exact ih (k.safeAbortStep safe c h) ((s.safeAbortStep_mode c h).trans safe)

theorem State.enterSafe_eq (s : State) (c : Option Cause) :
    s.enterSafe c =
      if s.faults.mode = .safe then s.safed
      else (s.safed.safeAbort c).report (.mode s.faults.mode .safe (c.map Cause.cls)) := by
  unfold State.enterSafe
  split
  · next e => exact (State.safed_of_safe e).symm
  · rfl

/-- Entry to SAFE keeps the laws where the state with the mode SAFE does. -/
theorem State.Upholds.enterSafe_of_safed (k : s.safed.Upholds l o i) (c : Option Cause) :
    (s.enterSafe c).Upholds l o i := by
  rw [State.enterSafe_eq]
  split
  · exact k
  · exact (k.safeAbort rfl c).report _

theorem State.Upholds.enterSafe (k : s.Upholds l o i) (c : Option Cause) : (s.enterSafe c).Upholds l o i :=
  k.safed.enterSafe_of_safed c

theorem State.Upholds.stopSafe (k : s.Upholds l o i) (c : FaultClass) (x : Option Cause) :
    ((s.addStop c).enterSafe x).Upholds l o i := (k.stopped c).enterSafe_of_safed x

end
end Sys2Proof.Machine

/-! PROOFS. The laws through a raise, part-scoped or head-scoped, and through an event of a head (R70, R134 to R137,
R142). -/

namespace Sys2Proof.Machine

section
variable {s t : State} {l l' : LockDebt} {o o' : Option HeadId} {i : Law}

/-! ### The lockout limit (R142) -/

/-- The condition of LOCKOUT marked and LOCKOUT LIMIT latched and reported. -/
def State.lockoutMarked (s : State) : State :=
  (s.updRecord .lockout fun r => { r with condition := true }).latchReport .lockoutLimit none none

theorem State.Upholds.updRecord_other (k : s.Upholds l o i) (n : i ≠ .stops) (c : FaultClass)
    (f : ClassRecord → ClassRecord) : (s.updRecord c f).Upholds l o i := by
  cases i with
  | stops => exact absurd rfl n
  | _ => exact k

theorem State.lockoutMarked_condition (s : State) : (s.lockoutMarked.record .lockout).condition = true := by
  unfold State.lockoutMarked
  rw [State.latchReport_record, State.record_updRecord]
  split <;> rfl

theorem State.Upholds.lockoutMarked (k : s.Upholds l o i) (reached : s.faults.lockoutLimit ≤ s.lockoutCount) :
    (s.lockoutMarked.addStop .lockout).safed.Upholds .settled o i := by
  by_cases n : i = .stops
  · subst n
    refine ⟨fun _ => rfl, ?_, fun _ => rfl⟩
    show ((s.lockoutMarked.addStop .lockout).record .lockout).condition = true ↔
      (s.lockoutMarked.addStop .lockout).faults.lockoutLimit ≤ (s.lockoutMarked.addStop .lockout).lockoutCount
    rw [State.addStop_condition _ (by decide), State.lockoutMarked_condition, State.addStop_limit]
    refine iff_of_true rfl ?_
    unfold State.lockoutCount
    rw [State.addStop_heads]
    exact reached
  · have m := ((k.updRecord_other n .lockout fun r => { r with condition := true }).latchReport
      .lockoutLimit none none).stopped .lockout
    revert m
    cases i <;> first | exact id | exact absurd rfl n

/-- The count looked at again settles R142. -/
theorem State.Upholds.checkLockout (k : s.Upholds .entered o i) : s.checkLockout.Upholds .settled o i := by
  unfold State.checkLockout
  split
  · next e => exact (k.lockoutMarked e.1).enterSafe_of_safed _
  · next e =>
    by_cases n : i = .stops
    · subst n
      refine k.settle ⟨fun c => (k.2 c).1, fun reached => ?_⟩
      by_contra c
      exact e ⟨reached, by simpa using c⟩
    · cases i <;> first | exact k | exact absurd rfl n

/-! ### A context parity error and an event of a head (R70) -/

theorem State.contextParity_off {h : HeadId} (off : (s.head h).state = .off) :
    s.contextParity h = s.checkLockout := by
  unfold State.contextParity
  simp [off, State.parityCore_off]

theorem State.contextParity_lockout {h : HeadId} (lockout : (s.head h).state = .lockout) :
    s.contextParity h = (s.parityCore h).checkLockout := by
  unfold State.contextParity
  simp [lockout]

theorem State.contextParity_live {h : HeadId} (off : (s.head h).state ≠ .off) (lockout : (s.head h).state ≠ .lockout) :
    s.contextParity h =
      (if (s.record .table).action = .stop then
        ((s.parityEntry h).addStop .table).enterSafe (some .contextParity) else s.parityEntry h).checkLockout := by
  unfold State.contextParity
  rw [State.parityCore_live off lockout]
  by_cases a : (s.record .table).action = .stop <;> simp [off, lockout, a]

theorem State.Upholds.contextParity (k : s.Upholds .settled o i) (h : HeadId) :
    (s.contextParity h).Upholds .settled o i := by
  by_cases off : (s.head h).state = .off
  · rw [State.contextParity_off off]
    exact k.entered.checkLockout
  by_cases lockout : (s.head h).state = .lockout
  · rw [State.contextParity_lockout lockout]
    exact (k.parityLockout lockout).entered.checkLockout
  rw [State.contextParity_live off lockout]
  have e := k.parityEntry off lockout
  refine State.Upholds.checkLockout ?_
  split
  · exact e.stopSafe _ _
  · exact e

/-- An event of a head keeps a law where its normal effect on a live head does. -/
theorem State.Upholds.headEvent (k : s.Upholds .settled o i) (h : HeadId) {f : State → State}
    (effect : (s.head h).state ≠ .off → (f s).Upholds .settled o i) : (s.headEvent h f).Upholds .settled o i := by
  unfold State.headEvent
  split
  · exact k
  · next off =>
    split
    · exact effect off
    · exact k.contextParity h

/-! ### Part-scoped raises (R135) -/

/-- One head of the part abort of a HALT. -/
def State.haltAbortStep (cause : Cause) (s : State) (h : HeadId) : State :=
  if (s.head h).abortable then s.headEvent h fun s => s.abortHead h .hold (some cause) else s

theorem State.haltAbort_eq (s : State) (cause : Cause) :
    s.haltAbort cause = s.headOrder.foldl (State.haltAbortStep cause) s := rfl

theorem State.Upholds.haltAbort (k : s.Upholds .settled o i) (cause : Cause) :
    (s.haltAbort cause).Upholds .settled o i := by
  rw [State.haltAbort_eq]
  generalize s.headOrder = heads
  induction heads generalizing s with
  | nil => exact k
  | cons h rest ih =>
    refine ih ?_
    unfold State.haltAbortStep
    split
    · exact k.headEvent h fun _ => k.abortHead h _ _
    · exact k

theorem State.Upholds.raisePart (k : s.Upholds .settled o i) (c : Cause) (a b : Option Nat) :
    (s.raisePart c a b).Upholds .settled o i := by
  unfold State.raisePart
  have e := k.latchReport c a b
  dsimp only
  split
  · exact e
  · exact e.updRecord id fun _ => rfl
  · exact State.Upholds.haltAbort (e.updRecord id fun _ => rfl) c
  · split
    · exact e.enterSafe _
    · exact e.stopSafe _ _

/-! ### Head-scoped raises (R67, R68, R136) -/

theorem State.Upholds.takeHeadRaise (k : s.Upholds l o i) (h : HeadId) (c : Cause) :
    (s.takeHeadRaise h c).Upholds l o i := (k.latchReport _ _ _).updHead {}

theorem State.Upholds.headAction (k : s.Upholds .settled o i) (h : HeadId) (c : Cause) (a : Action) :
    (s.headAction h c a).Upholds .entered o i := by
  unfold State.headAction
  dsimp only
  have e : (if a = .hold then s.updHead h fun c => { c with hold := true } else s).Upholds .settled o i := by
    split
    · exact k.updHead {}
    · exact k
  generalize (if a = .hold then s.updHead h fun c => { c with hold := true } else s) = u at e ⊢
  split
  · split
    · next r => exact ((e.pushSnapshot h c).enterAborting (by simpa using r)).entered
    · next r => exact ((e.pushSnapshot h c).giveUpSeating (by simpa using r) _ _).entered
    · next r =>
      refine State.Upholds.entered ((e.pushSnapshot h c).enterForced ?_ ?_ ?_) <;> rw [State.pushSnapshot_head, r] <;>
        decide
    · next r => exact (e.pushSnapshot h c).enterLockout (by simpa using r)
    · exact (e.updHead {}).entered
    · exact (e.updHead {}).entered
    · exact (e.updHead {}).entered
    · exact e.entered
    · exact e.entered
  · exact e.entered

theorem State.Upholds.afterHeadRaise (k : s.Upholds .entered o i) (c : Cause) (a : Action) :
    (s.afterHeadRaise c a).Upholds .settled o i := by
  unfold State.afterHeadRaise
  refine State.Upholds.checkLockout ?_
  split
  · exact k.stopSafe _ _
  · exact k

theorem State.Upholds.raiseHead (k : s.Upholds .settled o i) (h : HeadId) (c : Cause) :
    (s.raiseHead h c).Upholds .settled o i := by
  unfold State.raiseHead
  split
  · exact k
  · refine State.Upholds.afterHeadRaise ?_ _ _
    have e := k.takeHeadRaise h c
    split
    · exact e.headAction h c _
    · exact (e.contextParity h).entered

theorem State.Upholds.raiseHeadIf (k : s.Upholds .settled o i) (b : Bool) (h : HeadId) (c : Cause) :
    (s.raiseHeadIf b h c).Upholds .settled o i := by
  cases b
  · exact k
  · exact k.raiseHead h c

end

/-! ### The heads that a part-level effect does not reach

A head that is neither RUNNING nor SEATING keeps its state and its command through every part-scoped raise. -/

section
variable {s t u : State} {h : HeadId}

/-- From `s` to `t` the context of the head has changed in the Scanner's fields at most, and while an exchange is in
flight, which only its own end takes off the bus, in nothing. -/
structure State.Spares (s t : State) (h : HeadId) : Prop where
  head : (t.head h).butScan = (s.head h).butScan
  busy : s.scanner.inFlight ≠ none → t.scanner.inFlight ≠ none ∧ t.head h = s.head h

theorem State.Spares.of_eq (e : t.head h = s.head h)
    (b : s.scanner.inFlight ≠ none → t.scanner.inFlight ≠ none := by exact id) : s.Spares t h :=
  ⟨congrArg Head.butScan e, fun busy => ⟨b busy, e⟩⟩

theorem State.Spares.refl (s : State) (h : HeadId) : s.Spares s h := .of_eq rfl

theorem State.Spares.trans (a : s.Spares t h) (b : t.Spares u h) : s.Spares u h where
  head := b.head.trans a.head
  busy busy :=
    have first := a.busy busy
    have second := b.busy first.1
    ⟨second.1, second.2.trans first.2⟩

theorem State.Spares.alike (a : s.Spares t h) : (s.head h).Alike (t.head h) := .of_butScan a.head

theorem State.Spares.abortable (a : s.Spares t h) : (t.head h).abortable = (s.head h).abortable :=
  Head.abortable_of_state a.alike.state

theorem State.updHead_spares (s : State) {g h : HeadId} (e : g ≠ h) (f : Head → Head) : s.Spares (s.updHead h f) g :=
  .of_eq (State.head_updHead_ne s f e)

theorem State.changeState_spares (s : State) {g h : HeadId} (e : g ≠ h) (st : HeadState) :
    s.Spares (s.changeState h st) g := by
  refine .of_eq (State.changeState_head_ne s st e) fun busy => ?_
  unfold State.changeState
  dsimp only
  split
  · simpa [State.markInFlight] using busy
  · exact busy

theorem State.releasePin_spares (s : State) {g h : HeadId} (e : g ≠ h) : s.Spares (s.releasePin h) g :=
  .of_eq (State.releasePin_head_ne s e) (by simp)

theorem State.post_spares (s : State) (g h : HeadId) : s.Spares (s.post h) g where
  head := State.post_butScan s h g
  busy busy := by
    unfold State.post
    split
    · dsimp only
      rw [if_neg (by simpa using busy)]
      exact ⟨busy, rfl⟩
    · exact ⟨busy, rfl⟩

theorem State.addStop_spares (s : State) (c : FaultClass) (h : HeadId) : s.Spares (s.addStop c) h := by
  refine .of_eq (State.head_congr (State.addStop_heads s c) h) ?_
  unfold State.addStop
  dsimp only
  split <;> exact id

theorem State.pushSnapshot_spares (s : State) (g h : HeadId) (c : Cause) : s.Spares (s.pushSnapshot h c) g := by
  unfold State.pushSnapshot
  split <;> exact .of_eq rfl

theorem State.enterForced_other (s : State) {g h : HeadId} (e : g ≠ h) : s.Spares (s.enterForced h) g :=
  ((s.changeState_spares e _).trans (State.updHead_spares _ e _)).trans (State.post_spares _ g h)

theorem State.enterLockout_other (s : State) {g h : HeadId} (e : g ≠ h) : s.Spares (s.enterLockout h) g :=
  ((s.changeState_spares e _).trans (State.updHead_spares _ e _)).trans (State.post_spares _ g h)

theorem State.enterAborting_other (s : State) {g h : HeadId} (e : g ≠ h) : s.Spares (s.enterAborting h) g :=
  (((((s.changeState_spares e _).trans (State.updHead_spares _ e _)).trans (State.releasePin_spares _ e)).trans
    (State.updHead_spares _ e _)).trans (State.updHead_spares _ e _)).trans (State.post_spares _ g h)

theorem State.giveUpSeating_other (s : State) {g h : HeadId} (e : g ≠ h) (v : Verdict) (k : Option SkipReason) :
    s.Spares (s.giveUpSeating h v k) g := by
  unfold State.giveUpSeating
  exact ((s.releasePin_spares e).trans (State.changeState_spares _ e _)).trans (State.updHead_spares _ e _)

theorem State.parityRecord_other (s : State) {g h : HeadId} (e : g ≠ h) : s.Spares (s.parityRecord h) g := by
  unfold State.parityRecord
  dsimp only
  split
  · exact (s.releasePin_spares e).trans (State.updHead_spares _ e _)
  · exact (s.releasePin_spares e).trans (State.updHead_spares _ e _)
  · exact .refl s g

theorem State.latchReport_spares (s : State) (c : Cause) (a b : Option Nat) (h : HeadId) :
    s.Spares (s.latchReport c a b) h := .of_eq rfl

theorem State.parityRead_spares (s : State) {g h : HeadId} (e : g ≠ h) : s.Spares (s.parityRead h) g :=
  ((s.latchReport_spares _ _ _ g).trans (State.pushSnapshot_spares _ g h _)).trans (State.updHead_spares _ e _)

theorem State.parityCore_other (s : State) {g h : HeadId} (e : g ≠ h) : s.Spares (s.parityCore h) g := by
  by_cases off : (s.head h).state = .off
  · rw [State.parityCore_off off]; exact .refl _ _
  by_cases lockout : (s.head h).state = .lockout
  · unfold State.parityCore
    rw [lockout]
    dsimp only
    split
    · exact s.updHead_spares e _
    · exact (s.updHead_spares e _).trans (State.post_spares _ g h)
  have read : s.Spares ((s.parityRead h).parityRecord h) g :=
    (s.parityRead_spares e).trans (State.parityRecord_other _ e)
  have entry : s.Spares (s.parityEntry h) g := by
    unfold State.parityEntry
    split
    · exact read.trans (State.enterLockout_other _ e)
    · exact read.trans (State.enterForced_other _ e)
  rw [State.parityCore_live off lockout]
  split
  · exact entry.trans (State.addStop_spares _ _ _)
  · exact entry

theorem State.abortHead_other (s : State) {g h : HeadId} (e : g ≠ h) (k : SkipReason) (c : Option Cause) :
    s.Spares (s.abortHead h k c) g := by
  unfold State.abortHead
  split
  · exact (s.updHead_spares e _).trans (State.enterAborting_other _ e)
  · exact (s.updHead_spares e _).trans (State.giveUpSeating_other _ e _ _)
  · exact .refl s g

/-- A fold of steps over the heads, each of which touches its own head only where that head is abortable, does not
reach a head that is not. -/
theorem State.foldl_unreached (f : State → HeadId → State)
    (idle : ∀ (t : State) (g : HeadId), (t.head g).abortable = false → f t g = t)
    (other : ∀ (t : State) (g k : HeadId), k ≠ g → (t.head k).abortable = false → t.Spares (f t g) k)
    (n : (s.head h).abortable = false) (heads : List HeadId) : s.Spares (heads.foldl f s) h := by
  induction heads generalizing s with
  | nil => exact .refl _ _
  | cons g rest ih =>
    have step : s.Spares (f s g) h := by
      by_cases e : h = g
      · subst e; rw [idle s h n]; exact .refl _ _
      · exact other s g h e n
    exact step.trans (ih (step.abortable.trans n))

theorem State.safeAbort_unreached (c : Option Cause) (n : (s.head h).abortable = false) :
    s.Spares (s.safeAbort c) h := by
  rw [State.safeAbort_eq]
  refine State.foldl_unreached _ (fun t g e => ?_) (fun t g k e _ => ?_) n _
  · simp [State.safeAbortStep, e]
  · unfold State.safeAbortStep
    split
    · split
      · exact t.abortHead_other e _ _
      · exact t.parityCore_other e
    · exact .refl _ _

theorem State.enterSafe_unreached (c : Option Cause) (n : (s.head h).abortable = false) :
    s.Spares (s.enterSafe c) h := by
  rw [State.enterSafe_eq]
  have safed : s.Spares s.safed h := .of_eq rfl
  split
  · exact safed
  · exact (safed.trans (State.safeAbort_unreached c n)).trans (.of_eq rfl)

theorem State.checkLockout_unreached (n : (s.head h).abortable = false) :
    s.Spares s.checkLockout h := by
  unfold State.checkLockout
  split
  · have marked : s.Spares (s.lockoutMarked.addStop .lockout) h :=
      .trans (t := s.lockoutMarked) (.of_eq rfl) (State.addStop_spares _ _ _)
    exact marked.trans (State.enterSafe_unreached _ (marked.abortable.trans n))
  · exact .refl _ _

theorem State.contextParity_unreached {g : HeadId} (e : h ≠ g) (n : (s.head h).abortable = false) :
    s.Spares (s.contextParity g) h := by
  have core := s.parityCore_other e
  have stopped : s.Spares
      (if ((s.head g).state != .off && (s.head g).state != .lockout && (s.record .table).action == .stop) = true then
        (s.parityCore g).enterSafe (some .contextParity) else s.parityCore g) h := by
    split
    · exact core.trans (State.enterSafe_unreached _ (core.abortable.trans n))
    · exact core
  exact stopped.trans (State.checkLockout_unreached (stopped.abortable.trans n))

theorem State.haltAbort_unreached (c : Cause) (n : (s.head h).abortable = false) :
    s.Spares (s.haltAbort c) h := by
  rw [State.haltAbort_eq]
  refine State.foldl_unreached _ (fun t g e => ?_) (fun t g k e m => ?_) n _
  · simp [State.haltAbortStep, e]
  · unfold State.haltAbortStep State.headEvent
    split
    · split
      · exact .refl _ _
      · split
        · exact t.abortHead_other e _ _
        · exact State.contextParity_unreached e m
    · exact .refl _ _

theorem State.updRecord_spares (s : State) (c : FaultClass) (f : ClassRecord → ClassRecord) (h : HeadId) :
    s.Spares (s.updRecord c f) h := .of_eq rfl

theorem State.raisePart_unreached (c : Cause) (a b : Option Nat) (n : (s.head h).abortable = false) :
    s.Spares (s.raisePart c a b) h := by
  have latched := s.latchReport_spares c a b h
  unfold State.raisePart
  dsimp only
  split
  · exact latched
  · exact latched.trans (State.updRecord_spares _ _ _ h)
  · have barred := latched.trans (State.updRecord_spares _ c.cls (fun r => { r with bars := true }) h)
    exact barred.trans (State.haltAbort_unreached c n)
  · split
    · exact latched.trans (State.enterSafe_unreached _ n)
    · have stopped := latched.trans (State.addStop_spares _ c.cls h)
      exact stopped.trans (State.enterSafe_unreached _ (stopped.abortable.trans n))

end
end Sys2Proof.Machine

/-! PROOFS. The laws through the Discharge Tracker (R116 to R122), the crossings of a cycle (R46 to R49, R61) and the
states that a head leaves for IDLE, DONE or OFF (R65, R72, R73). -/

namespace Sys2Proof.Machine

/-! ### The Discharge Tracker keeps out of a raise -/

@[simp] theorem State.addStop_discharge (s : State) (c : FaultClass) : (s.addStop c).discharge = s.discharge := by
  unfold State.addStop; dsimp only; split <;> rfl

@[simp] theorem State.pushSnapshot_discharge (s : State) (h : HeadId) (c : Cause) :
    (s.pushSnapshot h c).discharge = s.discharge := by
  unfold State.pushSnapshot; split <;> rfl

@[simp] theorem State.parityCore_discharge (s : State) (h : HeadId) : (s.parityCore h).discharge = s.discharge := by
  by_cases off : (s.head h).state = .off
  · rw [State.parityCore_off off]
  by_cases lockout : (s.head h).state = .lockout
  · unfold State.parityCore
    rw [lockout]
    dsimp only
    split <;> simp
  have entry : (s.parityEntry h).discharge = s.discharge := by
    unfold State.parityEntry
    split <;> simp [State.parityRead]
  rw [State.parityCore_live off lockout]
  split
  · rw [State.addStop_discharge, entry]
  · exact entry

@[simp] theorem State.safeAbort_discharge (s : State) (c : Option Cause) : (s.safeAbort c).discharge = s.discharge := by
  rw [State.safeAbort_eq]
  generalize s.headOrder = heads
  induction heads generalizing s with
  | nil => rfl
  | cons h rest ih =>
    rw [List.foldl_cons, ih]
    unfold State.safeAbortStep
    split
    · split <;> simp
    · rfl

@[simp] theorem State.enterSafe_discharge (s : State) (c : Option Cause) : (s.enterSafe c).discharge = s.discharge := by
  rw [State.enterSafe_eq]
  split
  · rfl
  · exact State.safeAbort_discharge s.safed c

@[simp] theorem State.checkLockout_discharge (s : State) : s.checkLockout.discharge = s.discharge := by
  unfold State.checkLockout
  split
  · simp
  · rfl

@[simp] theorem State.contextParity_discharge (s : State) (h : HeadId) :
    (s.contextParity h).discharge = s.discharge := by
  unfold State.contextParity
  dsimp only
  split <;> simp

@[simp] theorem State.haltAbort_discharge (s : State) (c : Cause) : (s.haltAbort c).discharge = s.discharge := by
  rw [State.haltAbort_eq]
  generalize s.headOrder = heads
  induction heads generalizing s with
  | nil => rfl
  | cons h rest ih =>
    rw [List.foldl_cons, ih]
    unfold State.haltAbortStep State.headEvent
    split
    · split
      · rfl
      · split <;> simp
    · rfl

@[simp] theorem State.raisePart_discharge (s : State) (c : Cause) (a b : Option Nat) :
    (s.raisePart c a b).discharge = s.discharge := by
  unfold State.raisePart
  dsimp only
  split
  · rfl
  · rfl
  · simp
  · split <;> simp

/-! ### The reject schedule (R116 to R122) -/

theorem insertEntry_perm (cpr : Nat) (e : RejectEntry) (l : List RejectEntry) : (insertEntry cpr e l).Perm (e :: l) := by
  induction l with
  | nil => exact .refl _
  | cons x xs ih =>
    unfold insertEntry
    split
    · exact (ih.cons x).trans (.swap e x xs)
    · exact .refl _

theorem dueSplit_suffix (cpr p : Nat) (l : List RejectEntry) : (dueSplit cpr p l).2 <:+ l := by
  induction l with
  | nil => exact List.suffix_refl _
  | cons x xs ih =>
    unfold dueSplit
    split
    · exact ih.trans (List.suffix_cons x xs)
    · exact List.suffix_refl _

section
variable {s t : State} {l l' : LockDebt} {o o' : Option HeadId} {i : Law}

/-- What a new entry must be for the schedule to stay sound (R116). -/
structure State.Schedulable (s : State) (e : RejectEntry) : Prop where
  master  : s.discharge.master = true
  verdict : e.verdict ≠ .good ∧ e.verdict ≠ .empty
  fresh   : ∀ x ∈ s.discharge.schedule, ¬(x.source = e.source ∧ x.seq = e.seq)

theorem State.ScheduleSound.insert {e : RejectEntry} (k : s.ScheduleSound) (ok : s.Schedulable e)
    (room : s.discharge.schedule.length < 64) :
    ({ s with discharge := { s.discharge with schedule := insertEntry s.tracker.cpr e s.discharge.schedule } } :
      State).ScheduleSound := by
  obtain ⟨k1, k2, k3, k4⟩ := k
  have p := insertEntry_perm s.tracker.cpr e s.discharge.schedule
  refine ⟨?_, fun x hx => ?_, ?_, fun m => ?_⟩
  · show (insertEntry _ _ _).length ≤ 64
    rw [p.length_eq]
    exact room
  · rcases List.mem_cons.mp (p.mem_iff.mp hx) with rfl | hx
    · exact ok.verdict
    · exact k2 x hx
  · refine (p.pairwise_iff fun {a b} h c => h ⟨c.1.symm, c.2.symm⟩).mpr (List.pairwise_cons.mpr ⟨fun x hx c => ?_, k3⟩)
    exact ok.fresh x hx ⟨c.1.symm, c.2.symm⟩
  · exact absurd (ok.master.symm.trans m) (by decide)

theorem State.Upholds.schedule {e : RejectEntry} (k : s.Upholds .settled o i) (ok : s.Schedulable e) :
    (s.schedule e).Upholds .settled o i := by
  unfold State.schedule
  split
  · exact k.raisePart _ _ _
  · split
    · exact k.raisePart _ _ _
    · next room => exact k.discharge _ fun x => x.insert ok (by simpa [Config.scheduleSize] using room)

theorem Verdict.rejected_ne {v : Verdict} (h : v.rejected = true) : v ≠ .good ∧ v ≠ .empty := by
  constructor <;> · rintro rfl; cases h

theorem State.Upholds.takeDose (k : s.Upholds .settled o i) (master : s.discharge.master = true) (a : Fin 15)
    (q st c : Nat) (v : Verdict) (p : Pos) : (s.takeDose a q st c v p).Upholds .settled o i := by
  unfold State.takeDose
  split
  · exact k
  · next fresh =>
    dsimp only
    have e : (if s.discharge.gap a q then s.raisePart .rejectGap (some st) none else s).Upholds .settled o i := by
      split
      · exact k.raisePart _ _ _
      · exact k
    have d : (if s.discharge.gap a q then s.raisePart .rejectGap (some st) none else s).discharge = s.discharge := by
      split
      · simp
      · rfl
    generalize (if s.discharge.gap a q then s.raisePart .rejectGap (some st) none else s) = u at e d ⊢
    have w := e.discharge { u.discharge with lastSeq := u.discharge.lastSeq.set a (some q) } fun x => x
    split
    · next r =>
      refine w.schedule ⟨d ▸ master, Verdict.rejected_ne r, fun x hx c => fresh ?_⟩
      simp only [Discharge.duplicate, Bool.or_eq_true, List.any_eq_true]
      refine Or.inl ⟨x, d ▸ hx, ?_⟩
      simp [c.1, c.2]
    · exact w

theorem State.Upholds.takeOwn (k : s.Upholds .settled o i) (d : DoseReport) : (s.takeOwn d).Upholds .settled o i := by
  unfold State.takeOwn
  split
  · next h => exact k.takeDose h.1 _ _ _ _ _ _
  · exact k

theorem State.Upholds.dueTest (k : s.Upholds l o i) (p : Pos) : (s.dueTest p).Upholds l o i := by
  refine k.discharge _ fun x => ?_
  have suf := dueSplit_suffix s.tracker.cpr (absolute s.tracker.cpr p) s.discharge.schedule
  obtain ⟨k1, k2, k3, k4⟩ := x
  refine ⟨Nat.le_trans suf.length_le k1, fun e he => k2 e (suf.mem he), k3.sublist suf.sublist, fun m => ?_⟩
  exact List.eq_nil_of_length_eq_zero (Nat.le_zero.mp (Nat.le_trans suf.length_le (by rw [k4 m]; rfl)))

theorem State.Upholds.place (k : s.Upholds l o i) {r : Report} (kind : ReportKind)
    (prio : r.prio = s.reports.prioOf kind) (pos : s.reports.prioOf kind ≠ 0) :
    ({ s with reports := s.reports.place r } : State).Upholds l o i := by
  refine k.reports _ fun ⟨h1, h2, h3, h4⟩ => ⟨?_, ReportQueue.place_ordered _ h2, fun x hx => ?_, fun kd => ?_⟩
  · exact ReportQueue.place_length _ h1 (by rw [prio]; exact Nat.le_succ_of_le (h4 _))
  · rcases ReportQueue.mem_place hx with rfl | hx
    · rw [prio]; exact ⟨Nat.pos_of_ne_zero pos, h4 _⟩
    · exact h3 x hx
  · show (s.reports.place r).prioOf kd ≤ 3
    unfold ReportQueue.prioOf
    rw [ReportQueue.place_prios]
    exact h4 kd

theorem State.takeOwn_prioOf (s : State) (d : DoseReport) (k : ReportKind) :
    (s.takeOwn d).reports.prioOf k = s.reports.prioOf k := by
  unfold ReportQueue.prioOf
  rw [(Keeps.takeOwn (.refl s) d).prios]

theorem State.Upholds.createDose (k : s.Upholds .settled o i) (r : DoseRecord) (st : Nat) (p : Pos) :
    (s.createDose r st p).Upholds .settled o i := by
  unfold State.createDose
  dsimp only
  split
  · exact k
  · next pos =>
    have e := k.reports { s.reports with doseSeq := (s.reports.doseSeq + 1) % 65536 } fun x => x
    split
    · exact (e.takeOwn _).place .dose (by rw [State.takeOwn_prioOf]; rfl)
        (by rw [State.takeOwn_prioOf]; exact pos)
    · exact State.Upholds.takeOwn (e.place .dose rfl pos) _

theorem State.Upholds.emit (k : s.Upholds .settled o i) (h : HeadId) (p : Pos) :
    (s.emit h p).Upholds .settled o i := by
  unfold State.emit
  split
  · exact (k.createDose _ _ _).updHead {}
  · exact k

/-! ### Emission does not reach a head that is neither RUNNING nor SEATING -/

theorem State.schedule_unreached {h : HeadId} (n : (s.head h).abortable = false) (e : RejectEntry) :
    s.Spares (s.schedule e) h := by
  unfold State.schedule
  split
  · exact State.raisePart_unreached _ _ _ n
  · split
    · exact State.raisePart_unreached _ _ _ n
    · exact .of_eq rfl

theorem State.takeDose_unreached {h : HeadId} (n : (s.head h).abortable = false) (a : Fin 15) (q st c : Nat)
    (v : Verdict) (p : Pos) : s.Spares (s.takeDose a q st c v p) h := by
  unfold State.takeDose
  split
  · exact .refl _ _
  · dsimp only
    have told : s.Spares (if s.discharge.gap a q then s.raisePart .rejectGap (some st) none else s) h := by
      split
      · exact State.raisePart_unreached _ _ _ n
      · exact .refl _ _
    generalize (if s.discharge.gap a q then s.raisePart .rejectGap (some st) none else s) = u at told ⊢
    have stored : s.Spares { u with discharge := { u.discharge with lastSeq := u.discharge.lastSeq.set a (some q) } } h :=
      told.trans (.of_eq rfl)
    split
    · exact stored.trans (State.schedule_unreached (stored.abortable.trans n) _)
    · exact stored

theorem State.takeOwn_unreached {h : HeadId} (n : (s.head h).abortable = false) (d : DoseReport) :
    s.Spares (s.takeOwn d) h := by
  unfold State.takeOwn
  split
  · exact State.takeDose_unreached n _ _ _ _ _ _
  · exact .refl _ _

theorem State.createDose_unreached {h : HeadId} (n : (s.head h).abortable = false) (r : DoseRecord) (st : Nat)
    (p : Pos) : s.Spares (s.createDose r st p) h := by
  unfold State.createDose
  dsimp only
  split
  · exact .refl _ _
  · have counted : s.Spares { s with reports := { s.reports with doseSeq := (s.reports.doseSeq + 1) % 65536 } } h :=
      .of_eq rfl
    split
    · exact (counted.trans (State.takeOwn_unreached (counted.abortable.trans n) _)).trans (.of_eq rfl)
    · refine (State.Spares.trans ?_ (State.takeOwn_unreached (h := h) ?_ _))
      · exact .of_eq rfl
      · exact n

theorem State.emit_unreached {h : HeadId} (n : (s.head h).abortable = false) (g : HeadId) (p : Pos) :
    (s.head h).Alike ((s.emit g p).head h) := by
  unfold State.emit
  split
  · next r _ =>
    refine .trans (State.createDose_unreached n r (s.station g) p).alike ?_
    rw [State.head_updHead_eq]
    split <;> exact {}
  · exact .refl _

/-! ### Entry to OFF (R72) and the end of a safe close (R65, R73) -/

theorem State.updHead_id (s : State) (h : HeadId) : (s.updHead h fun c => c) = s := by
  have e : (s.updHead h fun c => c).heads = s.heads :=
    State.heads_ext fun g => by rw [State.head_updHead_eq]; split <;> rfl
  show { s with heads := (s.updHead h fun c => c).heads } = s
  rw [e]

/-- A head that is not pinned enters OFF; what its context held before is forgotten. -/
theorem State.Upholds.retire {h : HeadId} (k : s.Upholds l o i) (f : Head → Head)
    (pins : (s.head h).state.pins = false) (lock : ∀ t, s.Beside t → (∀ g, g ≠ h → (s.head g).Alike (t.head g)) →
      (t.head h).state ≠ .lockout → s.LockOwed l → t.LockOwed l') :
    ((s.updHead h f).enterOff h).Upholds l' o i := by
  have other : ∀ g, g ≠ h → (s.head g).Alike (((s.updHead h f).enterOff h).head g) := by
    intro g hg
    rw [State.enterOff_head, if_neg hg, State.head_updHead_ne _ _ hg]
    exact .refl _
  have self : ((s.updHead h f).enterOff h).head h =
      ({ f (s.head h) with state := .off, level := 0 } : Head).offContext := by
    rw [State.enterOff_head, if_pos rfl, State.head_updHead]
  have b : s.Beside ((s.updHead h f).enterOff h) := .of_faults (by simp) (by simp) (by simp)
  have notRun : (s.head h).state ≠ .running := by intro e; rw [e] at pins; cases pins
  refine k.move b (lock _ b other (by rw [self]; simp [Head.offContext, Head.blank])) (·.change other fun _ => ?_)
    (fun k1 k2 => State.users_keep (by simp) (fun g => ?_) (fun g => ?_) k1 k2) (fun u => ?_)
  · rw [self]; exact .of_notRunning (by simp [Head.offContext, Head.blank]) rfl rfl
  · by_cases e : g = h
    · rw [e, self, k2.notPinned pins]; rfl
    · exact (other g e).pin
  · by_cases e : g = h
    · rw [e, self, pins]; rfl
    · rw [(other g e).state]
  · have urgent : ((s.updHead h f).enterOff h).scanner.urgent = s.scanner.urgent.filter fun x => x != h := by
      simp [State.enterOff]
    have idle : ((s.updHead h f).enterOff h).scanner.inFlight = none → s.scanner.inFlight = none := by
      intro e
      simp only [State.enterOff, State.markInFlight, Option.map_eq_none_iff] at e
      exact (State.changeState_idle (s.updHead h f) h .off).mp e
    obtain ⟨u1, u2, u3⟩ := u
    refine ⟨by rw [urgent]; exact u1.filter _, fun g hg => ?_, fun e g => ?_⟩
    · rw [urgent, List.mem_filter] at hg
      rw [(other g (by simpa using hg.2)).state]
      exact u2 g hg.1
    · by_cases x : g = h
      · rw [x, self]; rfl
      · rw [(other g x).state]; exact u3 (idle e) g

theorem State.Upholds.enterOff {h : HeadId} (k : s.Upholds l o i) (pins : (s.head h).state.pins = false)
    (lockout : (s.head h).state ≠ .lockout) : (s.enterOff h).Upholds l o i := by
  have e := k.retire (l' := l) (fun c => c) pins fun t b other into x =>
    x.count b (State.lockoutCount_eq (fun g hg => (other g hg).state) lockout into)
  rwa [State.updHead_id] at e

/-- A head leaves ABORTING, FORCED or LOCKOUT. -/
theorem State.Upholds.leaveSafeClose {h : HeadId} (k : s.Upholds l o i)
    (from_ : (s.head h).state = .aborting ∨ (s.head h).state = .forced ∨ (s.head h).state = .lockout)
    (lock : ∀ t, s.Beside t → (∀ g, g ≠ h → (s.head g).Alike (t.head g)) →
      (t.head h).state ≠ .lockout → s.LockOwed l → t.LockOwed l') :
    (s.leaveSafeClose h).Upholds l' o i := by
  have off : (s.head h).state ≠ .off := by rcases from_ with e | e | e <;> simp [e]
  have pins : (s.head h).state.pins = false := by rcases from_ with e | e | e <;> rw [e] <;> rfl
  have rest : ∀ st : HeadState, st.pins = false → st ≠ .off → st ≠ .lockout → st.level = 0 → st.valves = .rest →
      (((s.updHead h fun c => { c with ventTimer := none, valves := .rest }).changeState h st).post h).Upholds
        l' o i := by
    intro st p no nl level valves
    have turns : s.Turns ((s.updHead h fun c => { c with ventTimer := none, valves := .rest }).changeState h st) h :=
      { toBeside := .of_faults (by simp) (by simp) (by simp)
        other := fun g hg => by rw [State.changeState_head_ne _ _ hg, State.head_updHead_ne _ _ hg]; exact .refl _
        urgent := by simp
        idle := by simp }
    have self := State.changeState_head_self (s.updHead h fun c => { c with ventTimer := none, valves := .rest }) h st
    refine State.Upholds.post (k.turn turns (by simp) ?_ ?_ off (by rw [self]; exact no) (fun _ => ?_)
      (lock _ turns.toBeside turns.other (by rw [self]; exact nl))) h
    · rw [self, State.head_updHead]
    · rw [self, pins]; exact p
    · rw [self, State.head_updHead]
      exact .of_notRunning (by rintro rfl; cases p) (by simp) valves.symm
  unfold State.leaveSafeClose
  dsimp only
  split
  · exact rest .done rfl (by decide) (by decide) rfl rfl
  · split
    · exact k.retire _ pins lock
    · exact rest .idle rfl (by decide) (by decide) rfl rfl

/-! ### Crossings of a cycle (R46 to R49, R61) -/

theorem State.Upholds.seatWindowEnd (k : s.Upholds l o i) (h : HeadId) : (s.seatWindowEnd h).Upholds l o i := by
  unfold State.seatWindowEnd
  split
  · next e => exact k.giveUpSeating e _ _
  · exact k

theorem State.changeState_turns (s : State) (h : HeadId) (st : HeadState) : s.Turns (s.changeState h st) h where
  toBeside := .of_faults (by simp) (by simp) (by simp)
  other g hg := by rw [State.changeState_head_ne _ _ hg]; exact .refl _
  urgent := by simp
  idle := by simp

/-- A change between two states that command the rest pattern. -/
theorem State.Upholds.changeRest {h : HeadId} (k : s.Upholds l o i) {st : HeadState}
    (from_ : (s.head h).state.pins = false ∧ (s.head h).state ≠ .off ∧ (s.head h).state ≠ .lockout ∧
      (s.head h).state.valves = .rest)
    (into : st.pins = false ∧ st ≠ .off ∧ st ≠ .lockout ∧ st.valves = .rest) :
    (s.changeState h st).Upholds l o i := by
  obtain ⟨p, f, fl, v⟩ := from_
  obtain ⟨p', f', fl', v'⟩ := into
  have self := s.changeState_head_self h st
  refine k.turn (s.changeState_turns h st) (by simp) (by rw [self]) (by rw [self, p, p']) f (by rw [self]; exact f')
    (fun c => ?_) ((s.changeState_turns h st).lock fl (by rw [self]; exact fl'))
  rw [self]
  have notRun : (s.head h).state ≠ .running := by intro e; rw [e] at p; cases p
  refine .of_notRunning (by rintro rfl; cases p') rfl ?_
  rw [v', ← v]
  exact (c.notRunning notRun).2.1 notRun

theorem State.Upholds.rideOut {h : HeadId} (k : s.Upholds .settled o i) (p : Pos)
    (from_ : (s.head h).state = .done ∨ (s.head h).state = .emptyPass) : (s.rideOut h p).Upholds .settled o i := by
  have n : (s.head h).abortable = false := by unfold Head.abortable; rcases from_ with e | e <;> rw [e] <;> rfl
  have st := (State.emit_unreached n h p).state
  have e := k.emit h p
  unfold State.rideOut
  dsimp only
  split
  · refine e.enterOff ?_ ?_ <;> rw [st] <;> rcases from_ with x | x <;> rw [x] <;> decide
  · refine e.changeRest ?_ (by decide)
    rw [st]
    rcases from_ with x | x <;> rw [x] <;> decide

theorem Head.withRecord_alike (c : Head) (v : Verdict) (k : Option SkipReason) (p : Option Pin) :
    c.Alike (c.withRecord v k p) := by
  unfold Head.withRecord
  split <;> exact {}

theorem State.Upholds.forcedDischarge {h : HeadId} (k : s.Upholds .settled o i) (p : Pos)
    (run : (s.head h).state = .running) : (s.forcedDischarge h p).Upholds .settled o i := by
  unfold State.forcedDischarge
  dsimp only
  refine State.Upholds.afterHeadRaise (State.Upholds.entered (State.Upholds.emit ?_ h p)) _ _
  refine State.Upholds.updHead ?_ (Head.withRecord_alike _ _ _ _)
  refine State.Upholds.releaseForced ?_ ?_
  · exact ((k.takeHeadRaise h _).pushSnapshot h _).updHead {}
  · rw [State.head_updHead]
    show ((State.pushSnapshot _ h _).head h).state.pins = true
    rw [State.pushSnapshot_head]
    show (((s.latchReport _ _ _).updHead h _).head h).state.pins = true
    rw [State.head_updHead, State.latchReport_head]
    show (s.head h).state.pins = true
    rw [run]
    rfl

theorem State.seatWindowEnd_state (seat : (s.head h).state = .seating) :
    ((s.seatWindowEnd h).head h).state = .emptyPass := by
  unfold State.seatWindowEnd
  rw [if_pos seat, State.giveUpSeating_head, if_pos rfl]
  simp

theorem State.Upholds.dischargeCrossing (k : s.Upholds .settled o i) (h : HeadId) (p : Pos) :
    (s.dischargeCrossing h p).Upholds .settled o i := by
  unfold State.dischargeCrossing
  split
  · next e => exact k.rideOut p (Or.inl e)
  · next e => exact k.rideOut p (Or.inr e)
  · exact k.emit h p
  · exact k.emit h p
  · exact k.emit h p
  · next e => exact (k.seatWindowEnd h).rideOut p (Or.inr (State.seatWindowEnd_state e))
  · next e => exact k.forcedDischarge p e
  · exact k
  · exact k

theorem State.Upholds.skipCycle {h : HeadId} (k : s.Upholds l o i) (idle : (s.head h).state = .idle) (r : SkipReason) :
    (s.skipCycle h r).Upholds l o i := by
  refine State.Upholds.updHead (k.changeRest ?_ (by decide)) (Head.withRecord_alike _ _ _ _)
  rw [idle]
  decide

/-- A head that claims a pin on the ACTIVE slot and enters SEATING (R36, R46). -/
theorem State.Upholds.claim {h : HeadId} {pin : Pin} (k : s.Upholds l o i) (idle : (s.head h).state = .idle)
    (claimed : s.pinClaim = some (pin, t)) :
    ((t.changeState h .seating).updHead h fun c => { c with pin := some pin }).Upholds l o i := by
  unfold State.pinClaim at claimed
  split at claimed
  case h_2 => cases claimed
  next j active =>
  simp only [Option.some.injEq, Prod.mk.injEq] at claimed
  obtain ⟨rfl, rfl⟩ := claimed
  have act := State.activeSlot_state active
  generalize hu : (((s.setSlot j { s.slot j with users := (s.slot j).users + 1 }).changeState h .seating).updHead h
    fun c => { c with pin := some ⟨j, (s.slot j).gen, (s.slot j).profile.getD 0⟩ }) = u
  have other : ∀ g, g ≠ h → (s.head g).Alike (u.head g) := by
    intro g hg
    rw [← hu, State.head_updHead_ne _ _ hg, State.changeState_head_ne _ _ hg]
    exact .refl _
  have self : u.head h =
      { s.head h with
        state := .seating, level := 0, pin := some ⟨j, (s.slot j).gen, (s.slot j).profile.getD 0⟩ } := by
    rw [← hu, State.head_updHead, State.changeState_head_self]
    rfl
  have slot : ∀ x, u.slot x = if x = j then { s.slot j with users := (s.slot j).users + 1 } else s.slot x := by
    intro x
    rw [← hu, State.updHead_slot, State.changeState_slot, State.slot_setSlot_eq]
  have verifier : u.store.verifier = s.store.verifier := by rw [← hu]; simp
  have b : s.Beside u := by rw [← hu]; exact .of_faults (by simp) (by simp) (by simp)
  refine k.move b (·.count b (State.lockoutCount_eq (fun g hg => (other g hg).state) (by simp [idle]) (by simp [self])))
    (·.change other fun c => ?commands) (fun k1 k2 => ?users)
    (·.change (by rw [← hu]; simp) (by rw [← hu]; simp) (fun g hg => (other g hg).state) (by simp [idle]) (by simp [self]))
  case commands =>
    have v := (c.notRunning (h := h) (by simp [idle])).2.1 (by simp [idle])
    rw [idle] at v
    rw [self]
    exact .of_notRunning (by simp) rfl v
  case users =>
    have state : ∀ x, (u.slot x).state = (s.slot x).state := by
      intro x; rw [slot]; split
      · next e => rw [e]
      · rfl
    have none_ := k2.notPinned (h := h) (by rw [idle]; rfl)
    obtain ⟨u1, u2, u3, u4⟩ := k2
    refine ⟨fun x y hx hy => k1 x y (state x ▸ hx) (state y ▸ hy), fun x => ?_, fun g => ?_, fun x hx => ?_, fun x => ?_⟩
    · have e := State.pinned_change (s := s) (t := u) (h := h) x fun g hg => (other g hg).pin
      rw [none_, self] at e
      have e1 := u1 x
      rw [slot]
      by_cases y : x = j
      · subst y
        simp at e
        rw [if_pos rfl]
        show (s.slot x).users + 1 = _
        omega
      · have z : (some j == some x) = false := by simpa using Ne.symm y
        simp only [Option.map_none, Option.map_some, z] at e
        rw [if_neg y]
        simp at e
        omega
    · by_cases y : g = h
      · rw [y, self]; rfl
      · rw [(other g y).pin, (other g y).state]; exact u2 g
    · rw [state] at hx
      rw [slot, if_neg]
      · exact u3 x hx
      · rintro rfl; rw [act] at hx; simp at hx
    · rw [state, verifier]; exact u4 x

theorem State.Upholds.beginCycle {h : HeadId} (k : s.Upholds l o i) (idle : (s.head h).state = .idle) :
    (s.beginCycle h).Upholds l o i := by
  have turns : s.Turns (s.updHead h Head.beginCycle) h :=
    { other := fun g hg => by rw [State.head_updHead_ne _ _ hg]; exact .refl _, urgent := rfl, idle := Iff.rfl }
  have st : ((s.updHead h Head.beginCycle).head h).state = .idle := by rw [State.head_updHead]; exact idle
  have e : (s.updHead h Head.beginCycle).Upholds l o i := by
    refine k.turn turns rfl (by rw [State.head_updHead]; rfl) (by rw [st, idle]) (by simp [idle]) (by rw [st]; decide)
      (fun c => ?_) (turns.lock (by simp [idle]) (by rw [st]; decide))
    have q := c.notRunning (h := h) (by simp [idle])
    refine .of_notRunning (by rw [st]; decide) ?_ ?_
    · rw [State.head_updHead]; exact q.1
    · rw [State.head_updHead]; exact q.2.1 (by simp [idle])
  unfold State.beginCycle
  dsimp only
  split
  · exact e.skipCycle st _
  · split
    · next claimed => exact e.claim st claimed
    · exact e.skipCycle st _

theorem Head.passInfeed_alike (c : Head) (v : Verdict) : c.Alike (c.passInfeed v) := by
  unfold Head.passInfeed
  dsimp only
  split
  · exact {}
  · exact .trans (d := ({ c with cycle := (c.cycle + 1) % 65536 } : Head).beginMetering) {} (Head.withRecord_alike _ _ _ _)

theorem State.Upholds.atInfeed (k : s.Upholds l o i) (h : HeadId) : (s.atInfeed h).Upholds l o i := by
  have e : (s.updHead h fun c => { c with lastFault := none }).Upholds l o i := k.updHead {}
  unfold State.atInfeed
  dsimp only
  split
  · split
    · next st => exact e.beginCycle st
    · exact e.updHead (Head.passInfeed_alike _ _)
    · exact e.updHead (Head.passInfeed_alike _ _)
    · exact e.updHead (Head.passInfeed_alike _ _)
    · exact e
  · exact e

theorem State.Upholds.infeedCrossing (k : s.Upholds .settled o i) (h : HeadId) (p : Pos) :
    (s.infeedCrossing h p).Upholds .settled o i := by
  have all := ((k.seatWindowEnd h).dischargeCrossing h p).atInfeed h
  unfold State.infeedCrossing
  split
  · exact all
  · exact all
  · exact all
  · exact all
  · exact k.atInfeed h

end
end Sys2Proof.Machine

/-! PROOFS. The laws through the segments of a RUNNING head (R50 to R57), its walk (R15 to R17) and the exchanges of the
valve bus (R80, R102 to R109). -/

namespace Sys2Proof.Machine

section
/- One proof at a time: side by side they wait for one another, each in a thread with a stack of its own. -/
set_option Elab.async false
variable {s t : State} {l l' : LockDebt} {o o' : Option HeadId} {i : Law} {h : HeadId}

/-! ### A RUNNING head whose context changes -/

theorem State.setHead_turns (s : State) (h : HeadId) (c : Head) : s.Turns (s.setHead h c) h where
  other g hg := by rw [State.head_setHead_ne _ _ hg]; exact .refl _
  urgent := rfl
  idle := Iff.rfl

/-- A RUNNING head stays RUNNING with its pin and takes a new segment context. -/
theorem State.Upholds.reset (k : s.Upholds l o i) (run : (s.head h).state = .running) {c : Head}
    (state : c.state = (s.head h).state) (pin : c.pin = (s.head h).pin)
    (commands : s.CommandsLoose o → c.Commands) : (s.setHead h c).Upholds l o i := by
  have st : ((s.setHead h c).head h).state = .running := by rw [State.head_setHead, state, run]
  exact k.turn (s.setHead_turns h c) rfl (by rw [State.head_setHead, pin]) (by rw [st, run]) (by simp [run])
    (by rw [st]; decide) (fun e => by rw [State.head_setHead]; exact commands e)
    ((s.setHead_turns h c).lock (by simp [run]) (by rw [st]; decide))

/-- A head that is not RUNNING, or that commands its segment, is loose no more. -/
theorem State.Upholds.tighten (k : s.Upholds l (some h) i)
    (e : s.CommandsLoose (some h) → (s.head h).Commands) : s.Upholds l none i := by
  cases i with
  | commands =>
    intro g
    by_cases x : g = h
    · exact Or.inl (x ▸ e k)
    · rcases k g with k | k
      · exact Or.inl k
      · exact absurd (Option.some.inj k.1).symm x
  | stops => cases l <;> exact k
  | _ => exact k

theorem State.Upholds.loosen (k : s.Upholds l none i) : s.Upholds l o i := by
  cases i with
  | commands =>
    intro g
    rcases k g with k | k
    · exact Or.inl k
    · cases k.1
  | stops => cases l <;> exact k
  | _ => exact k

/-! ### Starting a segment (R50, R51) -/

/-- The pattern of a kind, with its aperture, is a command of that kind. -/
theorem Head.startSegment_commands {c : Head} (run : c.state = .running) (level : c.level = c.state.level) (w : Work)
    (θ : Nat) : (c.startSegment w θ).Commands := by
  refine ⟨level, fun n => absurd run n, fun _ => Or.inr ⟨rfl, w, rfl, ?_, ?_⟩⟩
  · show (w.record.kind.pattern (min c.valves.l w.record.aperture)).l ≤ w.record.aperture
    cases w.record.kind <;> simp [SegKind.pattern]
  · show w.record.kind.pattern (min c.valves.l w.record.aperture) =
      match w.record.kind with
      | .purge => _ | .pressurize => _ | .syrup => _ | .fill | .trim => _ | .settle => _ | .snift => _
    cases e : w.record.kind <;> simp [SegKind.pattern, Head.startSegment, e]

theorem State.Upholds.corrupt {p : Pin} (k : s.Upholds l o i) (pin : (s.head h).pin = some p) :
    (s.setSlot p.slot { s.slot p.slot with state := .corrupt }).Upholds l o i := by
  refine k.store { s.store with slots := s.store.slots.set p.slot { s.slot p.slot with state := .corrupt } }
    fun k1 k2 => ?_
  change (s.setSlot p.slot { s.slot p.slot with state := .corrupt }).OneActive ∧
    (s.setSlot p.slot { s.slot p.slot with state := .corrupt }).UsersCounted
  have pos := k2.pos pin
  obtain ⟨u1, u2, u3, u4⟩ := k2
  refine ⟨fun x y hx hy => ?_, fun x => ?_, u2, fun x => ?_, fun x => ?_⟩
  · rw [State.slot_setSlot_eq] at hx hy
    split at hx
    · cases hx
    · split at hy
      · cases hy
      · exact k1 x y hx hy
  · rw [State.slot_setSlot_eq]
    split
    · next e => subst e; exact u1 _
    · exact u1 x
  · rw [State.slot_setSlot_eq]
    split
    · intro c; simp at c
    · exact u3 x
  · rw [State.slot_setSlot_eq]
    split
    · next e =>
      subst e
      have n : (s.slot p.slot).state ≠ .verifying := fun v => by
        have := u3 p.slot (Or.inr (Or.inr v))
        omega
      exact ⟨fun c => (by simp at c), fun c => absurd ((u4 p.slot).mpr c) n⟩
    · exact u4 x

theorem State.Upholds.profileParity {p : Pin} (k : s.Upholds .settled o i) (pin : (s.head h).pin = some p) :
    (s.profileParity h p.slot).Upholds .settled o i := by
  unfold State.profileParity
  exact ((k.corrupt pin).raiseHead h _).raisePart _ _ _

theorem State.Upholds.startTest (k : s.Upholds .settled o i) (run : (s.head h).state = .running) (θ : Option Nat) :
    (s.startTest h θ).Upholds .settled o i := by
  unfold State.startTest
  dsimp only
  split
  · exact k
  · next p pin =>
    split
    · exact k.raiseHead h _
    · split
      · split
        · exact k.profileParity pin
        · split
          · split
            · exact k.reset run rfl rfl fun c => Head.startSegment_commands run (c.level h) _ _
            · exact k
          · exact k
      · exact k

theorem Head.inPhase_iff (c : Head) (p : Phase) : c.inPhase p = true ↔ c.state = .running ∧ c.phase = some p := by
  simp [Head.inPhase]

theorem State.Upholds.pendingTest (k : s.Upholds .settled o i) (h : HeadId) (θ : Option Nat) :
    (s.pendingTest h θ).Upholds .settled o i := by
  unfold State.pendingTest
  split
  · next e =>
    have st := k.startTest ((Head.inPhase_iff _ _).mp e).1 θ
    dsimp only
    split
    · exact st.post h
    · exact st
  · exact k

/-! ### Ending a segment (R56, R57) -/

theorem State.Upholds.endedSegment (k : s.Upholds l none i) (run : (s.head h).state = .running) (kd : SegKind) (θ : Nat) :
    (s.updHead h fun c => c.endSegment kd θ).Upholds l (some h) i := by
  have turns : s.Turns (s.updHead h fun c => c.endSegment kd θ) h :=
    { other := fun g hg => by rw [State.head_updHead_ne _ _ hg]; exact .refl _, urgent := rfl, idle := Iff.rfl }
  by_cases n : i = .commands
  · subst n
    intro g
    by_cases e : g = h
    · subst e
      refine Or.inr ⟨rfl, ?_, ?_, ?_⟩ <;> rw [State.head_updHead]
      · exact State.CommandsLoose.level k g
      · exact run
      · rfl
    · rw [State.head_updHead_ne _ _ e]
      rcases k g with k | k
      · exact Or.inl k
      · cases k.1
  · have m : ∀ j : Law, j ≠ .commands → ∀ u : State, u.Upholds l none j → u.Upholds l (some h) j := by
      intro j hj u hu
      cases j with
      | commands => exact absurd rfl hj
      | stops => cases l <;> exact hu
      | _ => exact hu
    refine m i n _ ?_
    have c := State.users_keep (s := s) (t := s.updHead h fun c => c.endSegment kd θ) rfl
      (fun g => by rw [State.head_updHead_eq]; split <;> rfl) (fun g => by rw [State.head_updHead_eq]; split <;> rfl)
    cases i with
    | commands => exact absurd rfl n
    | users => exact c k.1 k.2
    | urgent =>
      exact State.UrgentOnce.states (s := s) rfl id (fun g => by rw [State.head_updHead_eq]; split <;> exact Iff.rfl) k
    | stops =>
      exact ⟨k.1, State.LockOwed.count turns.toBeside (State.lockoutCount_congr fun g => by
        rw [State.head_updHead_eq]; split <;> rfl) k.2⟩
    | _ => exact k

theorem Head.judge_alike (c : Head) (hd : Header) (n : Nat) : c.Alike (c.judge hd n) := by
  have r := Head.withRecord_alike c (verdictOf hd c.liquidVolume c.syrupVolume) none c.pin
  unfold Head.judge
  dsimp only
  split
  · exact r.trans {}
  · exact r

theorem State.Upholds.finishCycle (k : s.Upholds l o i) (run : (s.head h).state = .running) (hd : Header) :
    (s.finishCycle h hd).Upholds l o i := by
  unfold State.finishCycle
  dsimp only
  generalize hj : ((s.updHead h fun c => { c with valves := .rest, arm := none }).updHead h
    fun c => c.judge hd (s.updHead h fun c => { c with valves := .rest, arm := none }).meterUnit.weight) = j
  have judged : ({ s.head h with valves := .rest, arm := none } : Head).Alike (j.head h) := by
    rw [← hj, State.head_updHead, State.head_updHead]
    exact Head.judge_alike _ _ _
  have other : ∀ g, g ≠ h → j.head g = s.head g := by
    intro g hg
    rw [← hj, State.head_updHead_ne _ _ hg, State.head_updHead_ne _ _ hg]
  have same : s.Beside j ∧ j.store = s.store ∧ j.scanner = s.scanner := by rw [← hj]; exact ⟨{}, rfl, rfl⟩
  obtain ⟨b, st, sc⟩ := same
  have b' : j.Beside (((j.releasePin h).changeState h .done).updHead h Head.withoutSegment) :=
    .of_faults (by simp) (by simp) (by simp)
  have self : (((j.releasePin h).changeState h .done).updHead h Head.withoutSegment).head h =
      ({ j.head h with pin := none, state := .done, level := 0 } : Head).withoutSegment := by
    rw [State.head_updHead, State.changeState_head_self, State.releasePin_head_self]
    rfl
  refine State.Upholds.post (k.give (h := h)
    { mode := b'.mode.trans b.mode, limit := b'.limit.trans b.limit, stops := fun c x => b.stops c (b'.stops c x)
      condition := b'.condition.trans b.condition, snapshots := b'.snapshots.trans b.snapshots
      schedule := b'.schedule.trans b.schedule, master := b'.master.trans b.master
      queue := b'.queue.trans b.queue, prios := b'.prios.trans b.prios
      other := ?other, urgent := by simp [sc], idle := by simp [sc] }
    (by rw [run]; rfl) (by rw [self]; exact ⟨rfl, by simp [Head.withoutSegment], by simp [Head.withoutSegment]⟩)
    (by rw [self]; rfl) ?slots (by simp [st]) fun _ => ?commands) h
  case other =>
    intro g hg
    rw [State.head_updHead_ne _ _ hg, State.changeState_head_ne _ _ hg, State.releasePin_head_ne _ hg, other g hg]
    exact .refl _
  case slots =>
    intro p hp x
    rw [State.updHead_slot, State.changeState_slot, State.releasePin_slot (p := p) (by rw [judged.pin]; exact hp),
      State.slot_congr st, State.slot_congr st]
    split
    · next e => rw [e]
    · rfl
  case commands =>
    rw [self]
    exact .of_notRunning (by simp [Head.withoutSegment]) rfl (by
      show (j.head h).valves = _
      rw [judged.valves]
      rfl)

/-- A RUNNING head that has no ACTIVE segment may be given the rest pattern: its segment is PENDING. -/
theorem State.CommandsLoose.rest (k : s.CommandsLoose o) (run : (s.head h).state = .running)
    (passive : ¬(s.head h).inPhase .active = true) : ({ s.head h with valves := .rest } : Head).Commands := by
  refine ⟨k.level h, fun n => absurd run n, fun _ => Or.inl ⟨?_, rfl⟩⟩
  show (s.head h).phase = some .pending
  rcases k h with c | ⟨-, -, -, pending⟩
  · rcases c.2.2 run with pending | active
    · exact pending.1
    · exact absurd ((Head.inPhase_iff _ _).mpr ⟨run, active.1⟩) passive
  · exact pending

theorem State.Upholds.afterEnd (k : s.Upholds .settled (some h) i) (hd : Header) (θ : Nat) :
    (s.afterEnd h hd θ).Upholds .settled none i := by
  have done : ∀ u : State, u.Upholds .settled (some h) i → (u.head h).state ≠ .running →
      u.Upholds .settled none i := fun u ku n => ku.tighten fun c => c.notRunning n
  unfold State.afterEnd
  split
  · next run =>
    split
    · refine done _ (k.finishCycle run hd) ?_
      unfold State.finishCycle
      dsimp only
      rw [State.post_field Head.state (fun _ => rfl), State.head_updHead]
      simp [Head.withoutSegment, State.changeState_head_self]
    · have e := k.startTest run (some θ)
      generalize s.startTest h (some θ) = u at e ⊢
      dsimp only
      split
      · next run' =>
        refine State.Upholds.post ?_ h
        split
        · next active =>
          refine e.tighten fun c => ?_
          rcases c h with c | ⟨-, -, -, p⟩
          · exact c
          · rw [((Head.inPhase_iff _ _).mp active).2] at p; cases p
        · next passive =>
          refine State.Upholds.tighten (h := h) (e.reset run' rfl rfl fun c => c.rest run' passive) fun c => ?_
          have r := c.rest (h := h) (by rw [State.head_updHead]; exact run') (by rw [State.head_updHead]; exact passive)
          rw [State.head_updHead] at r ⊢
          exact r
      · next n => exact done _ e n
  · next n => exact done _ k n

theorem State.Upholds.endSegment (k : s.Upholds .settled none i) (run : (s.head h).state = .running) (w : Work)
    (θ : Nat) : (s.endSegment h w θ).Upholds .settled none i :=
  (k.endedSegment run _ θ).afterEnd w.header θ

theorem State.Upholds.zoneCut (k : s.Upholds .settled none i) (run : (s.head h).state = .running) (w : Work)
    (θ : Nat) : (s.zoneCut h w θ).Upholds .settled none i := by
  unfold State.zoneCut
  refine State.Upholds.afterEnd ?_ w.header θ
  split
  · exact (k.endedSegment run _ θ).raiseHead h _
  · exact k.endedSegment run _ θ

theorem State.Upholds.statusEnd (k : s.Upholds .settled none i) (run : (s.head h).state = .running) (θ : Nat) (obs : Obs)
    (a : Option Arm) : (s.statusEnd h θ obs a).Upholds .settled none i := by
  unfold State.statusEnd
  split
  · split
    · exact State.Upholds.endSegment (k.updHead {}) (by rw [State.head_updHead]; exact run) _ θ
    · exact k
  · exact k

/-! ### The boundaries of a walk (R15, R16) -/

theorem State.Upholds.regionCrossing (k : s.Upholds .settled none i) (h : HeadId) (a : Nat) :
    (s.regionCrossing h a).Upholds .settled none i := by
  unfold State.regionCrossing
  split
  · next active =>
    split
    · split
      · exact k
      · exact k.zoneCut ((Head.inPhase_iff _ _).mp active).1 _ a
    · exact k
  · exact k

theorem Head.angleEndAt_active {c : Head} {a : Nat} (e : c.angleEndAt a = true) : c.inPhase .active = true := by
  unfold Head.angleEndAt at e
  rw [Bool.and_eq_true] at e
  exact e.1

theorem State.Upholds.angleEnd (k : s.Upholds .settled none i) {a : Nat} (at_ : (s.head h).angleEndAt a = true) :
    (s.angleEnd h a).Upholds .settled none i := by
  unfold State.angleEnd
  split
  · exact k.endSegment ((Head.inPhase_iff _ _).mp (Head.angleEndAt_active at_)).1 _ a
  · exact k

theorem State.Upholds.deadlineCrossing (k : s.Upholds .settled o i) (h : HeadId) :
    (s.deadlineCrossing h).Upholds .settled o i := (k.updHead {}).raiseHead h _

/-- A ramp step raises the aperture of a liquid segment, to its full aperture at most (R52). -/
theorem Head.Commands.ramped {c : Head} (k : c.CommandsSegment) (run : c.state = .running) (level : c.level = c.state.level)
    {w : Work} (work : c.work = some w) (fills : w.record.kind.fills = true) (active : c.phase = some .active)
    (a : Nat) :
    ({ c with
        valves := { c.valves with l := min (c.valves.l + w.record.step) w.record.aperture }
        rampPos := some a } : Head).Commands := by
  refine ⟨level, fun n => absurd run n, fun _ => Or.inr ⟨active, w, work, Nat.min_le_right _ _, ?_⟩⟩
  rcases k with ⟨pending, -⟩ | ⟨-, v, hv, -, valves⟩
  · rw [active] at pending; cases pending
  · obtain rfl : v = w := Option.some.inj (hv.symm.trans work)
    show ({ c.valves with l := _ } : Valves) = _
    rw [valves]
    cases e : v.record.kind <;> rw [e] at fills <;> simp_all [SegKind.fills]

theorem State.Upholds.rampStep (k : s.Upholds l o i) {a : Nat} (at_ : (s.head h).rampPointAt a = true) :
    (s.rampStep h a).Upholds l o i := by
  unfold State.rampStep
  split
  · next w work =>
    unfold Head.rampPointAt at at_
    rw [Bool.and_eq_true, Head.inPhase_iff] at at_
    obtain ⟨⟨run, active⟩, point⟩ := at_
    have fills : w.record.kind.fills = true := by
      rw [work] at point
      split at point
      · next e _ =>
        cases e
        simp only [Bool.and_eq_true] at point
        exact point.1.1
      · cases point
    refine k.reset run rfl rfl fun c => ?_
    rcases c h with c' | ⟨-, -, -, pending⟩
    · exact Head.Commands.ramped (c'.2.2 run) run (c.level h) work fills active a
    · rw [active] at pending; cases pending
  · exact k

theorem State.Upholds.takeBoundary (k : s.Upholds .settled o i) (h : HeadId) (a : Nat) {present : Bool}
    {effect : State → State}
    (effects : present = true → (effect s).Upholds .settled o i) :
    (s.takeBoundary h a present effect).Upholds .settled o i := by
  unfold State.takeBoundary
  split
  · next p => exact k.headEvent h fun _ => (effects p).pendingTest h _
  · exact k

theorem State.Upholds.takeAngle (k : s.Upholds .settled none i) (h : HeadId) (a : Nat) (pos : Pos) :
    (s.takeAngle h a pos).Upholds .settled none i := by
  unfold State.takeAngle
  dsimp only
  have region := k.takeBoundary h a (present := s.zones.boundary s.tracker.cpr a) (effect := fun s => s.regionCrossing h a)
    fun _ => k.regionCrossing h a
  generalize State.takeBoundary s h a _ _ = s1 at region ⊢
  have angle := region.takeBoundary h a
    (present := (s.head h).angleEndAt a && (s1.head h).segIndex == (s.head h).segIndex && (s1.head h).angleEndAt a)
    (effect := fun s => s.angleEnd h a) fun p => region.angleEnd (Bool.and_eq_true_iff.mp p).2
  generalize State.takeBoundary s1 h a _ _ = s2 at angle ⊢
  have deadline := angle.takeBoundary h a
    (present := s.deadlineAt (s.head h) a && (s2.head h).segIndex == (s.head h).segIndex && s2.deadlineAt (s2.head h) a)
    (effect := fun s => s.deadlineCrossing h) fun _ => angle.deadlineCrossing h
  generalize State.takeBoundary s2 h a _ _ = s3 at deadline ⊢
  have start := deadline.takeBoundary h a
    (present := s.startPointAt (s.head h) a && (s3.head h).segIndex == (s.head h).segIndex &&
      s3.startPointAt (s3.head h) a)
    (effect := id) fun _ => deadline
  generalize State.takeBoundary s3 h a _ _ = s4 at start ⊢
  have ramp := start.takeBoundary h a
    (present := (s.head h).rampPointAt a && (s4.head h).segIndex == (s.head h).segIndex && (s4.head h).rampPointAt a)
    (effect := fun s => s.rampStep h a) fun p => start.rampStep (Bool.and_eq_true_iff.mp p).2
  generalize State.takeBoundary s4 h a _ _ = s5 at ramp ⊢
  have seat := ramp.takeBoundary h a (present := setAngleAt s5.zones.seatEnd a)
    (effect := fun s => s.seatWindowEnd h) fun _ => ramp.seatWindowEnd h
  generalize State.takeBoundary s5 h a _ _ = s6 at seat ⊢
  have discharge := seat.takeBoundary h a (present := setAngleAt s6.zones.dischargeAngle a)
    (effect := fun s => s.dischargeCrossing h pos) fun _ => seat.dischargeCrossing h pos
  exact discharge.takeBoundary h a fun _ => discharge.infeedCrossing h pos

theorem State.Upholds.walkHead (k : s.Upholds .settled none i) (h : HeadId) (n θ : Nat) (p : Pos) :
    (State.walkHead h n θ p s).Upholds .settled none i := by
  induction n generalizing s θ p with
  | zero => exact k
  | succ n ih => exact ih (k.takeAngle h _ _) _ _

theorem State.Upholds.walkAll (k : s.Upholds .settled none i) (old : Pos) (n : Nat) :
    (s.walkAll old n).Upholds .settled none i := by
  unfold State.walkAll
  generalize s.headOrder = heads
  induction heads generalizing s with
  | nil => exact k
  | cons h rest ih =>
    refine ih ?_
    dsimp only
    split
    · split
      · exact k.walkHead h _ _ _
      · exact k
    · exact k

/-! ### What a head does with a STATUS (R48, R53, R63, R64, R80) -/

theorem State.Upholds.seat (k : s.Upholds l o i) (seat : (s.head h).state = .seating) (obs : Obs) :
    (s.seat h obs).Upholds l o i := by
  have self : (s.seat h obs).head h =
      { s.head h with
        state := .running, level := 0, bases := some ⟨obs.liquid, obs.syrup⟩, phase := some .pending
        startAngle := none } := by
    unfold State.seat
    rw [State.head_updHead, State.changeState_head_self]
    rfl
  have turns : s.Turns (s.seat h obs) h :=
    { toBeside := .of_faults (by simp [State.seat]) (by simp [State.seat]) (by simp [State.seat])
      other := fun g hg => by
        unfold State.seat
        rw [State.head_updHead_ne _ _ hg, State.changeState_head_ne _ _ hg]
        exact .refl _
      urgent := by simp [State.seat]
      idle := by simp [State.seat] }
  refine k.turn turns (by simp [State.seat]) (by rw [self]) (by rw [self, seat]; rfl) (by simp [seat])
    (by simp [self]) (fun c => ?_) (turns.lock (by simp [seat]) (by simp [self]))
  have rest := (c.notRunning (h := h) (by simp [seat])).2.1 (by simp [seat])
  rw [seat] at rest
  rw [self]
  exact ⟨rfl, fun n => absurd rfl n, fun _ => Or.inl ⟨rfl, rest⟩⟩

theorem State.Upholds.safelyClosed (k : s.Upholds l o i)
    (from_ : (s.head h).state = .aborting ∨ (s.head h).state = .forced) : (s.leaveSafeClose h).Upholds l o i := by
  refine k.leaveSafeClose (from_.elim Or.inl fun e => Or.inr (Or.inl e)) fun t b other into x =>
    x.count b (State.lockoutCount_eq (fun g hg => (other g hg).state) ?_ into)
  rcases from_ with e | e <;> simp [e]

theorem State.Upholds.headStatus (k : s.Upholds .settled none i) (h : HeadId) (obs : Obs) (a : Option Arm) :
    (s.headStatus h obs a).Upholds .settled none i := by
  unfold State.headStatus
  dsimp only
  split
  · next e =>
    split
    · exact k.seat e obs
    · exact k
  · next e =>
    split
    · split
      · exact k.statusEnd e _ obs a
      · exact k
    · exact k
  · next e =>
    split
    · exact k.safelyClosed (Or.inl e)
    · exact k
  · next e =>
    split
    · exact k.safelyClosed (Or.inr e)
    · exact k
  · exact k

theorem State.Upholds.handStatus (k : s.Upholds .settled none i) (h : HeadId) (obs : Obs) (a : Option Arm) :
    (s.handStatus h obs a).Upholds .settled none i := by
  unfold State.handStatus
  exact State.Upholds.pendingTest (State.Upholds.headStatus (k.updHead {}) h obs a) h _

theorem Head.addTotals_alike (c : Head) (a b : Nat) : c.Alike (c.addTotals a b) := by
  unfold Head.addTotals
  split <;> exact {}

theorem Head.addLeak_alike (c : Head) (n : Nat) (b : Bool) (m : Nat) : c.Alike (c.addLeak n b m).1 := by
  unfold Head.addLeak
  split <;> exact {}

theorem Head.metered_alike (m : MeterUnit) (c : Head) (obs : Obs) : c.Alike (c.metered m obs).head := by
  unfold Head.metered
  split
  · exact .refl _
  · exact (Head.addTotals_alike _ _ _).trans (Head.addLeak_alike _ _ _ _)

theorem Head.refreshRecord_alike (c : Head) : c.Alike c.refreshRecord := {}

theorem State.Upholds.raiseJumps (k : s.Upholds .settled o i) (h : HeadId) (m : Metered) :
    (s.raiseJumps h m).Upholds .settled o i := (k.raiseHeadIf _ h _).raiseHeadIf _ h _

theorem State.Upholds.raiseMetered (k : s.Upholds .settled o i) (h : HeadId) (m : Metered) :
    (s.raiseMetered h m).Upholds .settled o i := by
  unfold State.raiseMetered
  split
  · exact (k.raiseHeadIf _ h _).raiseJumps h m
  · exact (k.raiseJumps h m).raiseHeadIf _ h _

theorem State.Upholds.meterStatus (k : s.Upholds .settled none i) (h : HeadId) (obs : Obs) (a : Option Arm) :
    (s.meterStatus h obs a).Upholds .settled none i := by
  unfold State.meterStatus
  have metered := (k.setHead (Head.metered_alike s.meterUnit (s.head h) obs)).raiseMetered h
    ((s.head h).metered s.meterUnit obs)
  exact (metered.handStatus h obs a).updHead (Head.refreshRecord_alike _)

/-! ### Exchanges (R95, R97, R102 to R109) -/

theorem Head.confirmStep_alike (c : Head) (x : InFlight) (obs : Obs) : c.Alike (c.confirmStep x obs).1 := by
  unfold Head.confirmStep
  split
  · split
    · exact {}
    · split
      · exact {}
      · split <;> exact {}
  · exact {}

/-- The consecutive miss count cleared (R105). -/
def State.clearMisses (s : State) (h : HeadId) : State :=
  s.updHead h fun c => { c with scan := { c.scan with miss := 0 } }

/-- The comparison of R108 with its raise. -/
def State.compareStatus (s : State) (h : HeadId) (x : InFlight) (obs : Obs) : State :=
  (s.setHead h ((s.head h).confirmStep x obs).1).raiseHeadIf ((s.head h).confirmStep x obs).2 h .valveMismatch

/-- The node fault flag of a STATUS taken, with its raise (R106). -/
def State.takeNodeFault (s : State) (h : HeadId) (b : Bool) : State :=
  (s.updHead h fun c => { c with scan := { c.scan with nodeFault := b } }).raiseHeadIf
    (b && !(s.head h).scan.nodeFault) h .commNode

/-- A good STATUS, in the order of R104, in its three steps ahead of the metering. -/
theorem State.goodExchange_eq (s : State) (x : InFlight) (f : StatusFrame) :
    s.goodExchange x f =
      if (s.head x.head).state = .off then s
      else (((s.clearMisses x.head).compareStatus x.head x f.obs).takeNodeFault x.head f.nodeFault).headEvent x.head
        fun s => s.meterStatus x.head f.obs x.arm := rfl

theorem State.Upholds.compareStatus (k : s.Upholds .settled o i) (h : HeadId) (x : InFlight) (obs : Obs) :
    (s.compareStatus h x obs).Upholds .settled o i :=
  (k.setHead (Head.confirmStep_alike _ x obs)).raiseHeadIf _ h _

theorem State.Upholds.takeNodeFault (k : s.Upholds .settled o i) (h : HeadId) (b : Bool) :
    (s.takeNodeFault h b).Upholds .settled o i := State.Upholds.raiseHeadIf (k.updHead {}) _ h _

theorem State.Upholds.clearMisses (k : s.Upholds l o i) (h : HeadId) : (s.clearMisses h).Upholds l o i := k.updHead {}

theorem State.Upholds.goodExchange (k : s.Upholds .settled none i) (x : InFlight) (f : StatusFrame) :
    (s.goodExchange x f).Upholds .settled none i := by
  rw [State.goodExchange_eq]
  split
  · exact k
  · have taken := ((k.clearMisses x.head).compareStatus x.head x f.obs).takeNodeFault x.head f.nodeFault
    exact taken.headEvent x.head fun _ => taken.meterStatus x.head f.obs x.arm

theorem State.Upholds.missExchange (k : s.Upholds .settled o i) (h : HeadId) :
    (s.missExchange h).Upholds .settled o i := by
  unfold State.missExchange
  dsimp only
  split
  · exact k
  · split
    · exact State.Upholds.raiseHead (k.updHead {}) h _
    · exact k.updHead {}

theorem State.Upholds.judgeExchange (k : s.Upholds .settled none i) (x : InFlight) (f : Option Frame) :
    (s.judgeExchange x f).Upholds .settled none i := by
  unfold State.judgeExchange
  split
  · exact k
  · split
    · split
      · exact k.goodExchange x _
      · exact k.missExchange _
    · exact k.missExchange _

theorem State.Upholds.endExchange (k : s.Upholds .settled none i) (f : Option Frame) :
    (s.endExchange f).Upholds .settled none i := by
  unfold State.endExchange
  split
  · exact (k.judgeExchange _ f).next
  · exact k

theorem State.Upholds.receive (k : s.Upholds .settled none i) (f : BusFrame) :
    (s.receive f).Upholds .settled none i := by
  unfold State.receive
  split
  · exact k
  · exact k.endExchange _

theorem State.Upholds.ventExpired (k : s.Upholds .settled o i) (h : HeadId) :
    (s.ventExpired h).Upholds .settled o i := by
  unfold State.ventExpired
  split
  · refine k.headEvent h fun _ => ?_
    split
    · exact k.raiseHead h _
    · exact k
  · exact k

end
end Sys2Proof.Machine

/-! PROOFS. The laws through the Angle Tracker (R4 to R13), the supply monitors, the watchdog and the stop line (R140 to
R148), and the writes of the configuration items (R173). -/

namespace Sys2Proof.Machine

section
/- One proof at a time: side by side they wait for one another, each in a thread with a stack of its own. -/
set_option Elab.async false
variable {s t : State} {l l' : LockDebt} {o o' : Option HeadId} {i : Law}

/-! ### The Angle Tracker -/

theorem State.Upholds.setTracker (k : s.Upholds l o i) (x : Tracker) : (s.setTracker x).Upholds l o i := k.alike {}

theorem State.Upholds.setPos (k : s.Upholds l o i) (p : Pos) : (s.setPos p).Upholds l o i := k.alike {}

theorem State.Upholds.reportTrack (k : s.Upholds l o i) (c : TrackChange) : (s.reportTrack c).Upholds l o i := by
  have e : ∀ b : Bool, (if b then s.report (.track c s.tracker.state s.tracker.pos) else s).Upholds l o i := by
    intro b
    cases b
    · exact k
    · exact k.report _
  exact e _

theorem State.Upholds.advance (k : s.Upholds .settled none i) (p : Pos) : (s.advance p).Upholds .settled none i := by
  unfold State.advance
  split
  · dsimp only
    split
    · exact ((k.setPos p).dueTest p).walkAll _ _
    · exact ((k.walkAll _ _).setPos p).dueTest p
  · exact (k.setPos p).dueTest p

theorem State.Upholds.lock (k : s.Upholds .settled o i) (p : Pos) : (s.lock p).Upholds .settled o i :=
  (((k.setTracker _).setCondition false (by simp)).reportTrack _).dueTest p

theorem State.Upholds.angleAcquiring (k : s.Upholds .settled o i) (p : Pos) :
    (s.angleAcquiring p).Upholds .settled o i := by
  unfold State.angleAcquiring
  dsimp only
  split
  · split
    · exact k.setTracker _
    · exact k
  · split
    · split
      · exact k.lock p
      · exact k.setTracker _
    · exact k.setTracker _
    · exact k.setTracker _
    · exact k.setTracker _

theorem State.Upholds.angleLocked (k : s.Upholds .settled none i) (p : Pos) :
    (s.angleLocked p).Upholds .settled none i := by
  unfold State.angleLocked
  dsimp only
  split
  · exact k.setTracker _
  · split
    · exact (k.setTracker _).advance p
    · exact (k.setTracker _).raisePart _ _ _
    all_goals
      split
      · exact (k.setTracker _).raisePart _ _ _
      · exact k.setTracker _

theorem State.Upholds.angleHoldover (k : s.Upholds .settled none i) (p : Pos) :
    (s.angleHoldover p).Upholds .settled none i := by
  unfold State.angleHoldover
  dsimp only
  split
  · exact (k.setTracker _).advance p
  · exact (k.setTracker _).raisePart _ _ _

theorem State.Upholds.trackAngle (k : s.Upholds .settled none i) (p : Pos) :
    (s.trackAngle p).Upholds .settled none i := by
  have fresh : (if p.count < s.tracker.cpr then s.setTracker (s.tracker.base p) else s).Upholds .settled none i := by
    split
    · exact k.setTracker _
    · exact k
  unfold State.trackAngle
  split
  · exact fresh
  · exact fresh
  · exact k.angleAcquiring p
  · exact k.angleLocked p
  · exact k.angleHoldover p

theorem State.Upholds.gapExpired (k : s.Upholds l o i) : s.gapExpired.Upholds l o i := by
  unfold State.gapExpired
  dsimp only
  split
  · split
    · exact k.setTracker _
    · exact k.setTracker _
    · exact k
  · exact k

theorem State.Upholds.holdoverExpired (k : s.Upholds .settled o i) : s.holdoverExpired.Upholds .settled o i := by
  unfold State.holdoverExpired
  split
  · exact (((k.setTracker _).setCondition true (by simp)).raisePart _ _ _).reportTrack _
  · exact k

/-! ### Supervision -/

theorem State.Upholds.setMonitor (k : s.Upholds l o i) (n : MonitorName) (m : Monitor) :
    (s.setMonitor n m).Upholds l o i := by
  cases n <;> exact k.alike {}

theorem State.Upholds.sample (k : s.Upholds .settled o i) (n : MonitorName) (v : Int) :
    (s.sample n v).Upholds .settled o i := by
  unfold State.sample
  dsimp only
  have marked : ((s.setMonitor n ((s.monitor n).take v).1).supplyCondition).Upholds .settled o i :=
    (k.setMonitor _ _).setCondition _ nofun
  split
  · exact marked.raisePart _ _ _
  · exact marked

theorem State.Upholds.setWatchdog (k : s.Upholds l o i) (w : Watchdog) : (s.setWatchdog w).Upholds l o i := k.alike {}

theorem State.Upholds.restartWatchdog (k : s.Upholds l o i) : s.restartWatchdog.Upholds l o i := by
  unfold State.restartWatchdog
  split
  · exact k
  · exact k.setWatchdog _
  · exact (k.setWatchdog _).setCondition _ nofun

theorem State.Upholds.plainRestart (k : s.Upholds l o i) : s.plainRestart.Upholds l o i := by
  unfold State.plainRestart
  split
  · exact k
  · exact k.restartWatchdog

theorem State.Upholds.windowHeartbeat (k : s.Upholds .settled o i) (n : Nat) :
    (s.windowHeartbeat n).Upholds .settled o i := by
  unfold State.windowHeartbeat
  dsimp only
  split
  · exact (k.setWatchdog _).raisePart _ _ _
  · exact k.restartWatchdog

theorem State.Upholds.heartbeatExpired (k : s.Upholds .settled o i) : s.heartbeatExpired.Upholds .settled o i := by
  unfold State.heartbeatExpired
  dsimp only
  split
  · exact ((k.setWatchdog _).setCondition _ (by simp)).raisePart _ _ _
  · exact k

theorem State.Upholds.lineFalls (k : s.Upholds .settled o i) : s.lineFalls.Upholds .settled o i := by
  have e : ({ s with lineHeld := true } : State).Upholds .settled o i := k.alike {}
  unfold State.lineFalls
  dsimp only
  split
  · exact (e.setCondition _ (by simp)).raisePart _ _ _
  · exact e

theorem State.Upholds.lineRises (k : s.Upholds l o i) : s.lineRises.Upholds l o i := by
  have e : ({ s with lineHeld := false } : State).Upholds l o i := k.alike {}
  unfold State.lineRises
  dsimp only
  split
  · exact e.setCondition _ nofun
  · exact e

theorem State.Upholds.clearFault (k : s.Upholds l o i) (c : FaultClass) : (s.clearFault c).Upholds l o i := by
  have e : (s.updRecord c fun r => { r with latched := false, bars := false, inStop := false }).Upholds l o i :=
    k.updRecord (fun x => absurd x Bool.false_ne_true) fun _ => rfl
  unfold State.clearFault
  dsimp only
  split
  · split
    · exact e.setCondition _ nofun
    · exact e
  · exact k

/-! ### Answers -/

/-- The state that an answer leaves upholds a law. -/
def Answer.Upholds (a : Answer) (i : Law) : Prop := a.after.Upholds .settled none i

theorem State.Upholds.refuse (k : s.Upholds .settled none i) (st : ReplyStatus) : (s.refuse st).Upholds i := k

theorem State.Upholds.done (k : s.Upholds .settled none i) : s.done.Upholds i := k

theorem State.Upholds.ranged (k : s.Upholds .settled none i) {b : Bool} (e : t.Upholds .settled none i) :
    (s.ranged b t).Upholds i := by
  unfold State.ranged
  split
  · exact e
  · exact k

theorem State.Upholds.outsideProduction (k : s.Upholds .settled none i) {f : State → Answer} (e : (f s).Upholds i) :
    (s.outsideProduction f).Upholds i := by
  unfold State.outsideProduction
  split
  · exact k
  · exact e

/-! ### The items whose write moves what a law reads (R3, R115, R142, R163) -/

theorem Discharge.emptied_sound (s : State) (m : Bool) :
    ({ s with discharge := { s.discharge.emptied with master := m } } : State).ScheduleSound :=
  ⟨Nat.zero_le _, fun _ h => absurd h (List.not_mem_nil), List.Pairwise.nil, fun _ => rfl⟩

theorem State.Upholds.storeCpr (k : s.Upholds l o i) (v : Nat) : (s.storeCpr v).Upholds l o i := by
  unfold State.storeCpr
  refine State.Upholds.setCondition ?_ false nofun
  have e := k.discharge s.discharge.emptied fun _ => Discharge.emptied_sound s s.discharge.master
  exact e.setTracker { s.tracker with
    cpr := v, state := .noTimebase, ref := none, pos := none, run := 0, jumpPending := false, gapTimer := none
    holdoverTimer := none }

theorem State.Upholds.storeMaster (k : s.Upholds l o i) (on : Bool) : (s.storeMaster on).Upholds l o i := by
  unfold State.storeMaster
  split
  · exact k
  · split
    · exact k.discharge _ fun ⟨x1, x2, x3, _⟩ => ⟨x1, x2, x3, fun m => absurd m (Ne.symm Bool.false_ne_true)⟩
    · exact k.discharge _ fun _ => Discharge.emptied_sound s false

/-- With the lockout limit reached an open debt is that of a count to be looked at again. -/
theorem State.Upholds.reached (k : s.Upholds .opened o i) (n : s.faults.lockoutLimit ≤ s.lockoutCount) :
    s.Upholds .entered o i := by
  cases i with
  | stops => exact ⟨k.1, fun c => ⟨n, k.2 c⟩⟩
  | _ => exact k

/-- Below the lockout limit the condition removed settles R142. -/
theorem State.Upholds.unlocked (k : s.Upholds .opened o i) (n : s.lockoutCount < s.faults.lockoutLimit) :
    (s.setCondition .lockout false).Upholds .settled o i := by
  cases i with
  | stops =>
    have condition : ((s.setCondition .lockout false).record .lockout).condition = false := by
      unfold State.setCondition; rw [State.record_updRecord]
    refine ⟨fun ⟨c, hc⟩ => k.1 ⟨c, ?_⟩, ?_, fun e => absurd e (Nat.not_le.mpr n)⟩
    · unfold State.setCondition at hc
      rw [State.record_updRecord_eq] at hc
      split at hc
      · next e => exact e ▸ hc
      · exact hc
    · rw [condition]
      exact ⟨fun e => absurd e Bool.false_ne_true, fun e => absurd e (Nat.not_le.mpr n)⟩
  | _ => exact k

theorem State.Upholds.recheckLockout (k : s.Upholds .opened o i) : s.recheckLockout.Upholds .settled o i := by
  unfold State.recheckLockout
  split
  · next n => exact k.unlocked n
  · next n => exact (k.reached (Nat.not_lt.mp n)).checkLockout

theorem State.Upholds.writeLockoutLimit (k : s.Upholds .settled none i) (v : Int) :
    (s.writeLockoutLimit v).Upholds i := by
  unfold State.writeLockoutLimit
  exact k.ranged (State.Upholds.recheckLockout (k.faults _ id id fun x => x.toOpened))

theorem State.Upholds.writePriority (k : s.Upholds .settled none i) (sel : Byte) (v : Int) :
    (s.writePriority sel v).Upholds i := by
  unfold State.writePriority
  split
  · exact k
  · next kind _ =>
    unfold State.ranged
    split
    · next ok =>
      refine k.reports _ fun ⟨h1, h2, h3, h4⟩ => ⟨h1, h2, h3, fun q => ?_⟩
      show (s.reports.prios.set kind.row v.toNat)[q.row] ≤ 3
      simp only [Fin.getElem_fin, Vector.getElem_set]
      split
      · simp [inRange] at ok
        omega
      · exact h4 q
    · exact k

theorem State.Upholds.writeAction (k : s.Upholds .settled none i) (sel : Byte) (v : Int) :
    (s.writeAction sel v).Upholds i := by
  unfold State.writeAction
  split
  · exact k
  · split
    · exact k
    · split
      · exact k.updRecord id fun _ => rfl
      · exact k

theorem State.Upholds.writeMonitor (k : s.Upholds .settled none i) (sel : Byte) (ok : MonitorName → Bool)
    (f : Monitor → Monitor) : (s.writeMonitor sel ok f).Upholds i := by
  unfold State.writeMonitor
  split
  · exact k
  · exact k.ranged (k.setMonitor _ _)

theorem State.Upholds.writeCpr (k : s.Upholds .settled none i) (v : Int) : (s.writeCpr v).Upholds i := by
  refine k.outsideProduction ?_
  split
  · exact k
  · exact k.ranged (k.storeCpr _)

theorem State.Upholds.writeMaster (k : s.Upholds .settled none i) (v : Int) : (s.writeMaster v).Upholds i := by
  refine k.outsideProduction ?_
  split
  · split
    · exact k
    · exact k.storeMaster _
  · exact k

theorem State.Upholds.writeTrackEdge (k : s.Upholds .settled none i) (v : Int) : (s.writeTrackEdge v).Upholds i := by
  unfold State.writeTrackEdge
  split
  · exact k.setTracker { s.tracker with edge := _ }
  · exact k

theorem State.Upholds.writeHeadCount (k : s.Upholds .settled none i) (v : Int) : (s.writeHeadCount v).Upholds i := by
  refine k.outsideProduction ?_
  split
  · exact k
  · split
    · exact k
    · exact k.alike (t := { s with management := { s.management with headCount := v.toNat } }) {}

theorem State.Upholds.writeHeartbeatEnable (k : s.Upholds .settled none i) (v : Int) :
    (s.writeHeartbeatEnable v).Upholds i := by
  unfold State.writeHeartbeatEnable
  split
  · next on _ =>
    show (s.storeHeartbeatEnable on).Upholds .settled none i
    unfold State.storeHeartbeatEnable
    dsimp only
    split
    · exact k
    · split
      · exact k.setWatchdog _
      · exact (k.setWatchdog _).setCondition _ nofun
  · exact k

theorem State.Upholds.writeItem (k : s.Upholds .settled none i) (item sel : Byte) (v : Int) :
    (writeItem item sel v s).Upholds i := by
  unfold Machine.writeItem
  split
  · exact k.writeCpr v
  · exact k.outsideProduction (k.ranged (k.alike {}))
  · exact k.outsideProduction (k.ranged (k.alike {}))
  · exact k.ranged (k.alike {})
  · exact k.ranged (k.alike {})
  · exact k.writeTrackEdge v
  · exact k.outsideProduction (k.ranged (k.alike {}))
  · exact k.outsideProduction (k.ranged (k.alike {}))
  · exact k.outsideProduction (k.ranged (k.alike {}))
  · exact k.writeHeadCount v
  · exact k.outsideProduction (k.ranged (k.alike {}))
  · exact k.ranged (k.alike {})
  · exact k.ranged (k.alike {})
  · exact k.ranged (k.alike {})
  · exact k.ranged (k.alike {})
  · exact k.ranged (k.alike {})
  · exact k.ranged (k.alike {})
  · exact k.ranged (k.alike {})
  · exact k.ranged (k.alike {})
  · exact k.writeMaster v
  · exact k.outsideProduction (k.ranged (k.discharge _ id))
  · exact k.outsideProduction (k.ranged (k.discharge _ id))
  · exact k.writeAction sel v
  · exact k.writeLockoutLimit v
  · exact k.writeMonitor sel _ _
  · exact k.writeMonitor sel _ _
  · exact k.writeMonitor sel _ _
  · exact k.writeMonitor sel _ _
  · exact k.writeHeartbeatEnable v
  · exact k.ranged (k.setWatchdog _)
  · exact k.ranged (k.setWatchdog _)
  · exact k.ranged (k.alike {})
  · exact k.ranged (k.reports _ id)
  · exact k.writePriority sel v
  · exact k

end
end Sys2Proof.Machine

/-! PROOFS. The laws through the requests (R27 to R34, R71 to R76, R129, R138, R150), the frames (R152 to R161) and the
resets (R177 to R179), and so through every step. -/

namespace Sys2Proof.Machine

section
/- One proof at a time: side by side they wait for one another, each in a thread with a stack of its own. -/
set_option Elab.async false
variable {s t : State} {l l' : LockDebt} {o o' : Option HeadId} {i : Law}

/-! ### The Profile Store (R27 to R34) -/

/-- A slot with its users as they were, and the verifier's busy slot. -/
def State.putSlot (s : State) (j : SlotId) (t : Slot) (v : Option SlotId) : State :=
  { s with store := { s.store with slots := s.store.slots.set j t, verifier := v } }

theorem State.putSlot_slot (s : State) (j x : SlotId) (t : Slot) (v : Option SlotId) :
    (s.putSlot j t v).slot x = if x = j then t else s.slot x :=
  State.slot_setSlot_eq { s with store := { s.store with verifier := v } } x j t

theorem State.Upholds.putSlot (k : s.Upholds l o i) {j : SlotId} {t : Slot} {v : Option SlotId}
    (users : s.UsersCounted → t.users = (s.slot j).users)
    (active : s.OneActive → t.state = .active → ∀ x, x ≠ j → (s.slot x).state ≠ .active)
    (unused : s.UsersCounted → t.state = .free ∨ t.state = .loading ∨ t.state = .verifying → t.users = 0)
    (own : t.state = .verifying ↔ v = some j)
    (others : s.UsersCounted → ∀ x, x ≠ j → (v = some x ↔ s.store.verifier = some x)) :
    (s.putSlot j t v).Upholds l o i := by
  refine k.store _ fun k1 k2 => ?_
  change (s.putSlot j t v).OneActive ∧ (s.putSlot j t v).UsersCounted
  have users := users k2
  have unused := unused k2
  have others := others k2
  obtain ⟨u1, u2, u3, u4⟩ := k2
  refine ⟨fun x y hx hy => ?_, fun x => ?_, u2, fun x hx => ?_, fun x => ?_⟩
  · rw [State.putSlot_slot] at hx hy
    split at hx <;> split at hy
    · next a b => rw [a, b]
    · next n => exact absurd hy (active k1 hx y n)
    · next n _ => exact absurd hx (active k1 hy x n)
    · exact k1 x y hx hy
  · rw [State.putSlot_slot]
    split
    · next e => rw [users, e]; exact u1 j
    · exact u1 x
  · rw [State.putSlot_slot] at hx ⊢
    split at hx
    · next e => rw [if_pos e]; exact unused hx
    · next e => rw [if_neg e]; exact u3 x hx
  · rw [State.putSlot_slot]
    split
    · next e => rw [e]; exact own
    · next e => exact (u4 x).trans (others x e).symm

theorem State.abandon_eq (s : State) (j : SlotId) (t : Slot) :
    (s.abandon j).setSlot j t =
      s.putSlot j t (if s.store.verifier = some j then none else s.store.verifier) := by
  unfold State.abandon
  split <;> rfl

/-- A slot that the verifier is not busy with afterwards, whatever it was. -/
theorem State.Upholds.abandonPut (k : s.Upholds l o i) {j : SlotId} {t : Slot}
    (users : s.UsersCounted → t.users = (s.slot j).users) (empty : s.UsersCounted → t.users = 0)
    (state : t.state ≠ .active ∧ t.state ≠ .verifying) : ((s.abandon j).setSlot j t).Upholds l o i := by
  rw [State.abandon_eq]
  refine k.putSlot users (fun _ a => absurd a state.1) (fun u _ => empty u) ?_ fun _ x hx => ?_
  · refine iff_of_false state.2 ?_
    split
    · simp
    · assumption
  · split
    · next e => rw [e]; simp [Ne.symm hx]
    · rfl

/-- A slot whose state changes between states that the verifier is not busy with. -/
theorem State.Upholds.setSlot (k : s.Upholds l o i) {j : SlotId} {t : Slot}
    (users : s.UsersCounted → t.users = (s.slot j).users)
    (active : s.OneActive → t.state = .active → ∀ x, x ≠ j → (s.slot x).state ≠ .active)
    (unused : s.UsersCounted → t.state = .free ∨ t.state = .loading ∨ t.state = .verifying → t.users = 0)
    (from_ : (s.slot j).state ≠ .verifying) (into : t.state ≠ .verifying) : (s.setSlot j t).Upholds l o i := by
  by_cases n : i = .users
  · subst n
    have none_ : s.store.verifier ≠ some j := fun e => from_ ((k.2.2.2.2 j).mpr e)
    exact k.putSlot (v := s.store.verifier) users active unused (iff_of_false into none_) fun _ _ _ => Iff.rfl
  · cases i with
    | users => exact absurd rfl n
    | stops => cases l <;> exact k
    | _ => exact k

theorem State.Upholds.beginSlot (k : s.Upholds .settled none i) (b : Byte) (h : HeaderFields) :
    (s.beginSlot b h).Upholds i := by
  unfold State.beginSlot
  split
  · exact k
  · next j _ =>
    split
    · exact k
    · split
      · next ok =>
        refine State.Upholds.abandonPut (t := (s.slot j).begun h) k (fun _ => rfl) (fun u => ?_) (by simp [Slot.begun])
        show (s.slot j).users = 0
        unfold Slot.beginnable at ok
        split at ok
        · next e => exact u.2.2.1 j (Or.inl e)
        · next e => exact u.2.2.1 j (Or.inr (Or.inl e))
        · next e => exact u.2.2.1 j (Or.inr (Or.inr e))
        · exact of_decide_eq_true ok
        · exact of_decide_eq_true ok
        · cases ok
        · cases ok
      · exact k

theorem State.Upholds.writeSegment (k : s.Upholds .settled none i) (b x : Byte) (f : SegmentFields) :
    (s.writeSegment b x f).Upholds i := by
  unfold State.writeSegment
  split
  · exact k
  · next j _ =>
    dsimp only
    split
    · exact k
    · split
      · exact k
      · next loading =>
        have e := Decidable.not_not.mp loading
        split
        · exact k
        · split
          · exact k
          · split
            · exact k
            · refine k.setSlot (j := j) (fun _ => rfl) (fun _ a => ?_) (fun u _ => u.2.2.1 j (Or.inr (Or.inl e))) (by simp [e]) ?_
              · exact absurd (e.symm.trans a) nofun
              · show (s.slot j).state ≠ _
                simp [e]

theorem State.Upholds.commit (k : s.Upholds .settled none i) (b : Byte) (crc : Word) :
    (s.commit b crc).Upholds i := by
  unfold State.commit
  split
  · exact k
  · next j _ =>
    split
    · exact k
    · next idle =>
      split
      · exact k
      · next loading =>
        have e := Decidable.not_not.mp loading
        have none_ : s.store.verifier = none := by simpa using idle
        refine State.Upholds.putSlot (t := { s.slot j with state := .verifying, crc := some crc }) (v := some j) k
          (fun _ => rfl) (fun _ a => by cases a) (fun u _ => u.2.2.1 j (Or.inr (Or.inl e))) (iff_of_true rfl rfl)
          fun _ x hx => ?_
        rw [none_]
        simp [Ne.symm hx]

theorem State.Upholds.makeActive (k : s.Upholds l o i) {j : SlotId} (ready : (s.slot j).state = .ready) :
    (s.makeActive j).Upholds l o i := by
  unfold State.makeActive
  dsimp only
  split
  · next a ha =>
    have act := State.activeSlot_state ha
    have n : j ≠ a := by rintro rfl; rw [act] at ready; cases ready
    refine k.store _ fun k1 k2 => ?_
    have first : (s.setSlot a { s.slot a with state := .ready }).Upholds .settled none .users :=
      State.Upholds.setSlot (show s.Upholds .settled none .users from ⟨k1, k2⟩) (fun _ => rfl) (fun _ x => by cases x)
        (fun _ x => by simp at x) (by simp [act]) (by simp)
    have slot : ∀ x, (s.setSlot a { s.slot a with state := .ready }).slot x =
        if x = a then { s.slot a with state := .ready } else s.slot x := fun x => State.slot_setSlot_eq _ _ _ _
    refine first.setSlot (fun _ => rfl) (fun _ _ x hx c => ?_) (fun _ x => by simp at x)
      (by rw [slot, if_neg n, ready]; simp) (by simp)
    rw [slot] at c
    split at c
    · cases c
    · next ne => exact ne (k1 x a c act)
  · next ha =>
    exact k.setSlot (fun _ => rfl) (fun _ _ x _ => s.activeSlot_eq_none.mp ha x) (fun _ x => by simp at x) (by simp [ready]) (by simp)

theorem State.Upholds.select (k : s.Upholds .settled none i) (b : Byte) : (s.select b).Upholds i := by
  unfold State.select
  split
  · exact k
  · split
    · next e => exact k.makeActive e
    · exact k
    · exact k

theorem State.Upholds.drop (k : s.Upholds .settled none i) (b : Byte) : (s.drop b).Upholds i := by
  unfold State.drop
  split
  · exact k
  · next j _ =>
    dsimp only
    have unused : (s.slot j).state = .ready ∨ (s.slot j).state = .active →
        (s.setSlot j (if (s.slot j).users = 0 then .freed (s.slot j).gen
          else { s.slot j with state := .retiring })).Upholds .settled none i := by
      intro e
      have from_ : (s.slot j).state ≠ .verifying := by rcases e with e | e <;> simp [e]
      split
      · next z =>
        exact k.setSlot (fun _ => z.symm) (fun _ x => by cases x) (fun _ _ => rfl) from_ (by simp [Slot.freed])
      · exact k.setSlot (fun _ => rfl) (fun _ x => by cases x) (fun _ x => by simp at x) from_ (by simp)
    split
    · next e => exact unused (Or.inl e)
    · next e => exact unused (Or.inr e)
    · next e =>
      exact k.setSlot (fun u => (u.2.2.1 j (Or.inr (Or.inl e))).symm) (fun _ x => by cases x) (fun _ _ => rfl)
        (by simp [e]) (by simp [Slot.freed])
    · next e =>
      exact State.Upholds.abandonPut (t := .freed (s.slot j).gen) k (fun u => (u.2.2.1 j (Or.inr (Or.inr e))).symm)
        (fun _ => rfl) (by simp [Slot.freed])
    · exact k
    · exact k
    · exact k

theorem State.Upholds.verification (k : s.Upholds .settled o i) : s.verification.Upholds .settled o i := by
  unfold State.verification
  split
  · next j busy =>
    refine State.Upholds.report ?_ _
    have state : ∀ r, ((s.slot j).verified r).state ≠ .active ∧ ((s.slot j).verified r).state ≠ .verifying ∧
        ((s.slot j).verified r).users = (s.slot j).users := by
      intro r
      cases r <;> simp [Slot.verified]
    obtain ⟨na, nv, us⟩ := state ((s.slot j).verify s.zones).1
    refine State.Upholds.putSlot (t := (s.slot j).verified ((s.slot j).verify s.zones).1) (v := none) k (fun _ => us)
      (fun _ a => absurd a na) (fun u _ => us.trans (u.2.2.1 j (Or.inr (Or.inr ((u.2.2.2 j).mpr busy)))))
      (iff_of_false nv (by simp)) fun _ x hx => ?_
    rw [busy]
    simp [Ne.symm hx]
  · exact k

/-! ### Requests that act on a head (R71 to R76) -/

theorem State.Upholds.onHead (k : s.Upholds .settled none i) (b : Byte) {f : HeadId → Answer}
    (e : ∀ h, (f h).Upholds i) : (s.onHead b f).Upholds i := by
  unfold State.onHead
  split
  · exact e _
  · exact k

/-- A post for a head that has just left OFF. -/
theorem State.post_urgentOnce_fresh {h : HeadId} (k : s.UrgentOnce) (off : (s.head h).state = .off)
    (live : (t.head h).state ≠ .off) (other : ∀ g, g ≠ h → (t.head g).state = (s.head g).state)
    (urgent : t.scanner.urgent = s.scanner.urgent) : (t.post h).UrgentOnce := by
  have fresh : h ∉ t.scanner.urgent := fun m => k.2.1 h (urgent ▸ m) off
  have nodup : (t.scanner.urgent ++ [h]).Nodup := by
    refine List.nodup_append.mpr ⟨urgent ▸ k.1, by simp, fun a ha b hb => ?_⟩
    rw [List.mem_singleton.mp hb]
    exact fun e => fresh (e ▸ ha)
  have lives : ∀ g ∈ t.scanner.urgent ++ [h], (t.head g).state ≠ .off := by
    intro g hg
    by_cases e : g = h
    · exact e ▸ live
    · rw [other g e]
      rcases List.mem_append.mp hg with hg | hg
      · exact k.2.1 g (urgent ▸ hg)
      · exact absurd (List.mem_singleton.mp hg) e
  unfold State.post
  rw [if_pos ⟨by simpa [Head.enrolled] using live, fresh⟩]
  dsimp only
  split
  · exact State.chooseNext_urgentOnce nodup lives
  · next busy => exact ⟨nodup, lives, fun idle => absurd (by simpa using idle) busy⟩

theorem State.Upholds.enrolHead (k : s.Upholds .settled o i) {h : HeadId} (off : (s.head h).state = .off) (n : Nat)
    (c : Calib) : (s.enrolHead h n c).Upholds .settled o i := by
  have self : ((s.updHead h fun x => x.enrol n c).changeState h .idle).head h =
      { (s.head h).enrol n c with state := .idle, level := 0 } := by
    rw [State.changeState_head_self, State.head_updHead]
    rfl
  have turns : s.Turns ((s.updHead h fun x => x.enrol n c).changeState h .idle) h :=
    { toBeside := .of_faults (by simp) (by simp) (by simp)
      other := fun g hg => by rw [State.changeState_head_ne _ _ hg, State.head_updHead_ne _ _ hg]; exact .refl _
      urgent := by simp
      idle := by simp }
  have store : ((s.updHead h fun x => x.enrol n c).changeState h .idle).store = s.store := by simp
  unfold State.enrolHead
  generalize (s.updHead h fun x => x.enrol n c).changeState h .idle = u at self turns store ⊢
  have live : (u.head h).state ≠ .off := by simp [self]
  have posted := State.post_busOnly u h
  have b := posted.beside
  have a : ∀ g, (u.head g).Alike ((u.post h).head g) := fun g => .of_butScan (posted.heads g)
  have other : ∀ g, g ≠ h → (s.head g).Alike ((u.post h).head g) := fun g hg => (turns.other g hg).trans (a g)
  have beside : s.Beside (u.post h) :=
    { mode := b.mode.trans turns.mode, limit := b.limit.trans turns.limit
      stops := fun c x => turns.stops c (b.stops c x), condition := b.condition.trans turns.condition
      snapshots := b.snapshots.trans turns.snapshots, schedule := b.schedule.trans turns.schedule
      master := b.master.trans turns.master, queue := b.queue.trans turns.queue, prios := b.prios.trans turns.prios }
  have state : ((u.post h).head h).state = .idle := by rw [(a h).state, self]
  refine k.move beside
    (·.count beside (State.lockoutCount_eq (fun g hg => (other g hg).state) (by simp [off]) (by simp [state])))
    (·.change other fun _ => ?_) (fun k1 k2 => ?_)
    (fun x => State.post_urgentOnce_fresh x off live (fun g hg => (turns.other g hg).state) turns.urgent)
  · refine Head.Commands.alike (a h) ?_
    rw [self]
    exact .of_notRunning (by simp) rfl rfl
  · refine State.users_keep (posted.store.trans store) (fun g => ?_) (fun g => ?_) k1 k2
    · by_cases e : g = h
      · rw [e, (a h).pin, self, k2.notPinned (by rw [off]; rfl)]
        rfl
      · exact (other g e).pin
    · by_cases e : g = h
      · rw [e, state, off]; rfl
      · rw [(other g e).state]

theorem State.Upholds.enrol (k : s.Upholds .settled none i) (b : Byte) (x : Half) (f : CalibFields) :
    (s.enrol b x f).Upholds i := by
  refine k.onHead b fun h => ?_
  split
  · exact k
  · next off =>
    split
    · exact k.enrolHead (by simpa [Head.enrolled] using off) _ _
    · exact k

theorem State.Upholds.calibrate (k : s.Upholds .settled none i) (b : Byte) (f : CalibFields) :
    (s.calibrate b f).Upholds i := by
  refine k.onHead b fun h => ?_
  dsimp only
  split
  · exact k
  · split
    · exact k.updHead (f := fun c => { c with calib := some (calibOf f), overrun := (calibOf f).overrun }) {}
    · exact k

theorem State.Upholds.withdrawHead (k : s.Upholds l o i) (h : HeadId) : (s.withdrawHead h).Upholds l o i := by
  have set : (s.setWithdraw h).Upholds l o i := k.updHead {}
  have state : ((s.setWithdraw h).head h).state = (s.head h).state := by
    unfold State.setWithdraw; rw [State.head_updHead]
  unfold State.withdrawHead
  split
  · next e => exact k.enterOff (by rw [e]; rfl) (by simp [e])
  · next e => exact set.giveUpSeating (state.trans e) _ _
  · next e => exact set.enterAborting (state.trans e)
  · exact set
  · exact set
  · exact set
  · exact set
  · exact k
  · exact k

theorem State.Upholds.withdraw (k : s.Upholds .settled none i) (b : Byte) : (s.withdraw b).Upholds i := by
  refine k.onHead b fun h => ?_
  dsimp only
  split
  · exact k
  · split
    · exact k
    · exact k.headEvent h fun _ => k.withdrawHead h

theorem State.Upholds.releaseHead (k : s.Upholds .settled o i) (h : HeadId) :
    (s.releaseHead h).Upholds .settled o i := by
  have clear : (s.updHead h fun c => { c with hold := false }).Upholds .settled o i := k.updHead {}
  unfold State.releaseHead
  dsimp only
  split
  · next e =>
    exact (clear.leaveSafeClose (l' := .opened) (Or.inr (Or.inr e)) fun t b _ _ x => x.opens b).recheckLockout
  · exact clear

theorem State.Upholds.release (k : s.Upholds .settled none i) (b : Byte) : (s.release b).Upholds i := by
  refine k.onHead b fun h => ?_
  split
  · exact k
  · split
    · exact k.headEvent h fun _ => k.releaseHead h
    · exact k

/-! ### Management requests (R129, R138, R150) -/

theorem State.Upholds.changeMode (k : s.Upholds .settled o i) (m : Mode)
    (may : m = .safe ∨ s.faults.mode ≠ .safe ∨ (s.stopEmpty = true ∧ s.lockoutCount < s.faults.lockoutLimit)) :
    (s.changeMode m).Upholds .settled o i := (k.mode m may).report _

theorem State.Upholds.requestMode (k : s.Upholds .settled o i) (m : Mode) :
    (s.requestMode m).2.Upholds .settled o i := by
  unfold State.requestMode
  split
  · exact k.enterSafe none
  · split
    · next may =>
      simp only [State.mayLeaveSafe, Bool.and_eq_true, decide_eq_true_eq] at may
      exact k.changeMode _ (Or.inr (Or.inr ⟨may.1.1.1, may.1.2⟩))
    · exact k
  · exact k
  · next e => exact k.changeMode _ (Or.inr (Or.inl (by simp [e])))
  · exact k
  · next e =>
    split
    · exact k.changeMode _ (Or.inr (Or.inl (by simp [e])))
    · exact k
  · exact k

theorem State.Upholds.setMode (k : s.Upholds .settled none i) (b : Byte) : (s.setMode b).Upholds i := by
  unfold State.setMode
  dsimp only
  split
  · exact k.requestMode _
  · exact k

theorem State.Upholds.clear (k : s.Upholds .settled none i) (b : Byte) : (s.clear b).Upholds i := by
  unfold State.clear
  split
  · exact k
  · split
    · exact k
    · exact k.clearFault _

theorem State.Upholds.pop (k : s.Upholds .settled none i) : s.pop.Upholds i := by
  unfold State.pop
  dsimp only
  split
  · next x rest e =>
    refine k.faults _ (fun fit => ?_) id id
    rw [e] at fit
    exact Nat.le_of_succ_le fit
  · next e => exact k.alike (t := { s with faults := { s.faults with overflow := false } }) { snapshots := rfl }

theorem State.Upholds.writeZoneRow (k : s.Upholds .settled none i) (b : Byte) (z : ZoneFields) :
    (s.writeZoneRow b z).Upholds i := by
  have set : ∀ x r, (s.setZone x r).Upholds .settled none i := fun x r => k.alike {}
  refine k.outsideProduction ?_
  split
  · split
    · exact set _ _
    · split
      · exact k
      · split
        · exact k
        · exact set _ _
  · exact k

/-! ### Requests and frames (R152 to R161) -/

theorem State.Upholds.sendRing (k : s.Upholds l o i) (f : Frame) : (s.sendRing f).Upholds l o i := k.alike {}

theorem State.Upholds.goodFrame (k : s.Upholds l o i) : s.goodFrame.Upholds l o i := k.alike {}

theorem State.Upholds.takeFrame (k : s.Upholds .settled none i) (f : Frame) {act : State → State}
    (e : (act s).Upholds .settled none i) : (s.takeFrame f act).Upholds .settled none i := by
  unfold State.takeFrame
  split
  · exact k.sendRing f
  · exact e

/-- A request keeps a law where what it executes does. -/
theorem State.Upholds.takeRequest (k : s.Upholds .settled none i) (q : RawRequest) (b : Bool) {run : State → Answer}
    (e : ∀ t : State, t.Upholds .settled none i → (run t).Upholds i) :
    (s.takeRequest q b run).Upholds .settled none i := by
  have taken := k.goodFrame.plainRestart
  refine k.takeFrame _ ?_
  dsimp only
  split
  · refine State.Upholds.sendRing ?_ _
    split
    · exact e _ taken
    · exact taken
  · split
    · exact State.Upholds.sendRing (e _ taken) _
    · exact k.goodFrame.sendRing _

theorem State.Upholds.takeAddressed (k : s.Upholds .settled none i) (v : Envelope) (kind : Byte) (used : List Byte)
    {run : State → Answer} (e : ∀ t : State, t.Upholds .settled none i → (run t).Upholds i) :
    (s.takeAddressed v kind used run).Upholds .settled none i := k.takeRequest _ false e

theorem State.Upholds.takeEither (k : s.Upholds .settled none i) (v : Envelope) (kind : Byte) (used : List Byte)
    {run : State → Answer} (e : ∀ t : State, t.Upholds .settled none i → (run t).Upholds i) :
    (s.takeEither v kind used run).Upholds .settled none i := k.takeRequest _ true e

theorem State.Upholds.readSingle (k : s.Upholds .settled none i) (r : Byte) (bs : List Byte) :
    (s.readSingle r bs).Upholds i := by
  unfold State.readSingle
  split <;> exact k

theorem State.Upholds.readZoneRow (k : s.Upholds .settled none i) (r : Byte) : (s.readZoneRow r).Upholds i := by
  unfold State.readZoneRow
  split <;> exact k

theorem State.Upholds.readSlotRow (k : s.Upholds .settled none i) (r : Byte) : (s.readSlotRow r).Upholds i := by
  unfold State.readSlotRow
  split <;> exact k

theorem State.Upholds.readSegmentRow (k : s.Upholds .settled none i) (r x : Byte) :
    (s.readSegmentRow r x).Upholds i := by
  unfold State.readSegmentRow
  dsimp only
  split
  · split <;> exact k
  · exact k

theorem State.Upholds.readHeadRow (k : s.Upholds .settled none i) (r : Byte) : (s.readHeadRow r).Upholds i := by
  unfold State.readHeadRow
  split <;> exact k

theorem State.Upholds.readCalibRow (k : s.Upholds .settled none i) (r : Byte) : (s.readCalibRow r).Upholds i := by
  unfold State.readCalibRow
  split <;> exact k

theorem State.Upholds.readFaultRow (k : s.Upholds .settled none i) (r : Byte) : (s.readFaultRow r).Upholds i := by
  unfold State.readFaultRow
  split <;> exact k

theorem State.Upholds.readTable (k : s.Upholds .settled none i) (table r x : Byte) :
    (s.readTable table r x).Upholds i := by
  unfold State.readTable
  split
  · exact k.readSingle _ _
  · exact k.readSingle _ _
  · exact k.readZoneRow _
  · exact k.readSlotRow _
  · exact k.readSegmentRow _ _
  · exact k.readHeadRow _
  · exact k.readCalibRow _
  · exact k.readFaultRow _
  · exact k.readSingle _ _
  · exact k.readSingle _ _
  · exact k.readSingle _ _
  · exact k

theorem State.Upholds.takeReadings (k : s.Upholds .settled o i) (p x : Half) :
    (s.takeReadings p x).Upholds .settled o i := by
  unfold State.takeReadings
  split
  · exact (k.sample _ _).sample _ _
  · exact (k.sample _ _).sample _ _

theorem State.Upholds.takeAngleFrame (k : s.Upholds .settled none i) (rev count p x : Half) (mark : Byte) :
    (s.takeAngleFrame rev count p x mark).Upholds .settled none i := by
  unfold State.takeAngleFrame
  refine State.Upholds.sendRing ?_ _
  unfold State.handAngle
  split
  · exact (k.goodFrame.takeReadings p x).trackAngle _
  · exact (k.goodFrame.trackAngle _).takeReadings p x

theorem State.Upholds.takeCarrier (k : s.Upholds .settled none i) (content : List Byte) :
    (match s.reports.queue with
      | r :: rest => s.fillCarrier r rest
      | [] => s.sendRing (carrierBytes content)).Upholds .settled none i := by
  split
  · next r rest e =>
    have filled := k.reports { s.reports with queue := rest, dropped := false } fun ⟨h1, h2, h3, h4⟩ => by
      rw [e] at h1 h2 h3
      exact ⟨Nat.le_of_succ_le h1, (List.pairwise_cons.mp h2).2, fun x hx => h3 x (List.mem_cons_of_mem _ hx), h4⟩
    exact filled.alike {}
  · exact k.sendRing _

theorem State.Upholds.takePassing (k : s.Upholds .settled o i) (n : Nat) (bs : List Byte) :
    (s.takePassing n bs).Upholds .settled o i := by
  unfold State.takePassing
  split
  · next h => exact k.takeDose h.1 _ _ _ _ _ _
  · exact k

theorem State.Upholds.countBad (k : s.Upholds .settled o i) : s.countBad.Upholds .settled o i := by
  unfold State.countBad
  dsimp only
  split
  · exact State.Upholds.raisePart (k.alike {}) _ _ _
  · exact k.alike {}

/-! ### Resets (R177 to R179) -/

theorem resetRecords_condition (c : ResetCause) (k : FaultClass) : (resetRecords c)[k.row].condition = false := by
  unfold resetRecords
  simp only [Fin.getElem_fin, Vector.getElem_set, Vector.getElem_map]
  split <;> rfl

theorem ReportQueue.reset_prioOf (k : ReportKind) : ReportQueue.reset.prioOf k ≤ 3 := by
  cases k <;> simp [ReportQueue.prioOf, ReportQueue.reset, ReportKind.row]

theorem State.cleared_upholds (s : State) (c : ResetCause) (i : Law) : (s.cleared c).Upholds .settled none i := by
  have heads : ∀ h, (s.cleared c).head h = .blank := fun h => by simp [State.cleared, State.head]
  have slots : ∀ j, (s.cleared c).slot j = .freed 0 := fun j => by simp [State.cleared, State.slot]
  have count : (s.cleared c).lockoutCount = 0 := by
    unfold State.lockoutCount
    rw [State.countP_heads]
    exact Finset.sum_eq_zero fun h _ => by rw [heads]; rfl
  have condition : ((s.cleared c).record .lockout).condition = false := resetRecords_condition c .lockout
  have limit : (s.cleared c).faults.lockoutLimit = 2 := rfl
  cases i with
  | stops => exact ⟨fun _ => rfl, by rw [condition, count, limit]; simp, fun _ => rfl⟩
  | commands => exact fun h => Or.inl (by rw [heads]; exact .of_notRunning (by simp [Head.blank]) rfl rfl)
  | queue =>
    refine ⟨Nat.zero_le _, List.Pairwise.nil, fun r hr => absurd hr List.not_mem_nil, fun q => ?_⟩
    exact ReportQueue.reset_prioOf q
  | users =>
    refine ⟨fun x y hx => ?_, fun x => ?_, fun h => ?_, fun x _ => ?_, fun x => ?_⟩
    · rw [slots] at hx; cases hx
    · unfold State.pinned
      rw [State.countP_heads, slots]
      exact (Finset.sum_eq_zero fun h _ => by rw [heads]; rfl).symm
    · rw [heads]; rfl
    · rw [slots]; rfl
    · rw [slots]; exact iff_of_false (by simp [Slot.freed]) (by simp [State.cleared])
  | urgent =>
    exact ⟨List.nodup_nil, fun h hh => absurd hh List.not_mem_nil, fun _ h => by rw [heads]; rfl⟩
  | schedule =>
    exact ⟨Nat.zero_le _, fun e he => absurd he List.not_mem_nil, List.Pairwise.nil, fun _ => rfl⟩
  | snapshots => exact Nat.zero_le _

theorem State.resetEnded_upholds (s : State) (c : ResetCause) (straps : BitVec 4) (i : Law) :
    (s.resetEnded c straps).Upholds .settled none i := by
  refine State.Upholds.alike (s := { s.cleared c with
    reports := { (s.cleared c).reports with queue := [resetReport c] } }) {} ?_
  refine (s.cleared_upholds c i).reports _ fun ⟨_, _, _, h4⟩ => ⟨?_, List.pairwise_singleton _ _, ?_, h4⟩
  · exact Nat.le_of_ble_eq_true rfl
  · intro r hr
    rw [List.mem_singleton.mp hr]
    exact ⟨Nat.zero_lt_succ 2, Nat.le_refl 3⟩

theorem State.Upholds.beginReset (k : s.Upholds .settled none i) (c : ResetCause) (cut : Option Nat) :
    (s.beginReset c cut).Upholds .settled none i := by
  unfold State.beginReset
  split
  · exact k
  · exact State.cleared_upholds _ c i

theorem State.Upholds.conditionEnded (k : s.Upholds .settled none i) (c : ResetCause) (straps : BitVec 4) :
    (s.conditionEnded c straps).Upholds .settled none i := by
  unfold State.conditionEnded
  split
  · exact k
  · exact s.resetEnded_upholds c straps i

theorem State.Upholds.resets (k : s.Upholds l o i) (r : Resets) : ({ s with resets := r } : State).Upholds l o i :=
  k.alike {}

theorem State.Upholds.takeEvent (k : s.Upholds .settled none i) {f : State → State}
    (e : (f s).Upholds .settled none i) : (s.takeEvent f).Upholds .settled none i := by
  unfold State.takeEvent
  split
  · exact k
  · exact e

/-! ### Every command, and every step -/

/-- An outcome that goes on does so in a state that upholds a law; the model never stops. -/
def OutcomeUpholds (r : Host.Outcome State Fault Refusal) (i : Law) : Prop :=
  ∀ t, r = .next t → t.Upholds .settled none i

theorem State.Upholds.outcome (k : s.Upholds .settled none i) : OutcomeUpholds (.next s) i := by
  intro t e
  cases e
  exact k

theorem State.Upholds.exec (k : s.Upholds .settled none i) (c : Instr) : OutcomeUpholds (exec c s) i := by
  cases c with
  | angleFrame a b c d e => exact (k.takeFrame _ (k.takeAngleFrame a b c d e)).outcome
  | carrierFrame c => exact (k.takeFrame _ (k.goodFrame.takeCarrier c)).outcome
  | reportFrame a b c d e =>
    refine (k.takeFrame _ ?_).outcome
    refine State.Upholds.sendRing ?_ _
    split
    · exact k.goodFrame.takePassing _ _
    · exact k.goodFrame
  | replyFrame f =>
    exact (k.takeFrame f (act := fun s => s.goodFrame.sendRing f) (k.goodFrame.sendRing f)).outcome
  | unknownKindFrame f =>
    exact (k.takeFrame f (act := fun s => s.goodFrame.sendRing f) (k.goodFrame.sendRing f)).outcome
  | badFrame f => exact (k.takeFrame f (act := fun s => s.countBad.sendRing f) (k.countBad.sendRing f)).outcome
  | ringBypass f => exact (k.sendRing f).outcome
  | requestNotAddressed q =>
    exact (k.takeFrame _ (act := fun s => s.goodFrame.sendRing (requestBytes q)) (k.goodFrame.sendRing _)).outcome
  | broadcast q => exact (k.takeFrame _ (k.goodFrame.plainRestart.sendRing _)).outcome
  | unknown q => exact (k.takeRequest q false fun _ k => k.refuse .unknown).outcome
  | heartbeat e n =>
    refine (k.takeEither e 1 [] fun t k => ?_).outcome
    show State.Upholds _ .settled none i
    unfold State.done
    dsimp only
    split
    · exact k.windowHeartbeat n
    · exact k
  | setMode e m => exact (k.takeEither e 2 _ fun _ k => k.setMode m).outcome
  | read e a b => exact (k.takeAddressed e 3 _ fun _ k => k.readTable a b _).outcome
  | readPart e r => exact (k.takeAddressed e 3 _ fun _ k => k.readSingle r _).outcome
  | readTracker e r => exact (k.takeAddressed e 3 _ fun _ k => k.readSingle r _).outcome
  | readZone e r => exact (k.takeAddressed e 3 _ fun _ k => k.readZoneRow r).outcome
  | readSlot e r => exact (k.takeAddressed e 3 _ fun _ k => k.readSlotRow r).outcome
  | readSegment e j x => exact (k.takeAddressed e 3 _ fun _ k => k.readSegmentRow j x).outcome
  | readHead e r => exact (k.takeAddressed e 3 _ fun _ k => k.readHeadRow r).outcome
  | readCalib e r => exact (k.takeAddressed e 3 _ fun _ k => k.readCalibRow r).outcome
  | readFault e r => exact (k.takeAddressed e 3 _ fun _ k => k.readFaultRow r).outcome
  | readSupply e r => exact (k.takeAddressed e 3 _ fun _ k => k.readSingle r _).outcome
  | readQueues e r => exact (k.takeAddressed e 3 _ fun _ k => k.readSingle r _).outcome
  | readReject e r => exact (k.takeAddressed e 3 _ fun _ k => k.readSingle r _).outcome
  | writeConfig e x r v => exact (k.takeAddressed e 4 _ fun _ k => k.writeItem x r v.toInt).outcome
  | writeConfigCpr e r v => exact (k.takeAddressed e 4 _ fun _ k => k.writeItem 1 r v.toInt).outcome
  | writeConfigMaximumStep e r v => exact (k.takeAddressed e 4 _ fun _ k => k.writeItem 2 r v.toInt).outcome
  | writeConfigAcquireCount e r v => exact (k.takeAddressed e 4 _ fun _ k => k.writeItem 3 r v.toInt).outcome
  | writeConfigGapLimit e r v => exact (k.takeAddressed e 4 _ fun _ k => k.writeItem 4 r v.toInt).outcome
  | writeConfigHoldoverLimit e r v => exact (k.takeAddressed e 4 _ fun _ k => k.writeItem 5 r v.toInt).outcome
  | writeConfigTrackReportEdge e r v => exact (k.takeAddressed e 4 _ fun _ k => k.writeItem 6 r v.toInt).outcome
  | writeConfigBaseGap e r v => exact (k.takeAddressed e 4 _ fun _ k => k.writeItem 7 r v.toInt).outcome
  | writeConfigSeatWindowEnd e r v => exact (k.takeAddressed e 4 _ fun _ k => k.writeItem 8 r v.toInt).outcome
  | writeConfigDischargeAngle e r v => exact (k.takeAddressed e 4 _ fun _ k => k.writeItem 9 r v.toInt).outcome
  | writeConfigHeadCount e r v => exact (k.takeAddressed e 4 _ fun _ k => k.writeItem 10 r v.toInt).outcome
  | writeConfigStationBase e r v => exact (k.takeAddressed e 4 _ fun _ k => k.writeItem 11 r v.toInt).outcome
  | writeConfigVentLimit e r v => exact (k.takeAddressed e 4 _ fun _ k => k.writeItem 12 r v.toInt).outcome
  | writeConfigReleasePressure e r v => exact (k.takeAddressed e 4 _ fun _ k => k.writeItem 13 r v.toInt).outcome
  | writeConfigStepLimit e r v => exact (k.takeAddressed e 4 _ fun _ k => k.writeItem 14 r v.toInt).outcome
  | writeConfigLeakLimit e r v => exact (k.takeAddressed e 4 _ fun _ k => k.writeItem 15 r v.toInt).outcome
  | writeConfigLearningWeight e r v => exact (k.takeAddressed e 4 _ fun _ k => k.writeItem 16 r v.toInt).outcome
  | writeConfigReplyTimeout e r v => exact (k.takeAddressed e 4 _ fun _ k => k.writeItem 17 r v.toInt).outcome
  | writeConfigMissLimit e r v => exact (k.takeAddressed e 4 _ fun _ k => k.writeItem 18 r v.toInt).outcome
  | writeConfigConfirmWindow e r v => exact (k.takeAddressed e 4 _ fun _ k => k.writeItem 19 r v.toInt).outcome
  | writeConfigMasterEnable e r v => exact (k.takeAddressed e 4 _ fun _ k => k.writeItem 20 r v.toInt).outcome
  | writeConfigGateDistance e r v => exact (k.takeAddressed e 4 _ fun _ k => k.writeItem 21 r v.toInt).outcome
  | writeConfigRejectPulseWidth e r v => exact (k.takeAddressed e 4 _ fun _ k => k.writeItem 22 r v.toInt).outcome
  | writeConfigAction e r v => exact (k.takeAddressed e 4 _ fun _ k => k.writeItem 23 r v.toInt).outcome
  | writeConfigLockoutLimit e r v => exact (k.takeAddressed e 4 _ fun _ k => k.writeItem 24 r v.toInt).outcome
  | writeConfigLowLimit e r v => exact (k.takeAddressed e 4 _ fun _ k => k.writeItem 25 r v.toInt).outcome
  | writeConfigHighLimit e r v => exact (k.takeAddressed e 4 _ fun _ k => k.writeItem 26 r v.toInt).outcome
  | writeConfigHysteresis e r v => exact (k.takeAddressed e 4 _ fun _ k => k.writeItem 27 r v.toInt).outcome
  | writeConfigSuccessiveCount e r v => exact (k.takeAddressed e 4 _ fun _ k => k.writeItem 28 r v.toInt).outcome
  | writeConfigHeartbeatEnable e r v => exact (k.takeAddressed e 4 _ fun _ k => k.writeItem 29 r v.toInt).outcome
  | writeConfigHeartbeatUpperLimit e r v => exact (k.takeAddressed e 4 _ fun _ k => k.writeItem 30 r v.toInt).outcome
  | writeConfigHeartbeatLowerLimit e r v => exact (k.takeAddressed e 4 _ fun _ k => k.writeItem 31 r v.toInt).outcome
  | writeConfigRingLimit e r v => exact (k.takeAddressed e 4 _ fun _ k => k.writeItem 32 r v.toInt).outcome
  | writeConfigBacklogThreshold e r v => exact (k.takeAddressed e 4 _ fun _ k => k.writeItem 33 r v.toInt).outcome
  | writeConfigPriority e r v => exact (k.takeAddressed e 4 _ fun _ k => k.writeItem 34 r v.toInt).outcome
  | writeZone e r z => exact (k.takeAddressed e 5 _ fun _ k => k.writeZoneRow r z).outcome
  | beginSlot e j h => exact (k.takeAddressed e 6 _ fun _ k => k.beginSlot j h).outcome
  | segment e j x f => exact (k.takeAddressed e 7 _ fun _ k => k.writeSegment j x f).outcome
  | commit e j crc => exact (k.takeAddressed e 8 _ fun _ k => k.commit j crc).outcome
  | select e j => exact (k.takeAddressed e 9 _ fun _ k => k.select j).outcome
  | drop e j => exact (k.takeAddressed e 10 _ fun _ k => k.drop j).outcome
  | enroll e h x f => exact (k.takeAddressed e 11 _ fun _ k => k.enrol h x f).outcome
  | calibrate e h f => exact (k.takeAddressed e 12 _ fun _ k => k.calibrate h f).outcome
  | withdraw e h => exact (k.takeAddressed e 13 _ fun _ k => k.withdraw h).outcome
  | release e h => exact (k.takeAddressed e 14 _ fun _ k => k.release h).outcome
  | clearFault e c => exact (k.takeEither e 15 _ fun _ k => k.clear c).outcome
  | popSnapshot e => exact (k.takeAddressed e 16 _ fun _ k => k.pop).outcome
  | resetPart e =>
    exact (k.takeAddressed e 17 _ fun t k => (k.resets { t.resets with ringPending := true }).done).outcome
  | resetPartResetBegin =>
    refine State.Upholds.outcome ?_
    split
    · exact (s.cleared_upholds .ring i).resets _
    · exact k
  | resetPartResetEnd straps =>
    refine State.Upholds.outcome ?_
    split
    · exact (k.resets _).conditionEnded .ring straps
    · exact k
  | supplyLeavesRange cut => exact ((k.beginReset .power cut).resets _).outcome
  | supplyReentersRange => exact (k.resets _).outcome
  | powerOnResetEnd straps =>
    refine State.Upholds.outcome ?_
    split
    · exact (k.resets _).conditionEnded .power straps
    · exact k
  | resetPinAssert cut => exact ((k.beginReset .pin cut).resets _).outcome
  | resetPinRelease straps =>
    refine State.Upholds.outcome ?_
    split
    · exact (k.resets _).conditionEnded .pin straps
    · exact k
  | stopLineFall => exact k.lineFalls.outcome
  | stopLineRise => exact k.lineRises.outcome
  | gapTimerExpiry => exact (k.takeEvent k.gapExpired).outcome
  | holdoverTimerExpiry => exact (k.takeEvent k.holdoverExpired).outcome
  | ventTimerExpiry h => exact (k.takeEvent (k.ventExpired h)).outcome
  | status f => exact (k.takeEvent (k.receive f)).outcome
  | replyTimerExpiry => exact (k.takeEvent (k.endExchange none)).outcome
  | pulseTimerExpiry =>
    exact (k.takeEvent (k.discharge { s.discharge with pulse := none } id)).outcome
  | heartbeatTimerExpiry => exact (k.takeEvent k.heartbeatExpired).outcome
  | verificationComplete => exact (k.takeEvent k.verification).outcome

/-- Every step keeps every law. -/
theorem State.Upholds.step (k : s.Upholds .settled none i) (e : step s = .next t) : t.Upholds .settled none i := by
  unfold Machine.step at e
  split at e
  · next c rest _ =>
    have popped : ({ s with pending := rest } : State).Upholds .settled none i := k.alike {}
    exact popped.exec c t e
  · cases e
    exact k

theorem State.headsCommand_iff (s : State) : s.HeadsCommand ↔ s.Upholds .settled none .commands := by
  refine forall_congr' fun h => ⟨Or.inl, fun k => ?_⟩
  rcases k with k | ⟨k, -⟩
  · exact k
  · cases k

end

/-- Settles O55, by the laws `stops` of every step. -/
theorem stopAndLockoutKeepSafe : Obligations.StopAndLockoutKeepSafe := by
  intro s t stops lock e
  exact State.Upholds.step (i := .stops) ⟨stops, lock⟩ e

/-- Settles O56, by the law `commands` of every step. -/
theorem headsCommandTheirState : Obligations.HeadsCommandTheirState := by
  intro s t k e
  exact (State.headsCommand_iff t).mpr (((State.headsCommand_iff s).mp k).step e)

/-- Settles O57, by the law `queue` of every step. -/
theorem reportQueueStaysOrdered : Obligations.ReportQueueStaysOrdered := by
  intro s t k e
  exact State.Upholds.step (i := .queue) k e

/-- Settles O58, by the law `users` of every step. -/
theorem storeCountsItsUsers : Obligations.StoreCountsItsUsers := by
  intro s t one users e
  exact State.Upholds.step (i := .users) ⟨one, users⟩ e

/-- Settles O59, by the law `urgent` of every step. -/
theorem urgentQueueStaysSound : Obligations.UrgentQueueStaysSound := by
  intro s t k e
  exact State.Upholds.step (i := .urgent) k e

/-- Settles O60, by the laws `schedule` and `snapshots` of every step. -/
theorem scheduleAndSnapshotsBounded : Obligations.ScheduleAndSnapshotsBounded := by
  intro s t schedule snapshots e
  exact ⟨State.Upholds.step (i := .schedule) schedule e, State.Upholds.step (i := .snapshots) snapshots e⟩

/-- Settles O4: the reset state is that of a power-on reset that has ended, which upholds every law. -/
theorem invariantsHoldAtReset : Obligations.InvariantsHoldAtReset := by
  have k := fun i => State.resetEnded_upholds State.unset .power 0 i
  obtain ⟨stops, lock⟩ := k .stops
  obtain ⟨one, users⟩ := k .users
  exact ⟨stops, (State.headsCommand_iff _).mpr (k .commands), k .queue, one, users, k .urgent, k .schedule,
    k .snapshots, lock⟩

end Sys2Proof.Machine

/-! PROOFS. The machine (notes/assumptions/1.md), the state right after reset (R177) and the frames on ring-in (R152 to
R161). -/

namespace Sys2Proof.Machine

section
set_option Elab.async false
variable {s t u : State}

/-! ### What a command leaves of the model's own fields -/

/-- The queue of commands and the choice of orders are as they were. -/
structure State.SameQueue (s t : State) : Prop where
  pending : t.pending = s.pending := by rfl
  arbiter : t.arbiter = s.arbiter := by rfl

theorem State.SameQueue.trans (a : s.SameQueue t) (b : t.SameQueue u) : s.SameQueue u where
  pending := b.pending.trans a.pending
  arbiter := b.arbiter.trans a.arbiter

theorem State.Keeps.sameQueue (k : s.Keeps t) : s.SameQueue t where
  pending := k.pending
  arbiter := k.arbiter

theorem State.SameQueue.raisePart (k : s.SameQueue t) (c : Cause) (a b : Option Nat) : s.SameQueue (t.raisePart c a b) :=
  k.trans (Keeps.raisePart (.refl t) c a b).sameQueue

theorem State.SameQueue.report (k : s.SameQueue t) (b : ReportBody) : s.SameQueue (t.report b) :=
  k.trans (Keeps.report (.refl t) b).sameQueue

/-! ### The Angle Tracker and the monitors -/

theorem State.advance_sameQueue (s : State) (p : Pos) : s.SameQueue (s.advance p) := by
  unfold State.advance
  split
  · dsimp only
    split
    · exact State.SameQueue.trans (t := (s.setPos p).dueTest p) {} (Keeps.walkAll (.refl _) _ _).sameQueue
    · exact (Keeps.walkAll (.refl s) _ _).sameQueue.trans {}
  · exact {}

theorem State.reportTrack_sameQueue (s : State) (c : TrackChange) : s.SameQueue (s.reportTrack c) := by
  have e : ∀ b : Bool, s.SameQueue (if b then s.report (.track c s.tracker.state s.tracker.pos) else s) := by
    intro b
    cases b
    · exact {}
    · exact State.SameQueue.report {} _
  exact e _

theorem State.lock_sameQueue (s : State) (p : Pos) : s.SameQueue (s.lock p) := by
  have e := (((s.setTracker { s.tracker.lockAt p with run := s.tracker.run + 1, pos := some p }).setCondition .timebase
    false)).reportTrack_sameQueue .gain
  exact ⟨e.pending, e.arbiter⟩

theorem State.angleAcquiring_sameQueue (s : State) (p : Pos) : s.SameQueue (s.angleAcquiring p) := by
  unfold State.angleAcquiring
  dsimp only
  split
  · split <;> exact {}
  · split
    · split
      · exact s.lock_sameQueue p
      · exact {}
    all_goals exact {}

theorem State.angleLocked_sameQueue (s : State) (p : Pos) : s.SameQueue (s.angleLocked p) := by
  unfold State.angleLocked
  dsimp only
  split
  · exact {}
  · split
    · exact State.SameQueue.trans (t := s.setTracker _) {} (State.advance_sameQueue _ p)
    · exact State.SameQueue.raisePart (t := s.setTracker _) {} _ _ _
    all_goals
      split
      · exact State.SameQueue.raisePart (t := s.setTracker _) {} _ _ _
      · exact {}

theorem State.angleHoldover_sameQueue (s : State) (p : Pos) : s.SameQueue (s.angleHoldover p) := by
  unfold State.angleHoldover
  dsimp only
  split
  · exact State.SameQueue.trans (t := s.setTracker _) {} (State.advance_sameQueue _ p)
  · exact State.SameQueue.raisePart (t := s.setTracker _) {} _ _ _

theorem State.trackAngle_sameQueue (s : State) (p : Pos) : s.SameQueue (s.trackAngle p) := by
  unfold State.trackAngle
  split
  · split <;> exact {}
  · split <;> exact {}
  · exact s.angleAcquiring_sameQueue p
  · exact s.angleLocked_sameQueue p
  · exact s.angleHoldover_sameQueue p

theorem State.sample_sameQueue (s : State) (n : MonitorName) (v : Int) : s.SameQueue (s.sample n v) := by
  have marked : s.SameQueue ((s.setMonitor n ((s.monitor n).take v).1).supplyCondition) := by cases n <;> exact {}
  unfold State.sample
  dsimp only
  split
  · exact marked.raisePart _ _ _
  · exact marked

theorem State.takeReadings_sameQueue (s : State) (p x : Half) : s.SameQueue (s.takeReadings p x) := by
  unfold State.takeReadings
  split <;> exact (s.sample_sameQueue _ _).trans (State.sample_sameQueue _ _ _)

theorem State.takeAngleFrame_sameQueue (s : State) (rev count p x : Half) (mark : Byte) :
    s.SameQueue (s.takeAngleFrame rev count p x mark) := by
  have handed : s.SameQueue (s.goodFrame.handAngle ⟨rev.toNat, count.toNat⟩ p x) := by
    unfold State.handAngle
    split
    · exact .trans (t := s.goodFrame) {} ((State.takeReadings_sameQueue _ p x).trans (State.trackAngle_sameQueue _ _))
    · exact .trans (t := s.goodFrame) {} ((State.trackAngle_sameQueue _ _).trans (State.takeReadings_sameQueue _ p x))
  exact handed.trans {}

/-! ### Supervision -/

theorem State.restartWatchdog_sameQueue (s : State) : s.SameQueue s.restartWatchdog := by
  unfold State.restartWatchdog
  split <;> exact {}

theorem State.plainRestart_sameQueue (s : State) : s.SameQueue s.plainRestart := by
  unfold State.plainRestart
  split
  · exact {}
  · exact s.restartWatchdog_sameQueue

theorem State.windowHeartbeat_sameQueue (s : State) (n : Nat) : s.SameQueue (s.windowHeartbeat n) := by
  unfold State.windowHeartbeat
  dsimp only
  split
  · exact State.SameQueue.raisePart (t := s.setWatchdog _) {} _ _ _
  · exact s.restartWatchdog_sameQueue

theorem State.heartbeatExpired_sameQueue (s : State) : s.SameQueue s.heartbeatExpired := by
  unfold State.heartbeatExpired
  dsimp only
  split
  · exact State.SameQueue.raisePart (t := (s.setWatchdog _).setCondition _ _) {} _ _ _
  · exact {}

theorem State.gapExpired_sameQueue (s : State) : s.SameQueue s.gapExpired := by
  unfold State.gapExpired
  dsimp only
  split
  · split <;> exact {}
  · exact {}

theorem State.holdoverExpired_sameQueue (s : State) : s.SameQueue s.holdoverExpired := by
  unfold State.holdoverExpired
  split
  · exact State.SameQueue.trans (State.SameQueue.raisePart (t := (s.setTracker _).setCondition _ _) {} _ _ _)
      (State.reportTrack_sameQueue _ _)
  · exact {}

theorem State.lineFalls_sameQueue (s : State) : s.SameQueue s.lineFalls := by
  unfold State.lineFalls
  dsimp only
  split
  · exact State.SameQueue.raisePart (t := ({ s with lineHeld := true } : State).setCondition _ _) {} _ _ _
  · exact {}

theorem State.lineRises_sameQueue (s : State) : s.SameQueue s.lineRises := by
  unfold State.lineRises
  dsimp only
  split <;> exact {}

theorem State.clearFault_sameQueue (s : State) (c : FaultClass) : s.SameQueue (s.clearFault c) := by
  unfold State.clearFault
  dsimp only
  split
  · split <;> exact {}
  · exact {}

/-! ### Requests -/

theorem State.ranged_sameQueue (k : s.SameQueue t) (b : Bool) : s.SameQueue (s.ranged b t).after := by
  unfold State.ranged
  split
  · exact k
  · exact {}

theorem State.outsideProduction_sameQueue {f : State → Answer} (k : s.SameQueue (f s).after) :
    s.SameQueue (s.outsideProduction f).after := by
  unfold State.outsideProduction
  split
  · exact {}
  · exact k

theorem State.writeLockoutLimit_sameQueue (s : State) (v : Int) : s.SameQueue (s.writeLockoutLimit v).after := by
  refine State.ranged_sameQueue ?_ _
  unfold State.recheckLockout
  split
  · exact {}
  · exact .trans (t := { s with faults := { s.faults with lockoutLimit := v.toNat } }) {}
      (Keeps.checkLockout (.refl _)).sameQueue

theorem State.writePriority_sameQueue (s : State) (sel : Byte) (v : Int) :
    s.SameQueue (s.writePriority sel v).after := by
  unfold State.writePriority
  split
  · exact {}
  · exact State.ranged_sameQueue {} _

theorem State.writeAction_sameQueue (s : State) (sel : Byte) (v : Int) : s.SameQueue (s.writeAction sel v).after := by
  unfold State.writeAction
  split
  · exact {}
  · split
    · exact {}
    · split <;> exact {}

theorem State.setMonitor_sameQueue (s : State) (n : MonitorName) (m : Monitor) : s.SameQueue (s.setMonitor n m) := by
  cases n <;> exact {}

theorem State.writeMonitor_sameQueue (s : State) (sel : Byte) (ok : MonitorName → Bool) (f : Monitor → Monitor) :
    s.SameQueue (s.writeMonitor sel ok f).after := by
  unfold State.writeMonitor
  split
  · exact {}
  · exact State.ranged_sameQueue (s.setMonitor_sameQueue _ _) _

theorem State.writeCpr_sameQueue (s : State) (v : Int) : s.SameQueue (s.writeCpr v).after := by
  refine State.outsideProduction_sameQueue ?_
  split
  · exact {}
  · exact State.ranged_sameQueue {} _

theorem State.storeMaster_sameQueue (s : State) (on : Bool) : s.SameQueue (s.storeMaster on) := by
  unfold State.storeMaster
  split
  · exact {}
  · split <;> exact {}

theorem State.writeMaster_sameQueue (s : State) (v : Int) : s.SameQueue (s.writeMaster v).after := by
  refine State.outsideProduction_sameQueue ?_
  split
  · split
    · exact {}
    · exact s.storeMaster_sameQueue _
  · exact {}

theorem State.writeTrackEdge_sameQueue (s : State) (v : Int) : s.SameQueue (s.writeTrackEdge v).after := by
  unfold State.writeTrackEdge
  split <;> exact {}

theorem State.writeHeadCount_sameQueue (s : State) (v : Int) : s.SameQueue (s.writeHeadCount v).after := by
  refine State.outsideProduction_sameQueue ?_
  split
  · exact {}
  · split <;> exact {}

theorem State.writeHeartbeatEnable_sameQueue (s : State) (v : Int) :
    s.SameQueue (s.writeHeartbeatEnable v).after := by
  unfold State.writeHeartbeatEnable
  split
  · next on _ =>
    show s.SameQueue (s.storeHeartbeatEnable on)
    unfold State.storeHeartbeatEnable
    dsimp only
    split
    · exact {}
    · split <;> exact {}
  · exact {}

theorem writeItem_sameQueue (item sel : Byte) (v : Int) (s : State) : s.SameQueue (writeItem item sel v s).after := by
  unfold writeItem
  split
  · exact s.writeCpr_sameQueue v
  · exact State.outsideProduction_sameQueue (State.ranged_sameQueue {} _)
  · exact State.outsideProduction_sameQueue (State.ranged_sameQueue {} _)
  · exact State.ranged_sameQueue {} _
  · exact State.ranged_sameQueue {} _
  · exact s.writeTrackEdge_sameQueue v
  · exact State.outsideProduction_sameQueue (State.ranged_sameQueue {} _)
  · exact State.outsideProduction_sameQueue (State.ranged_sameQueue {} _)
  · exact State.outsideProduction_sameQueue (State.ranged_sameQueue {} _)
  · exact s.writeHeadCount_sameQueue v
  · exact State.outsideProduction_sameQueue (State.ranged_sameQueue {} _)
  · exact State.ranged_sameQueue {} _
  · exact State.ranged_sameQueue {} _
  · exact State.ranged_sameQueue {} _
  · exact State.ranged_sameQueue {} _
  · exact State.ranged_sameQueue {} _
  · exact State.ranged_sameQueue {} _
  · exact State.ranged_sameQueue {} _
  · exact State.ranged_sameQueue {} _
  · exact s.writeMaster_sameQueue v
  · exact State.outsideProduction_sameQueue (State.ranged_sameQueue {} _)
  · exact State.outsideProduction_sameQueue (State.ranged_sameQueue {} _)
  · exact s.writeAction_sameQueue sel v
  · exact s.writeLockoutLimit_sameQueue v
  · exact s.writeMonitor_sameQueue sel _ _
  · exact s.writeMonitor_sameQueue sel _ _
  · exact s.writeMonitor_sameQueue sel _ _
  · exact s.writeMonitor_sameQueue sel _ _
  · exact s.writeHeartbeatEnable_sameQueue v
  · exact State.ranged_sameQueue {} _
  · exact State.ranged_sameQueue {} _
  · exact State.ranged_sameQueue {} _
  · exact State.ranged_sameQueue {} _
  · exact s.writePriority_sameQueue sel v
  · exact {}

/-- A READ leaves the state as it is (R171). -/
theorem State.readTable_after (s : State) (table r x : Byte) : (s.readTable table r x).after = s := by
  have single : ∀ bs, (s.readSingle r bs).after = s := by
    intro bs; unfold State.readSingle; split <;> rfl
  unfold State.readTable
  split
  · exact single _
  · exact single _
  · unfold State.readZoneRow; split <;> rfl
  · unfold State.readSlotRow; split <;> rfl
  · unfold State.readSegmentRow
    dsimp only
    split
    · split <;> rfl
    · rfl
  · unfold State.readHeadRow; split <;> rfl
  · unfold State.readCalibRow; split <;> rfl
  · unfold State.readFaultRow; split <;> rfl
  · exact single _
  · exact single _
  · exact single _
  · rfl

theorem State.readTable_sameQueue (s : State) (table r x : Byte) : s.SameQueue (s.readTable table r x).after := by
  rw [State.readTable_after]
  exact {}

theorem State.writeZoneRow_sameQueue (s : State) (b : Byte) (z : ZoneFields) :
    s.SameQueue (s.writeZoneRow b z).after := by
  refine State.outsideProduction_sameQueue ?_
  split
  · split
    · exact {}
    · split
      · exact {}
      · split <;> exact {}
  · exact {}

theorem State.abandon_sameQueue (s : State) (j : SlotId) : s.SameQueue (s.abandon j) := by
  unfold State.abandon
  split <;> exact {}

theorem State.beginSlot_sameQueue (s : State) (b : Byte) (h : HeaderFields) : s.SameQueue (s.beginSlot b h).after := by
  unfold State.beginSlot
  split
  · exact {}
  · next j _ =>
    split
    · exact {}
    · split
      · exact (s.abandon_sameQueue j).trans {}
      · exact {}

theorem State.writeSegment_sameQueue (s : State) (b x : Byte) (f : SegmentFields) :
    s.SameQueue (s.writeSegment b x f).after := by
  unfold State.writeSegment
  split
  · exact {}
  · dsimp only
    split
    · exact {}
    · split
      · exact {}
      · split
        · exact {}
        · split
          · exact {}
          · split <;> exact {}

theorem State.commit_sameQueue (s : State) (b : Byte) (crc : Word) : s.SameQueue (s.commit b crc).after := by
  unfold State.commit
  split
  · exact {}
  · split
    · exact {}
    · split <;> exact {}

theorem State.select_sameQueue (s : State) (b : Byte) : s.SameQueue (s.select b).after := by
  unfold State.select
  split
  · exact {}
  · next j _ =>
    have active : s.SameQueue (s.makeActive j) := by
      unfold State.makeActive
      dsimp only
      split <;> exact {}
    split
    · exact active
    · exact {}
    · exact {}

theorem State.drop_sameQueue (s : State) (b : Byte) : s.SameQueue (s.drop b).after := by
  unfold State.drop
  split
  · exact {}
  · next j _ =>
    dsimp only
    split
    · exact {}
    · exact {}
    · exact {}
    · exact (s.abandon_sameQueue j).trans {}
    · exact {}
    · exact {}
    · exact {}

theorem State.onHead_sameQueue (b : Byte) {f : HeadId → Answer} (e : ∀ h, s.SameQueue (f h).after) :
    s.SameQueue (s.onHead b f).after := by
  unfold State.onHead
  split
  · exact e _
  · exact {}

theorem State.headEvent_sameQueue (h : HeadId) {f : State → State} (e : s.SameQueue (f s)) :
    s.SameQueue (s.headEvent h f) := by
  unfold State.headEvent
  split
  · exact {}
  · split
    · exact e
    · exact (Keeps.contextParity (.refl s) h).sameQueue

theorem State.enrol_sameQueue (s : State) (b : Byte) (x : Half) (f : CalibFields) :
    s.SameQueue (s.enrol b x f).after := by
  refine State.onHead_sameQueue b fun h => ?_
  split
  · exact {}
  · split
    · exact (Keeps.post (Keeps.changeState (Keeps.updHead (.refl s) h _) h .idle) h).sameQueue
    · exact {}

theorem State.calibrate_sameQueue (s : State) (b : Byte) (f : CalibFields) : s.SameQueue (s.calibrate b f).after := by
  refine State.onHead_sameQueue b fun h => ?_
  dsimp only
  split
  · exact {}
  · split <;> exact {}

theorem State.withdrawHead_sameQueue (s : State) (h : HeadId) : s.SameQueue (s.withdrawHead h) := by
  have set : s.Keeps (s.setWithdraw h) := Keeps.updHead (.refl s) h _
  unfold State.withdrawHead
  split
  · exact (Keeps.enterOff (.refl s) h).sameQueue
  · exact (Keeps.giveUpSeating set h _ _).sameQueue
  · exact (Keeps.enterAborting set h).sameQueue
  all_goals exact {}

theorem State.withdraw_sameQueue (s : State) (b : Byte) : s.SameQueue (s.withdraw b).after := by
  refine State.onHead_sameQueue b fun h => ?_
  dsimp only
  split
  · exact {}
  · split
    · exact {}
    · exact State.headEvent_sameQueue h (f := fun s => s.withdrawHead h) (s.withdrawHead_sameQueue h)

theorem State.releaseHead_sameQueue (s : State) (h : HeadId) : s.SameQueue (s.releaseHead h) := by
  unfold State.releaseHead
  dsimp only
  split
  · have left := Keeps.leaveSafeClose (Keeps.updHead (.refl s) h fun c => { c with hold := false }) h
    unfold State.recheckLockout
    split
    · exact (Keeps.setCondition left _ _).sameQueue
    · exact (Keeps.checkLockout left).sameQueue
  · exact {}

theorem State.release_sameQueue (s : State) (b : Byte) : s.SameQueue (s.release b).after := by
  refine State.onHead_sameQueue b fun h => ?_
  split
  · exact {}
  · split
    · exact State.headEvent_sameQueue h (f := fun s => s.releaseHead h) (s.releaseHead_sameQueue h)
    · exact {}

theorem State.changeMode_sameQueue (s : State) (m : Mode) : s.SameQueue (s.changeMode m) :=
  State.SameQueue.report (t := { s with faults := { s.faults with mode := m } }) {} _

theorem State.requestMode_sameQueue (s : State) (m : Mode) : s.SameQueue (s.requestMode m).2 := by
  unfold State.requestMode
  split
  · exact (Keeps.enterSafe (.refl s) none).sameQueue
  · split
    · exact s.changeMode_sameQueue _
    · exact {}
  · exact {}
  · exact s.changeMode_sameQueue _
  · exact {}
  · split
    · exact s.changeMode_sameQueue _
    · exact {}
  · exact {}

theorem State.setMode_sameQueue (s : State) (b : Byte) : s.SameQueue (s.setMode b).after := by
  unfold State.setMode
  dsimp only
  split
  · exact s.requestMode_sameQueue _
  · exact {}

theorem State.clear_sameQueue (s : State) (b : Byte) : s.SameQueue (s.clear b).after := by
  unfold State.clear
  split
  · exact {}
  · split
    · exact {}
    · exact s.clearFault_sameQueue _

theorem State.pop_sameQueue (s : State) : s.SameQueue s.pop.after := by
  unfold State.pop
  dsimp only
  split <;> exact {}

/-- A request leaves the queue as it is where what it executes does. -/
theorem State.takeRequest_sameQueue (s : State) (q : RawRequest) (b : Bool) {run : State → Answer}
    (e : ∀ t : State, t.SameQueue (run t).after) : s.SameQueue (s.takeRequest q b run) := by
  have taken : s.SameQueue s.goodFrame.plainRestart :=
    .trans (t := s.goodFrame) {} (State.plainRestart_sameQueue _)
  have ran := taken.trans (e s.goodFrame.plainRestart)
  unfold State.takeRequest State.takeFrame
  split
  · exact {}
  · dsimp only
    split
    · split
      · exact ran.trans {}
      · exact taken.trans {}
    · split
      · exact ran.trans {}
      · exact {}

theorem State.takePassing_sameQueue (s : State) (n : Nat) (bs : List Byte) : s.SameQueue (s.takePassing n bs) := by
  unfold State.takePassing
  split
  · exact (Keeps.takeDose (.refl s) _ _ _ _ _ _).sameQueue
  · exact {}

theorem State.countBad_sameQueue (s : State) : s.SameQueue s.countBad := by
  unfold State.countBad
  dsimp only
  split
  · exact State.SameQueue.raisePart (t := { s with ring := { s.ring with badCount := 0 } }) {} _ _ _
  · exact {}

/-! ### Events and resets -/

theorem State.takeFrame_sameQueue (s : State) (f : Frame) {act : State → State} (e : s.SameQueue (act s)) :
    s.SameQueue (s.takeFrame f act) := by
  unfold State.takeFrame
  split
  · exact {}
  · exact e

theorem State.takeEvent_sameQueue (s : State) {f : State → State} (e : s.SameQueue (f s)) :
    s.SameQueue (s.takeEvent f) := by
  unfold State.takeEvent
  split
  · exact {}
  · exact e

theorem State.verification_sameQueue (s : State) : s.SameQueue s.verification := by
  unfold State.verification
  split
  · refine State.SameQueue.report ?_ _
    exact {}
  · exact {}

theorem State.endExchange_sameQueue (s : State) (f : Option Frame) : s.SameQueue (s.endExchange f) :=
  (Keeps.endExchange (.refl s) f).sameQueue

theorem State.beginReset_sameQueue (s : State) (c : ResetCause) (cut : Option Nat) :
    s.SameQueue (s.beginReset c cut) := by
  unfold State.beginReset
  split <;> exact {}

theorem State.conditionEnded_sameQueue (s : State) (c : ResetCause) (straps : BitVec 4) :
    s.SameQueue (s.conditionEnded c straps) := by
  unfold State.conditionEnded
  split <;> exact {}

/-! ### Every command -/

/-- A command answers a next state and leaves the queue as it is. -/
def State.Completes (s : State) (r : Host.Outcome State Fault Refusal) : Prop := ∃ t, r = .next t ∧ s.SameQueue t

theorem State.SameQueue.completes (k : s.SameQueue t) : s.Completes (.next t) := ⟨t, rfl, k⟩

/-- The same for a request. -/
theorem State.request_completes (s : State) (e : Envelope) (kind : Byte) (used : List Byte) (b : Bool)
    {run : State → Answer} (h : ∀ t : State, t.SameQueue (run t).after) :
    s.Completes (.next (s.takeRequest (rawOf e kind used) b run)) :=
  (s.takeRequest_sameQueue _ b h).completes

theorem State.exec_completes (s : State) (c : Instr) : s.Completes (exec c s) := by
  cases c with
  | angleFrame a b c d e => exact (s.takeFrame_sameQueue _ (s.takeAngleFrame_sameQueue a b c d e)).completes
  | carrierFrame c =>
    refine (s.takeFrame_sameQueue _ ?_).completes
    dsimp only
    split <;> exact {}
  | reportFrame a b c d e =>
    refine (s.takeFrame_sameQueue _ ?_).completes
    dsimp only
    split
    · exact .trans (t := s.goodFrame) {} ((State.takePassing_sameQueue _ _ _).trans {})
    · exact {}
  | replyFrame f => exact (s.takeFrame_sameQueue f (act := fun s => s.goodFrame.sendRing f) {}).completes
  | unknownKindFrame f => exact (s.takeFrame_sameQueue f (act := fun s => s.goodFrame.sendRing f) {}).completes
  | badFrame f =>
    exact (s.takeFrame_sameQueue f (act := fun s => s.countBad.sendRing f) (s.countBad_sameQueue.trans {})).completes
  | ringBypass f => exact State.SameQueue.completes {}
  | requestNotAddressed q =>
    exact (s.takeFrame_sameQueue _ (act := fun s => s.goodFrame.sendRing (requestBytes q)) {}).completes
  | broadcast q =>
    exact (s.takeFrame_sameQueue _ (act := fun s => s.goodFrame.plainRestart.sendRing (requestBytes q))
      (.trans (t := s.goodFrame) {} ((State.plainRestart_sameQueue _).trans {}))).completes
  | unknown q => exact (s.takeRequest_sameQueue q false fun _ => {}).completes
  | heartbeat e n =>
    refine s.request_completes e 1 [] true fun t => ?_
    unfold State.done
    dsimp only
    split
    · exact t.windowHeartbeat_sameQueue n
    · exact {}
  | setMode e m => exact s.request_completes e 2 _ true fun t => t.setMode_sameQueue m
  | read e a b => exact s.request_completes e 3 _ false fun t => t.readTable_sameQueue a b _
  | readPart e r => exact s.request_completes e 3 _ false fun t => t.readTable_sameQueue 1 r 0
  | readTracker e r => exact s.request_completes e 3 _ false fun t => t.readTable_sameQueue 2 r 0
  | readZone e r => exact s.request_completes e 3 _ false fun t => t.readTable_sameQueue 3 r 0
  | readSlot e r => exact s.request_completes e 3 _ false fun t => t.readTable_sameQueue 4 r 0
  | readSegment e j x => exact s.request_completes e 3 _ false fun t => t.readTable_sameQueue 5 j x
  | readHead e r => exact s.request_completes e 3 _ false fun t => t.readTable_sameQueue 6 r 0
  | readCalib e r => exact s.request_completes e 3 _ false fun t => t.readTable_sameQueue 7 r 0
  | readFault e r => exact s.request_completes e 3 _ false fun t => t.readTable_sameQueue 8 r 0
  | readSupply e r => exact s.request_completes e 3 _ false fun t => t.readTable_sameQueue 9 r 0
  | readQueues e r => exact s.request_completes e 3 _ false fun t => t.readTable_sameQueue 10 r 0
  | readReject e r => exact s.request_completes e 3 _ false fun t => t.readTable_sameQueue 11 r 0
  | writeConfig e x r v => exact s.request_completes e 4 _ false fun t => writeItem_sameQueue x r v.toInt t
  | writeConfigCpr e r v => exact s.request_completes e 4 _ false fun t => writeItem_sameQueue 1 r v.toInt t
  | writeConfigMaximumStep e r v => exact s.request_completes e 4 _ false fun t => writeItem_sameQueue 2 r v.toInt t
  | writeConfigAcquireCount e r v => exact s.request_completes e 4 _ false fun t => writeItem_sameQueue 3 r v.toInt t
  | writeConfigGapLimit e r v => exact s.request_completes e 4 _ false fun t => writeItem_sameQueue 4 r v.toInt t
  | writeConfigHoldoverLimit e r v => exact s.request_completes e 4 _ false fun t => writeItem_sameQueue 5 r v.toInt t
  | writeConfigTrackReportEdge e r v => exact s.request_completes e 4 _ false fun t => writeItem_sameQueue 6 r v.toInt t
  | writeConfigBaseGap e r v => exact s.request_completes e 4 _ false fun t => writeItem_sameQueue 7 r v.toInt t
  | writeConfigSeatWindowEnd e r v => exact s.request_completes e 4 _ false fun t => writeItem_sameQueue 8 r v.toInt t
  | writeConfigDischargeAngle e r v => exact s.request_completes e 4 _ false fun t => writeItem_sameQueue 9 r v.toInt t
  | writeConfigHeadCount e r v => exact s.request_completes e 4 _ false fun t => writeItem_sameQueue 10 r v.toInt t
  | writeConfigStationBase e r v => exact s.request_completes e 4 _ false fun t => writeItem_sameQueue 11 r v.toInt t
  | writeConfigVentLimit e r v => exact s.request_completes e 4 _ false fun t => writeItem_sameQueue 12 r v.toInt t
  | writeConfigReleasePressure e r v => exact s.request_completes e 4 _ false fun t => writeItem_sameQueue 13 r v.toInt t
  | writeConfigStepLimit e r v => exact s.request_completes e 4 _ false fun t => writeItem_sameQueue 14 r v.toInt t
  | writeConfigLeakLimit e r v => exact s.request_completes e 4 _ false fun t => writeItem_sameQueue 15 r v.toInt t
  | writeConfigLearningWeight e r v => exact s.request_completes e 4 _ false fun t => writeItem_sameQueue 16 r v.toInt t
  | writeConfigReplyTimeout e r v => exact s.request_completes e 4 _ false fun t => writeItem_sameQueue 17 r v.toInt t
  | writeConfigMissLimit e r v => exact s.request_completes e 4 _ false fun t => writeItem_sameQueue 18 r v.toInt t
  | writeConfigConfirmWindow e r v => exact s.request_completes e 4 _ false fun t => writeItem_sameQueue 19 r v.toInt t
  | writeConfigMasterEnable e r v => exact s.request_completes e 4 _ false fun t => writeItem_sameQueue 20 r v.toInt t
  | writeConfigGateDistance e r v => exact s.request_completes e 4 _ false fun t => writeItem_sameQueue 21 r v.toInt t
  | writeConfigRejectPulseWidth e r v => exact s.request_completes e 4 _ false fun t => writeItem_sameQueue 22 r v.toInt t
  | writeConfigAction e r v => exact s.request_completes e 4 _ false fun t => writeItem_sameQueue 23 r v.toInt t
  | writeConfigLockoutLimit e r v => exact s.request_completes e 4 _ false fun t => writeItem_sameQueue 24 r v.toInt t
  | writeConfigLowLimit e r v => exact s.request_completes e 4 _ false fun t => writeItem_sameQueue 25 r v.toInt t
  | writeConfigHighLimit e r v => exact s.request_completes e 4 _ false fun t => writeItem_sameQueue 26 r v.toInt t
  | writeConfigHysteresis e r v => exact s.request_completes e 4 _ false fun t => writeItem_sameQueue 27 r v.toInt t
  | writeConfigSuccessiveCount e r v => exact s.request_completes e 4 _ false fun t => writeItem_sameQueue 28 r v.toInt t
  | writeConfigHeartbeatEnable e r v => exact s.request_completes e 4 _ false fun t => writeItem_sameQueue 29 r v.toInt t
  | writeConfigHeartbeatUpperLimit e r v => exact s.request_completes e 4 _ false fun t => writeItem_sameQueue 30 r v.toInt t
  | writeConfigHeartbeatLowerLimit e r v => exact s.request_completes e 4 _ false fun t => writeItem_sameQueue 31 r v.toInt t
  | writeConfigRingLimit e r v => exact s.request_completes e 4 _ false fun t => writeItem_sameQueue 32 r v.toInt t
  | writeConfigBacklogThreshold e r v => exact s.request_completes e 4 _ false fun t => writeItem_sameQueue 33 r v.toInt t
  | writeConfigPriority e r v => exact s.request_completes e 4 _ false fun t => writeItem_sameQueue 34 r v.toInt t
  | writeZone e r z => exact s.request_completes e 5 _ false fun t => t.writeZoneRow_sameQueue r z
  | beginSlot e j h => exact s.request_completes e 6 _ false fun t => t.beginSlot_sameQueue j h
  | segment e j x f => exact s.request_completes e 7 _ false fun t => t.writeSegment_sameQueue j x f
  | commit e j crc => exact s.request_completes e 8 _ false fun t => t.commit_sameQueue j crc
  | select e j => exact s.request_completes e 9 _ false fun t => t.select_sameQueue j
  | drop e j => exact s.request_completes e 10 _ false fun t => t.drop_sameQueue j
  | enroll e h x f => exact s.request_completes e 11 _ false fun t => t.enrol_sameQueue h x f
  | calibrate e h f => exact s.request_completes e 12 _ false fun t => t.calibrate_sameQueue h f
  | withdraw e h => exact s.request_completes e 13 _ false fun t => t.withdraw_sameQueue h
  | release e h => exact s.request_completes e 14 _ false fun t => t.release_sameQueue h
  | clearFault e c => exact s.request_completes e 15 _ true fun t => t.clear_sameQueue c
  | popSnapshot e => exact s.request_completes e 16 _ false fun t => t.pop_sameQueue
  | resetPart e => exact s.request_completes e 17 _ false fun t => {}
  | resetPartResetBegin =>
    refine State.SameQueue.completes ?_
    split <;> exact {}
  | resetPartResetEnd straps =>
    refine State.SameQueue.completes ?_
    split
    · exact .trans (t := { s with resets := { s.resets with ringActive := false } }) {}
        (State.conditionEnded_sameQueue _ .ring straps)
    · exact {}
  | supplyLeavesRange cut => exact ((s.beginReset_sameQueue .power cut).trans {}).completes
  | supplyReentersRange => exact State.SameQueue.completes {}
  | powerOnResetEnd straps =>
    refine State.SameQueue.completes ?_
    split
    · exact .trans (t := { s with resets := { s.resets with powerOn := false } }) {}
        (State.conditionEnded_sameQueue _ .power straps)
    · exact {}
  | resetPinAssert cut => exact ((s.beginReset_sameQueue .pin cut).trans {}).completes
  | resetPinRelease straps =>
    refine State.SameQueue.completes ?_
    split
    · exact .trans (t := { s with resets := { s.resets with pin := false } }) {}
        (State.conditionEnded_sameQueue _ .pin straps)
    · exact {}
  | stopLineFall => exact s.lineFalls_sameQueue.completes
  | stopLineRise => exact s.lineRises_sameQueue.completes
  | gapTimerExpiry => exact (s.takeEvent_sameQueue s.gapExpired_sameQueue).completes
  | holdoverTimerExpiry => exact (s.takeEvent_sameQueue s.holdoverExpired_sameQueue).completes
  | ventTimerExpiry h => exact (s.takeEvent_sameQueue (Keeps.ventExpired (.refl s) h).sameQueue).completes
  | status f => exact (s.takeEvent_sameQueue (Keeps.receive (.refl s) f).sameQueue).completes
  | replyTimerExpiry => exact (s.takeEvent_sameQueue (s.endExchange_sameQueue none)).completes
  | pulseTimerExpiry => exact (s.takeEvent_sameQueue (f := fun s => { s with discharge := _ }) {}).completes
  | heartbeatTimerExpiry => exact (s.takeEvent_sameQueue s.heartbeatExpired_sameQueue).completes
  | verificationComplete => exact (s.takeEvent_sameQueue s.verification_sameQueue).completes

end

/-- Settles O1, by the two cases of the queue. -/
theorem stepRunsFrontCommand : Obligations.StepRunsFrontCommand := by
  refine ⟨fun s c rest e => ?_, fun s e => ?_⟩ <;> unfold step <;> rw [e]

/-- Settles O2, command by command. -/
theorem everyCommandCompletes : Obligations.EveryCommandCompletes := by
  intro i s
  obtain ⟨t, e, pending, arbiter⟩ := s.exec_completes i
  exact ⟨t, e, pending, arbiter⟩

end Sys2Proof.Machine

/-! PROOFS. The state right after reset (R177), the frames on ring-in (R152 to R161), the Report Queue (R165), and the
DOSE reports that a discharge master takes (R117 to R121). -/

namespace Sys2Proof.Machine

section
set_option Elab.async false

/-! ### Right after reset -/

theorem FaultUnit.reset_justReset (c : ResetCause) : (FaultUnit.reset c).JustReset c := by
  refine ⟨rfl, fun k n => ?_, ?_, rfl, rfl, rfl, rfl, rfl, rfl⟩
  · show (resetRecords c)[k.row] = _
    unfold resetRecords
    simp only [Fin.getElem_fin, Vector.getElem_set, Vector.getElem_map]
    cases k with
    | reset => exact absurd rfl n
    | _ => rfl
  · show (resetRecords c)[FaultClass.reset.row] = _
    unfold resetRecords
    simp only [Fin.getElem_fin, Vector.getElem_set]
    rfl

theorem State.cleared_holds (s : State) (c : ResetCause) : (s.cleared c).HoldsResetValues c := by
  have slots : ∀ j, (s.cleared c).slot j = .freed 0 := fun j => by simp [State.cleared, State.slot]
  have heads : ∀ h, (s.cleared c).head h = .blank := fun h => by simp [State.cleared, State.head]
  have freed : (Slot.freed 0).JustReset := ⟨rfl, rfl, rfl, rfl, rfl, rfl, fun k => by simp [Slot.freed, SegCell.blank]⟩
  have blank : Head.blank.JustReset := by simp [Head.JustReset, Head.blank, MeterRecord.blank, ScanRecord.blank]
  refine ⟨rfl, rfl, fun i => ?_, rfl, rfl, rfl, fun j => (slots j) ▸ freed, rfl, rfl, rfl, fun h => (heads h) ▸ blank, rfl,
    fun a => ?_, rfl, rfl, rfl, rfl, rfl, rfl, FaultUnit.reset_justReset c, rfl, rfl, rfl, rfl, rfl, rfl, rfl, rfl, rfl, rfl⟩
  · simp [State.cleared, ZoneRow.blank]
  · simp [State.cleared, Discharge.last, Discharge.reset]

theorem State.resetEnded_justReset (s : State) (c : ResetCause) (straps : BitVec 4) :
    (s.resetEnded c straps).JustReset c := by
  refine ⟨?_, rfl, rfl⟩
  have h := s.cleared_holds c
  exact h

theorem State.resetEnded_drives (s : State) (c : ResetCause) (straps : BitVec 4) :
    (s.resetEnded c straps).drives = true := by
  have stop : ((s.resetEnded c straps).record .reset).inStop = true := by
    have r := (FaultUnit.reset_justReset c).2.2.1
    exact congrArg ClassRecord.inStop r
  have full : (s.resetEnded c straps).stopEmpty = false := by
    rw [Bool.eq_false_iff]
    intro e
    rw [(State.stopEmpty_iff _).mp e .reset] at stop
    cases stop
  unfold State.drives
  rw [full]
  rfl

/-! ### Frames while the part is held in reset -/

theorem exec_held {i : Instr} {s : State} {f : Frame} (held : s.held = true) (e : ringFrameOf i = some f) :
    exec i s = .next { s with ringOut := s.ringOut ++ [f] } := by
  cases i with
  | angleFrame => cases e; exact congrArg Host.Outcome.next (State.takeFrame_held held _ _)
  | carrierFrame => cases e; exact congrArg Host.Outcome.next (State.takeFrame_held held _ _)
  | reportFrame => cases e; exact congrArg Host.Outcome.next (State.takeFrame_held held _ _)
  | replyFrame => cases e; exact congrArg Host.Outcome.next (State.takeFrame_held held _ _)
  | unknownKindFrame => cases e; exact congrArg Host.Outcome.next (State.takeFrame_held held _ _)
  | badFrame => cases e; exact congrArg Host.Outcome.next (State.takeFrame_held held _ _)
  | ringBypass => cases e; rfl
  | requestNotAddressed => cases e; exact congrArg Host.Outcome.next (State.takeFrame_held held _ _)
  | broadcast => cases e; exact congrArg Host.Outcome.next (State.takeFrame_held held _ _)
  | _ => cases e <;> exact congrArg Host.Outcome.next (State.takeRequest_held held _ _ _)

/-! ### Frames that a listening part takes -/

theorem exec_badFrame_live {s : State} (h : s.held = false) (f : Frame) :
    exec (.badFrame f) s = .next (s.countBad.sendRing f) :=
  congrArg Host.Outcome.next (State.takeFrame_live h _ _)

theorem State.countBad_below {s : State} (h : s.ring.badCount + 1 < s.ring.limit) :
    s.countBad = { s with ring := { s.ring with badCount := s.ring.badCount + 1 } } := by
  unfold State.countBad
  exact if_neg (Nat.not_le.mpr h)

theorem State.countBad_reached {s : State} (h : s.ring.limit ≤ s.ring.badCount + 1) :
    s.countBad = ({ s with ring := { s.ring with badCount := 0 } } : State).raisePart .ringCrc none none := by
  unfold State.countBad
  exact if_pos h

theorem exec_carrierFrame_live {s : State} (h : s.held = false) (content : List Byte) :
    exec (.carrierFrame content) s =
      .next (match s.reports.queue with
        | r :: rest => s.goodFrame.fillCarrier r rest
        | [] => s.goodFrame.sendRing (carrierBytes content)) :=
  congrArg Host.Outcome.next (State.takeFrame_live h _ _)

theorem exec_replyFrame_live {s : State} (h : s.held = false) (f : Frame) :
    exec (.replyFrame f) s = .next (s.goodFrame.sendRing f) :=
  congrArg Host.Outcome.next (State.takeFrame_live h _ _)

theorem exec_requestNotAddressed_live {s : State} (h : s.held = false) (q : RawRequest) :
    exec (.requestNotAddressed q) s = .next (s.goodFrame.sendRing (requestBytes q)) :=
  congrArg Host.Outcome.next (State.takeFrame_live h _ _)

/-- A REPORT as the part takes it: a DOSE report through the tracker, every other as it is (R158). -/
def State.takeReport (s : State) (source kind : Byte) (payload : List Byte) : State :=
  if kind.toNat = ReportKind.dose.code then s.goodFrame.takePassing source.toNat payload else s.goodFrame

theorem exec_reportFrame_live {s : State} (h : s.held = false) (source kind : Byte) (transmit : Half) (dropped : Byte)
    (payload : List Byte) :
    exec (.reportFrame source kind transmit dropped payload) s =
      .next ((s.takeReport source kind payload).sendRing (reportBytes source kind transmit dropped payload)) :=
  congrArg Host.Outcome.next (State.takeFrame_live h _ _)

theorem State.takePassing_keeps (s : State) (n : Nat) (bs : List Byte) : s.Keeps (s.takePassing n bs) := by
  unfold State.takePassing
  split
  · exact Keeps.takeDose (.refl s) _ _ _ _ _ _
  · exact .refl s

theorem State.takeReport_keeps (s : State) (source kind : Byte) (payload : List Byte) :
    s.goodFrame.Keeps (s.takeReport source kind payload) := by
  unfold State.takeReport
  split
  · exact State.takePassing_keeps _ _ _
  · exact .refl _

/-- A REPORT that the part does not take. -/
theorem State.takeReport_untaken {s : State} {source kind : Byte} (payload : List Byte)
    (h : kind ≠ 1 ∨ s.discharge.master = false ∨ source.toNat = s.management.address ∨ 15 ≤ source.toNat) :
    s.takeReport source kind payload = s.goodFrame := by
  unfold State.takeReport
  split
  · next dose =>
    have k : kind = 1 := BitVec.eq_of_toNat_eq dose
    refine dif_neg fun ⟨master, own, table⟩ => ?_
    rcases h with h | h | h | h
    · exact h k
    · exact absurd (h.symm.trans master) (by simp)
    · exact own h
    · exact absurd table (Nat.not_lt.mpr h)
  · rfl

/-- A DOSE report of another part that the discharge master takes. -/
theorem State.takeReport_dose {s : State} {a : Fin 15} {p : List Byte} {v : Verdict} (master : s.discharge.master = true)
    (other : a.val ≠ s.management.address) (verdict : Verdict.ofCode (byteAt p 1).toNat = some v) :
    s.takeReport (BitVec.ofNat 8 a.val) 1 p =
      s.goodFrame.takeDose a (halfAt p 25).toNat (byteAt p 3).toNat (halfAt p 4).toNat v
        { rev := (halfAt p 21).toNat, count := (halfAt p 23).toNat } := by
  have source : (BitVec.ofNat 8 a.val).toNat = a.val := by
    have := a.isLt
    rw [BitVec.toNat_ofNat]
    omega
  have taken : s.goodFrame.takePassing a.val p =
      s.goodFrame.takeDose a (halfAt p 25).toNat (byteAt p 3).toNat (halfAt p 4).toNat v
        { rev := (halfAt p 21).toNat, count := (halfAt p 23).toNat } := by
    unfold State.takePassing
    rw [dif_pos ⟨master, other, a.isLt⟩, verdict]
    rfl
  unfold State.takeReport
  rw [if_pos (show (1 : Byte).toNat = ReportKind.dose.code from rfl), source, taken]

end

/-- Settles O3. -/
theorem resetHoldsManualValues : Obligations.ResetHoldsManualValues :=
  ⟨State.resetEnded_justReset _ _ _, rfl, rfl, State.resetEnded_drives _ _ _⟩

/-- Settles O5. -/
theorem heldPartBypassesFrames : Obligations.HeldPartBypassesFrames := fun _ _ _ held e => exec_held held e

/-- Settles O7. -/
theorem badFramesAreCounted : Obligations.BadFramesAreCounted := by
  intro f s live
  refine ⟨fun below => ?_, fun reached => ?_⟩
  · rw [exec_badFrame_live live, State.countBad_below below]
    rfl
  · rw [exec_badFrame_live live, State.countBad_reached reached]

/-- Settles O8, by the two cases of the queue. -/
theorem carrierTakesHeadReport : Obligations.CarrierTakesHeadReport := by
  intro content s live
  refine ⟨fun r rest e => ?_, fun e => ?_⟩
  · rw [exec_carrierFrame_live live, e]
    rfl
  · rw [exec_carrierFrame_live live, e]
    rfl

/-- Settles O9. -/
theorem passingFramesGoOn : Obligations.PassingFramesGoOn := by
  intro s live
  refine ⟨fun f => exec_replyFrame_live live f, fun q => exec_requestNotAddressed_live live q,
    fun source kind transmit dropped payload => ⟨?_, fun untaken => ?_⟩⟩
  · have keeps := s.takeReport_keeps source kind payload
    exact ⟨_, exec_reportFrame_live live _ _ _ _ _, congrArg (· ++ [_]) keeps.ringOut, keeps.ring⟩
  · rw [exec_reportFrame_live live, State.takeReport_untaken payload untaken]
    rfl

end Sys2Proof.Machine

/-! PROOFS. The full Report Queue (R165), the DOSE reports that a discharge master takes (R117 to R121), and what taking a
request does before it is executed (R146 to R148, R153, R159, R160). -/

namespace Sys2Proof.Machine

section
set_option Elab.async false

/-! ### A full queue (R165) -/

theorem lowestPrio_eq {l : List Report} {low : Nat} (held : ∃ x ∈ l, x.prio = low) (least : ∀ x ∈ l, low ≤ x.prio)
    (bound : low ≤ 3) : lowestPrio l = low := by
  obtain ⟨x, hx, rfl⟩ := held
  have le := lowestPrio_le hx
  rcases lowestPrio_mem l with four | ⟨y, hy, e⟩
  · omega
  · have := least y hy
    omega

/-- In an ordered queue the last report has the lowest priority. -/
theorem ordered_last {kept : List Report} {x : Report} {low : Nat}
    (ordered : (kept ++ [x]).Pairwise fun a b => b.prio ≤ a.prio) (held : ∃ y ∈ kept ++ [x], y.prio = low)
    (least : ∀ y ∈ kept ++ [x], low ≤ y.prio) : x.prio = low := by
  refine Nat.le_antisymm ?_ (least x (by simp))
  obtain ⟨y, hy, rfl⟩ := held
  rcases List.mem_append.mp hy with hy | hy
  · exact (List.pairwise_append.mp ordered).2.2 y hy x (by simp)
  · rw [List.mem_singleton.mp hy]

theorem ReportQueue.place_full {q : ReportQueue} (full : q.queue.length = 32) (r : Report) :
    q.place r =
      if lowestPrio q.queue < r.prio then
        { q with queue := insertReport r (evict (lowestPrio q.queue) q.queue), dropped := true }
      else { q with dropped := true } := by
  unfold ReportQueue.place
  rw [if_neg (by rw [full]; exact Nat.lt_irrefl 32)]

/-! ### DOSE reports at the discharge master (R117 to R121) -/

theorem insertEntry_split (cpr : Nat) (e : RejectEntry) (l : List RejectEntry) :
    ∃ before after, l = before ++ after ∧ insertEntry cpr e l = before ++ e :: after ∧
      (∀ x ∈ before, reached cpr x.due e.due = true) ∧ ∀ x ∈ after.head?, reached cpr x.due e.due = false := by
  induction l with
  | nil => exact ⟨[], [], rfl, rfl, by simp, by simp⟩
  | cons x xs ih =>
    cases h : reached cpr x.due e.due
    · exact ⟨[], x :: xs, rfl, by simp [insertEntry, h], by simp, by simpa using h⟩
    · obtain ⟨before, after, split, inserted, front, back⟩ := ih
      refine ⟨x :: before, after, by rw [split]; rfl, by simp [insertEntry, h, inserted], ?_, back⟩
      intro y hy
      rcases List.mem_cons.mp hy with rfl | hy
      · exact h
      · exact front y hy

/-- The state once a gap in the dose sequence of a source has been told (R118). -/
def State.gapTold (s : State) (a : Fin 15) (seq station : Nat) : State :=
  if s.discharge.gap a seq then s.raisePart .rejectGap (some station) none else s

/-- The dose sequence kept for its source. -/
def State.seqKept (s : State) (a : Fin 15) (seq station : Nat) : State :=
  { s.gapTold a seq station with
    discharge := { s.discharge with lastSeq := s.discharge.lastSeq.set a (some seq) } }

theorem State.gapTold_keeps (s : State) (a : Fin 15) (seq station : Nat) : s.Keeps (s.gapTold a seq station) := by
  unfold State.gapTold
  split
  · exact Keeps.raisePart (.refl s) _ _ _
  · exact .refl s

theorem State.gapTold_discharge (s : State) (a : Fin 15) (seq station : Nat) :
    (s.gapTold a seq station).discharge = s.discharge := by
  unfold State.gapTold
  split
  · simp
  · rfl

theorem State.gapTold_eq (s : State) (a : Fin 15) (seq station : Nat) :
    s.gapTold a seq station =
      match s.discharge.last a with
      | some l => if seq = (l + 1) % 65536 then s else s.raisePart .rejectGap (some station) none
      | none => s := by
  unfold State.gapTold Discharge.gap
  cases s.discharge.last a with
  | none => rfl
  | some l => by_cases e : seq = (l + 1) % 65536 <;> simp [e]

theorem Discharge.duplicate_iff (d : Discharge) (a : Fin 15) (seq : Nat) :
    d.duplicate a seq = true ↔ (∃ e ∈ d.schedule, e.source = a.val ∧ e.seq = seq) ∨ d.last a = some seq := by
  simp [Discharge.duplicate]

theorem State.takeDose_duplicate {s : State} {a : Fin 15} {seq : Nat} (h : s.discharge.duplicate a seq = true)
    (station cycle : Nat) (v : Verdict) (pos : Pos) : s.takeDose a seq station cycle v pos = s := if_pos h

theorem State.takeDose_fresh {s : State} {a : Fin 15} {seq : Nat} (h : ¬s.discharge.duplicate a seq = true)
    (station cycle : Nat) (v : Verdict) (pos : Pos) :
    s.takeDose a seq station cycle v pos =
      if v.rejected then
        (s.seqKept a seq station).schedule
          { source := a, seq := seq, station := station, cycle := cycle, verdict := v, pos := pos
            due := dueAt s.tracker.cpr s.discharge.gate pos }
      else s.seqKept a seq station := by
  have known : ({ s.gapTold a seq station with
      discharge := { (s.gapTold a seq station).discharge with
        lastSeq := (s.gapTold a seq station).discharge.lastSeq.set a (some seq) } } : State) =
      s.seqKept a seq station := by
    unfold State.seqKept
    rw [State.gapTold_discharge]
  have cpr : (s.seqKept a seq station).tracker.cpr = s.tracker.cpr :=
    congrArg Tracker.cpr (s.gapTold_keeps a seq station).tracker
  have body : ∀ u : State, u = s.seqKept a seq station →
      (if v.rejected then
        u.schedule
          { source := a, seq := seq, station := station, cycle := cycle, verdict := v, pos := pos
            due := dueAt u.tracker.cpr u.discharge.gate pos }
      else u) =
      if v.rejected then
        (s.seqKept a seq station).schedule
          { source := a, seq := seq, station := station, cycle := cycle, verdict := v, pos := pos
            due := dueAt s.tracker.cpr s.discharge.gate pos }
      else s.seqKept a seq station := by
    rintro u rfl
    rw [cpr]
    rfl
  unfold State.takeDose
  rw [if_neg h]
  exact body _ known

theorem State.late_iff (s : State) (due : Nat) :
    s.late due = true ↔
      ∃ q, s.tracker.pos = some q ∧ reached s.tracker.cpr due (absolute s.tracker.cpr q) = true := by
  unfold State.late
  split
  · next q e => simp [e]
  · next e => simp [e]

theorem State.seqKept_late (s : State) (a : Fin 15) (seq station due : Nat) :
    (s.seqKept a seq station).late due = s.late due := by
  have tracker : (s.seqKept a seq station).tracker = s.tracker := (s.gapTold_keeps a seq station).tracker
  unfold State.late
  rw [tracker]

theorem State.schedule_late {s : State} {e : RejectEntry} (h : s.late e.due = true) :
    s.schedule e = s.raisePart .rejectLate (some e.station) none := if_pos h

theorem State.schedule_full {s : State} {e : RejectEntry} (h : ¬s.late e.due = true)
    (full : 64 ≤ s.discharge.schedule.length) : s.schedule e = s.raisePart .rejectFull (some e.station) none := by
  unfold State.schedule
  rw [if_neg h]
  exact if_pos full

theorem State.schedule_room {s : State} {e : RejectEntry} (h : ¬s.late e.due = true)
    (room : s.discharge.schedule.length < 64) :
    s.schedule e =
      { s with discharge := { s.discharge with schedule := insertEntry s.tracker.cpr e s.discharge.schedule } } := by
  unfold State.schedule
  rw [if_neg h]
  exact if_neg (Nat.not_le.mpr room)

theorem Verdict.rejected_iff (v : Verdict) : v.rejected = true ↔ v ≠ .good ∧ v ≠ .empty := by
  cases v <;> simp [Verdict.rejected]

/-! ### Requests and broadcasts (R159, R160) -/

theorem State.hears.live {s : State} {e : Envelope} (h : s.hears e) : s.held = false := h.1

theorem State.taken_eq (s : State) : s.taken = s.goodFrame.plainRestart := rfl

/-- A part that hears a request under its address hears the kinds outside the seventeen (R169). -/
theorem State.takeRequest_own {s : State} (live : s.held = false) {q : RawRequest}
    (own : q.address.toNat = s.management.address) (address : s.management.address ≤ 14) (b : Bool)
    (run : State → Answer) :
    s.takeRequest q b run =
      (run s.taken).after.sendRing
        (replyBytes q.address q.kind q.tag (BitVec.ofNat 8 (run s.taken).status.code) (run s.taken).contents) := by
  have ne : ¬q.address = 15 := by
    intro c
    rw [c] at own
    simp at own
    omega
  unfold State.takeRequest
  rw [State.takeFrame_live live]
  dsimp only
  rw [if_neg ne, if_pos (show q.address.toNat = s.goodFrame.management.address from own)]
  rfl

theorem exec_broadcast_live {s : State} (live : s.held = false) (q : RawRequest) :
    exec (.broadcast q) s = .next (s.taken.sendRing (requestBytes q)) :=
  congrArg Host.Outcome.next (State.takeFrame_live live _ _)

/-- A broadcast of a kind that broadcast takes has the effect of the addressed request. -/
theorem State.takeEither_broadcast {s : State} (live : s.held = false) {e : Envelope} (broadcast : e.address = 15)
    (kind : Byte) (used : List Byte) (run : State → Answer) :
    s.takeEither e kind used run = (run s.taken).after.sendRing (requestBytes (rawOf e kind used)) := by
  unfold State.takeEither
  rw [State.takeRequest_broadcast live _ broadcast]
  rfl

theorem exec_heartbeat_hears {s : State} {e : Envelope} (h : s.hears e) (n : Nat) :
    exec (.heartbeat e n) s =
      .next ((if s.windowMode then s.taken.windowHeartbeat n else s.taken).replied e 1 .ok []) :=
  congrArg Host.Outcome.next (State.takeEither_hears h 1 _ _)

/-! ### The watchdog (R146 to R148) -/

theorem State.windowMode_iff (s : State) : s.windowMode = true ↔ 0 < s.faults.watchdog.lowerTaken := by
  simp [State.windowMode]

theorem State.taken_window {s : State} (h : 0 < s.faults.watchdog.lowerTaken) : s.taken = s.goodFrame := by
  unfold State.taken State.plainRestart
  exact if_pos ((State.windowMode_iff _).mpr h)

theorem State.taken_plain {s : State} (h : s.faults.watchdog.lowerTaken = 0) :
    s.taken = s.goodFrame.restartWatchdog := by
  unfold State.taken State.plainRestart
  refine if_neg fun w => ?_
  have pos : 0 < s.faults.watchdog.lowerTaken := (State.windowMode_iff _).mp w
  omega

theorem State.restartWatchdog_disabled {s : State} (h : s.faults.watchdog.state = .disabled) :
    s.restartWatchdog = s := by
  unfold State.restartWatchdog
  rw [h]

theorem State.restartWatchdog_watching {s : State} (h : s.faults.watchdog.state = .watching) :
    s.restartWatchdog = s.setWatchdog s.faults.watchdog.start := by
  unfold State.restartWatchdog
  rw [h]

theorem State.restartWatchdog_waiting {s : State} (h : s.faults.watchdog.state = .waiting) :
    s.restartWatchdog = (s.setWatchdog s.faults.watchdog.start).setCondition .heartbeat false := by
  unfold State.restartWatchdog
  rw [h]

theorem State.windowHeartbeat_early {s : State} {n : Nat} (h : s.faults.watchdog.state = .watching)
    (early : n < s.faults.watchdog.lowerTaken * 10000) :
    s.windowHeartbeat n =
      (s.setWatchdog { s.faults.watchdog with state := .waiting, timer := none }).raisePart .heartbeatEarly none none :=
  if_pos ⟨h, early⟩

theorem State.windowHeartbeat_restarts {s : State} {n : Nat}
    (h : ¬(s.faults.watchdog.state = .watching ∧ n < s.faults.watchdog.lowerTaken * 10000)) :
    s.windowHeartbeat n = s.restartWatchdog := if_neg h

end

/-- Settles O53: the newest report of the lowest priority is the last of an ordered queue. -/
theorem fullQueueEvictsOrDrops : Obligations.FullQueueEvictsOrDrops := by
  intro q r low full ordered held least bound
  have lowest := lowestPrio_eq held least bound
  have place := q.place_full full r
  rw [lowest] at place
  refine ⟨fun drop => place.trans (if_neg (Nat.not_lt.mpr drop)), fun evicts => ?_⟩
  rw [if_pos evicts] at place
  have some_ : q.queue ≠ [] := by intro c; rw [c] at full; cases full
  obtain ⟨kept, evicted, e⟩ : ∃ kept evicted, q.queue = kept ++ [evicted] :=
    ⟨_, _, (List.dropLast_append_getLast some_).symm⟩
  rw [e] at ordered held least place
  have prio := ordered_last ordered held least
  obtain ⟨before, after, split, inserted, higher, lower⟩ :=
    insertReport_ordered_split r (ordered.sublist (List.sublist_append_left kept [evicted]))
  refine ⟨kept, evicted, before, after, e, prio, split, higher, lower, ?_⟩
  rw [place, ← prio, evict_last, inserted]

/-- Settles O10, branch by branch of the judgement. -/
theorem doseReportsJudged : Obligations.DoseReportsJudged := by
  refine ⟨insertEntry_split, fun s a seq station cycle v pos => ?_, fun a transmit dropped p s v live master other verdict => ?_⟩
  · intro t due told known duplicate late
    have told_eq : told = s.gapTold a seq station := (s.gapTold_eq a seq station).symm
    have known_eq : known = s.seqKept a seq station := by
      show ({ told with discharge := _ } : State) = _
      rw [told_eq]
      rfl
    have dup : duplicate ↔ s.discharge.duplicate a seq = true := (s.discharge.duplicate_iff a seq).symm
    have late_eq : late ↔ (s.seqKept a seq station).late due = true := by
      rw [State.seqKept_late]
      exact (s.late_iff due).symm
    have fresh : ¬duplicate → v ≠ .good → v ≠ .empty →
        t = (s.seqKept a seq station).schedule
          { source := a, seq := seq, station := station, cycle := cycle, verdict := v, pos := pos, due := due } := by
      intro d good empty
      exact (State.takeDose_fresh (mt dup.mpr d) station cycle v pos).trans
        (if_pos (v.rejected_iff.mpr ⟨good, empty⟩))
    rw [known_eq]
    refine ⟨fun d => State.takeDose_duplicate (dup.mp d) _ _ _ _, fun d passes => ?_, fun d g e l => ?_,
      fun d g e l full => ?_, fun d g e l room => ?_⟩
    · refine (State.takeDose_fresh (mt dup.mpr d) station cycle v pos).trans (if_neg fun r => ?_)
      obtain ⟨good, empty⟩ := v.rejected_iff.mp r
      exact passes.elim good empty
    · exact (fresh d g e).trans (State.schedule_late (late_eq.mp l))
    · exact (fresh d g e).trans (State.schedule_full (mt late_eq.mpr l) full)
    · have inserted := State.schedule_room (s := s.seqKept a seq station)
        (e := { source := a, seq := seq, station := station, cycle := cycle, verdict := v, pos := pos, due := due })
        (mt late_eq.mpr l) room
      refine (fresh d g e).trans (inserted.trans ?_)
      have tracker : (s.seqKept a seq station).tracker = s.tracker := (s.gapTold_keeps a seq station).tracker
      rw [tracker]
      rfl
  · intro good
    rw [exec_reportFrame_live live, State.takeReport_dose master other verdict]
    rfl

/-- Settles O11. -/
theorem broadcastsAndUnknownRequests : Obligations.BroadcastsAndUnknownRequests := by
  intro s live
  refine ⟨fun q => ?_, fun q own address => ?_, fun e m => ⟨fun b => ?_, fun h => ?_⟩, fun e c => ⟨fun b => ?_, fun h => ?_⟩,
    fun e n => ⟨fun b => ?_, fun h => ?_⟩⟩
  · rw [exec_broadcast_live live, State.sendRing, State.taken_ringOut]
  · refine (congrArg Host.Outcome.next (State.takeRequest_own live own address false _)).trans ?_
    rw [← State.taken_ringOut s]
    rfl
  · exact congrArg Host.Outcome.next (State.takeEither_broadcast live b 2 _ _)
  · exact congrArg Host.Outcome.next (State.takeEither_hears h 2 _ _)
  · exact congrArg Host.Outcome.next (State.takeEither_broadcast live b 15 _ _)
  · exact congrArg Host.Outcome.next (State.takeEither_hears h 15 _ _)
  · refine (congrArg Host.Outcome.next (State.takeEither_broadcast live b 1 _ _)).trans ?_
    simp only [State.done, State.windowMode_iff]
  · rw [exec_heartbeat_hears h]
    simp only [State.windowMode_iff]

/-- Settles O12, by the watchdog's state in plain mode and in window mode. -/
theorem requestsAndWatchdog : Obligations.RequestsAndWatchdog := by
  refine ⟨fun s => ?_, fun e elapsed s h => ?_⟩
  · intro good restarted
    refine ⟨fun idle => ?_, fun plain watching => ?_, fun plain waiting => ?_⟩
    · rcases Nat.eq_zero_or_pos s.faults.watchdog.lowerTaken with plain | window
      · rw [State.taken_plain plain, State.restartWatchdog_disabled (s := s.goodFrame) (idle.resolve_left (by omega))]
        rfl
      · rw [State.taken_window window]
        rfl
    · rw [State.taken_plain plain, State.restartWatchdog_watching (s := s.goodFrame) watching]
      rfl
    · rw [State.taken_plain plain, State.restartWatchdog_waiting (s := s.goodFrame) waiting]
      rfl
  · intro w good restarted
    have windowed : 0 < w.lowerTaken →
        exec (.heartbeat e elapsed) s = .next ((s.goodFrame.windowHeartbeat elapsed).replied e 1 .ok []) := by
      intro window
      rw [exec_heartbeat_hears h, if_pos (s.windowMode_iff.mpr window), State.taken_window window]
    refine ⟨fun idle => ?_, fun window watching late => ?_, fun window waiting => ?_, fun window watching early => ?_⟩
    · rcases Nat.eq_zero_or_pos w.lowerTaken with plain | window
      · rw [exec_heartbeat_hears h, if_neg fun c => ?_]
        exact absurd (s.windowMode_iff.mp c) (Nat.not_lt.mpr (Nat.le_of_eq plain))
      · have disabled : s.faults.watchdog.state = .disabled := idle.resolve_left (by omega)
        have restarts : s.goodFrame.windowHeartbeat elapsed = s.goodFrame.restartWatchdog :=
          State.windowHeartbeat_restarts fun c => by
            have watching : s.faults.watchdog.state = .watching := c.1
            rw [disabled] at watching
            cases watching
        rw [windowed window, State.taken_window window, restarts,
          State.restartWatchdog_disabled (s := s.goodFrame) disabled]
    · rw [windowed window, State.windowHeartbeat_restarts (s := s.goodFrame) fun c => absurd c.2 (Nat.not_lt.mpr late),
        State.restartWatchdog_watching (s := s.goodFrame) watching]
      rfl
    · have restarts : s.goodFrame.windowHeartbeat elapsed = s.goodFrame.restartWatchdog :=
        State.windowHeartbeat_restarts fun c => by
          have watching : s.faults.watchdog.state = .watching := c.1
          rw [show s.faults.watchdog.state = .waiting from waiting] at watching
          cases watching
      rw [windowed window, restarts, State.restartWatchdog_waiting (s := s.goodFrame) waiting]
      rfl
    · rw [windowed window, State.windowHeartbeat_early (s := s.goodFrame) watching early]
      rfl

end Sys2Proof.Machine

/-! PROOFS. Which class records an operation of the Fault Unit changes (R133 to R137, R142): a part-scoped raise that of
its class, a context parity error those of TABLE, EXTERNAL and LOCKOUT at most. -/

namespace Sys2Proof.Machine

section
set_option Elab.async false
variable {s t : State}

/-- The classes whose records an entry to SAFE or a parity error may change: TABLE by the parity error, EXTERNAL as the
part begins to drive the stop line, LOCKOUT as a head enters it. -/
def FaultClass.parityTouched (c : FaultClass) : Prop := c = .table ∨ c = .external ∨ c = .lockout

theorem State.addStop_record_other {c d : FaultClass} (n : d ≠ c) (x : d ≠ .external) :
    (s.addStop c).record d = s.record d := by
  unfold State.addStop
  dsimp only
  split
  · rw [State.record_updRecord_eq, if_neg x, State.record_updRecord_eq, if_neg n]
  · rw [State.record_updRecord_eq, if_neg n]

theorem State.addStop_record_self {c : FaultClass} (x : c ≠ .external) :
    (s.addStop c).record c = { s.record c with inStop := true } := by
  unfold State.addStop
  dsimp only
  split
  · rw [State.record_updRecord_eq, if_neg x, State.record_updRecord_eq, if_pos rfl]
  · rw [State.record_updRecord_eq, if_pos rfl]

theorem State.latchReport_record_other {k : Cause} {d : FaultClass} (n : d ≠ k.cls) (a b : Option Nat) :
    (s.latchReport k a b).record d = s.record d := by
  rw [State.latchReport_record, if_neg n]

@[simp] theorem State.pushSnapshot_record (h : HeadId) (k : Cause) (d : FaultClass) :
    (s.pushSnapshot h k).record d = s.record d := by
  unfold State.pushSnapshot
  split <;> rfl

theorem State.parityEntry_record {d : FaultClass} (n : d ≠ .table) (h : HeadId) :
    (s.parityEntry h).record d = s.record d := by
  have read : ((s.parityRead h).parityRecord h).record d = s.record d := by
    rw [State.record_congr (congrArg FaultUnit.records (State.parityRecord_faults _ h))]
    show ((s.latchReport .contextParity _ _).pushSnapshot h .contextParity).record d = _
    rw [State.pushSnapshot_record, State.latchReport_record_other n]
  unfold State.parityEntry
  split <;> rw [← read] <;> refine State.record_congr (congrArg FaultUnit.records ?_) d <;> simp

theorem State.parityCore_record {d : FaultClass} (n : ¬d.parityTouched) (h : HeadId) :
    (s.parityCore h).record d = s.record d := by
  have table : d ≠ .table := fun e => n (Or.inl e)
  have external : d ≠ .external := fun e => n (Or.inr (Or.inl e))
  by_cases off : (s.head h).state = .off
  · rw [State.parityCore_off off]
  by_cases lockout : (s.head h).state = .lockout
  · refine State.record_congr (congrArg FaultUnit.records ?_) d
    unfold State.parityCore
    rw [lockout]
    dsimp only
    split <;> simp
  · rw [State.parityCore_live off lockout]
    split
    · rw [State.addStop_record_other table external, State.parityEntry_record table]
    · exact State.parityEntry_record table h

theorem State.abortHead_record (h : HeadId) (k : SkipReason) (c : Option Cause) (d : FaultClass) :
    (s.abortHead h k c).record d = s.record d :=
  State.record_congr (congrArg FaultUnit.records (State.abortHead_faults s h k c)) d

theorem State.safeAbort_record {d : FaultClass} (n : ¬d.parityTouched) (c : Option Cause) :
    (s.safeAbort c).record d = s.record d := by
  rw [State.safeAbort_eq]
  generalize s.headOrder = heads
  induction heads generalizing s with
  | nil => rfl
  | cons h rest ih =>
    refine ih.trans ?_
    unfold State.safeAbortStep
    split
    · split
      · exact State.abortHead_record h _ _ d
      · exact State.parityCore_record n h
    · rfl

theorem State.enterSafe_record {d : FaultClass} (n : ¬d.parityTouched) (c : Option Cause) :
    (s.enterSafe c).record d = s.record d := by
  rw [State.enterSafe_eq]
  split
  · rfl
  · exact State.safeAbort_record (s := s.safed) n c

theorem State.checkLockout_record {d : FaultClass} (n : ¬d.parityTouched) : s.checkLockout.record d = s.record d := by
  have lockout : d ≠ .lockout := fun e => n (Or.inr (Or.inr e))
  have external : d ≠ .external := fun e => n (Or.inr (Or.inl e))
  unfold State.checkLockout
  split
  · rw [State.enterSafe_record n]
    rw [State.addStop_record_other lockout external]
    rw [State.latchReport_record_other lockout, State.record_updRecord_eq, if_neg lockout]
  · rfl

theorem State.contextParity_record {d : FaultClass} (n : ¬d.parityTouched) (h : HeadId) :
    (s.contextParity h).record d = s.record d := by
  unfold State.contextParity
  dsimp only
  rw [State.checkLockout_record n]
  split
  · rw [State.enterSafe_record n, State.parityCore_record n]
  · exact State.parityCore_record n h

theorem State.haltAbort_record {d : FaultClass} (n : ¬d.parityTouched) (c : Cause) :
    (s.haltAbort c).record d = s.record d := by
  rw [State.haltAbort_eq]
  generalize s.headOrder = heads
  induction heads generalizing s with
  | nil => rfl
  | cons h rest ih =>
    refine ih.trans ?_
    unfold State.haltAbortStep State.headEvent
    split
    · split
      · rfl
      · split
        · exact State.abortHead_record h _ _ d
        · exact State.contextParity_record n h
    · rfl

/-- A class record once a cause has been raised part-scoped: latched, and with its action's flag (R134, R135). -/
def ClassRecord.raised (r : ClassRecord) (c : Cause) (station : Option Nat) : ClassRecord :=
  { r with
    latched := true, lastCause := some c, lastStation := station
    bars := r.bars || (r.action == .hold || r.action == .halt), inStop := r.inStop || r.action == .stop }

/-- A part-scoped raise changes the record of its class, and no other that a parity error does not touch. -/
theorem State.raisePart_record {d : FaultClass} (n : ¬d.parityTouched) (c : Cause) (a b : Option Nat) :
    (s.raisePart c a b).record d = if d = c.cls then (s.record d).raised c a else s.record d := by
  have external : d ≠ .external := fun e => n (Or.inr (Or.inl e))
  have latched := State.latchReport_record s c a b d
  unfold State.raisePart
  dsimp only
  split
  · next act =>
    rw [latched]
    split
    · next e => subst e; simp [ClassRecord.raised, act]
    · rfl
  · next act =>
    rw [State.record_updRecord_eq, latched]
    split
    · next e => subst e; simp [ClassRecord.raised, act]
    · rfl
  · next act =>
    rw [State.haltAbort_record n, State.record_updRecord_eq, latched]
    split
    · next e => subst e; simp [ClassRecord.raised, act]
    · rfl
  · next act =>
    rw [State.enterSafe_record n]
    split
    · next e =>
      rw [latched, if_neg (by rw [e]; exact external), if_neg (by rw [e]; exact external)]
    · by_cases e : d = c.cls
      · subst e
        rw [State.addStop_record_self external, latched]
        simp [ClassRecord.raised, act]
      · rw [State.addStop_record_other e external, latched, if_neg e, if_neg e]

end
end Sys2Proof.Machine

/-! PROOFS. The writes of the configuration items (R173): what each stores and in which range. -/

namespace Sys2Proof.Machine

section
set_option Elab.async false
variable {s t : State} {e : Envelope} {f : State → Answer} {b : Bool}

/-! ### Ranges and answers -/

theorem inRange_iff {v : Int} {lo hi : Nat} : inRange v lo hi = true ↔ (lo : Int) ≤ v ∧ v ≤ hi := by
  simp [inRange]

theorem powerLimit_iff {v : Int} : powerLimit v = true ↔ v = 1 ∨ v = 2 ∨ v = 4 ∨ v = 8 := by
  simp [powerLimit, or_assoc]

theorem State.ranged_ok (h : b = true) : s.ranged b t = t.done := if_pos h

theorem State.ranged_bad (h : ¬b = true) : s.ranged b t = s.refuse .badValue := if_neg h

theorem State.outsideProduction_free (h : s.faults.mode ≠ .production) : s.outsideProduction f = f s := if_neg h

theorem State.outsideProduction_refused (h : s.faults.mode = .production) :
    s.outsideProduction f = s.refuse .refusedMode := if_pos h

theorem State.outsideProduction_ranged {b : State → Bool} {t : State → State} (h : s.faults.mode ≠ .production)
    (ok : b s = true) : s.outsideProduction (fun s => s.ranged (b s) (t s)) = (t s).done :=
  (State.outsideProduction_free h).trans (State.ranged_ok ok)

theorem State.outsideProduction_unranged {b : State → Bool} {t : State → State} (h : s.faults.mode ≠ .production)
    (bad : ¬b s = true) : s.outsideProduction (fun s => s.ranged (b s) (t s)) = s.refuse .badValue :=
  (State.outsideProduction_free h).trans (State.ranged_bad bad)

/-- A WRITE_CONFIG that the part hears is answered as its item says. -/
theorem State.takeWrite_hears (h : s.hears e) (item x : Byte) (value : Word) (write : State → Answer) :
    s.takeWrite e item x value write = (write s.taken).reply e 4 := State.takeAddressed_hears h 4 _ _

theorem State.takeWrite_ok (h : s.hears e) {item x : Byte} {value : Word} {write : State → Answer}
    (w : write s.taken = t.done) :
    (.next (s.takeWrite e item x value write) : Host.Outcome State Fault Refusal) = .next (t.wrote e) := by
  rw [State.takeWrite_hears h, w]
  rfl

theorem State.takeWrite_refused (h : s.hears e) {item x : Byte} {value : Word} {write : State → Answer}
    {st : ReplyStatus} (w : write s.taken = s.taken.refuse st) :
    (.next (s.takeWrite e item x value write) : Host.Outcome State Fault Refusal) =
      .next (s.taken.replied e 4 st []) := by
  rw [State.takeWrite_hears h, w]
  rfl

theorem State.takeWrite_bad (h : s.hears e) {item x : Byte} {value : Word} {write : State → Answer}
    (w : write s.taken = s.taken.refuse .badValue) :
    (.next (s.takeWrite e item x value write) : Host.Outcome State Fault Refusal) = .next (s.taken.badValue e) :=
  State.takeWrite_refused h w

end

/-- Settles O19, item by item. -/
theorem writesInEveryMode : Obligations.WritesInEveryMode := by
  intro e x v s h
  refine ⟨fun lo hi => ?_, fun lo hi => ?_, fun g code => ?_, fun lo hi => ?_, fun lo hi => ?_, fun lo hi => ?_,
    fun lo hi => ?_, fun lo hi => ?_, fun lo hi => ?_, fun power => ?_, fun lo hi => ?_, fun power => ?_, fun lo hi => ?_⟩
  case refine_3 =>
    refine State.takeWrite_ok h ?_
    show (match TrackEdge.ofCode v.toInt with | some g => _ | none => _) = _
    rw [code]
    cases g <;> rfl
  case refine_10 => exact State.takeWrite_ok h (State.ranged_ok (powerLimit_iff.mpr power))
  case refine_12 => exact State.takeWrite_ok h (State.ranged_ok (powerLimit_iff.mpr power))
  all_goals exact State.takeWrite_ok h (State.ranged_ok (inRange_iff.mpr ⟨lo, hi⟩))

section
set_option Elab.async false
variable {s : State} {v : Int}

/-! ### The items with a check of their own -/

theorem Head.enrolled_iff (c : Head) : c.enrolled = true ↔ c.state ≠ .off := by simp [Head.enrolled]

theorem State.anyHead_enrolled_iff (s : State) :
    s.heads.toList.any Head.enrolled = true ↔ ∃ h, (s.head h).state ≠ .off := by
  simp only [State.heads_any, Head.enrolled_iff]

theorem State.enrolledAbove_iff (s : State) (v : Int) :
    (allHeads.any fun h => v ≤ (h.val : Int) && (s.head h).enrolled) = true ↔
      ∃ h : HeadId, v ≤ (h.val : Int) ∧ (s.head h).state ≠ .off := by
  rw [List.any_eq_true]
  simp only [Bool.and_eq_true, decide_eq_true_eq, Head.enrolled_iff]
  exact ⟨fun ⟨h, _, e⟩ => ⟨h, e⟩, fun ⟨h, e⟩ => ⟨h, mem_allHeads h, e⟩⟩

/-- The range of a head count: 1 to 48, with the stations from the base on within a byte. -/
def State.HeadCountRanged (s : State) (v : Int) : Prop :=
  1 ≤ v ∧ v ≤ 48 ∧ (s.management.stationBase : Int) + v - 1 ≤ 255

theorem State.headCountRanged_iff (s : State) (v : Int) :
    (!(inRange v 1 48 && (s.management.stationBase : Int) + v - 1 ≤ 255)) = true ↔ ¬s.HeadCountRanged v := by
  unfold State.HeadCountRanged
  rw [Bool.not_eq_true', ← Bool.not_eq_true, Bool.and_eq_true, inRange_iff, decide_eq_true_eq, and_assoc]
  rfl

theorem State.writeHeadCount_ok (free : s.faults.mode ≠ .production) (ranged : s.HeadCountRanged v)
    (off : ∀ h : HeadId, v ≤ (h.val : Int) → (s.head h).state = .off) :
    s.writeHeadCount v = State.done { s with management := { s.management with headCount := v.toNat } } := by
  refine (State.outsideProduction_free free).trans ?_
  dsimp only
  rw [if_neg fun c => (s.headCountRanged_iff v).mp c ranged,
    if_neg fun c => by
      obtain ⟨h, above, live⟩ := (s.enrolledAbove_iff v).mp c
      exact live (off h above)]

theorem State.writeHeadCount_enrolled (free : s.faults.mode ≠ .production) (ranged : s.HeadCountRanged v) {h : HeadId}
    (above : v ≤ (h.val : Int)) (live : (s.head h).state ≠ .off) : s.writeHeadCount v = s.refuse .refusedState := by
  refine (State.outsideProduction_free free).trans ?_
  dsimp only
  rw [if_neg fun c => (s.headCountRanged_iff v).mp c ranged, if_pos ((s.enrolledAbove_iff v).mpr ⟨h, above, live⟩)]

theorem State.writeHeadCount_bad (free : s.faults.mode ≠ .production) (bad : ¬s.HeadCountRanged v) :
    s.writeHeadCount v = s.refuse .badValue :=
  (State.outsideProduction_free free).trans (if_pos ((s.headCountRanged_iff v).mpr bad))

end

/-- Settles O20, item by item. -/
theorem writesOutsideProduction : Obligations.WritesOutsideProduction := by
  intro e x v s h free
  have free' : s.taken.faults.mode ≠ .production := by rw [State.taken_faults_mode]; exact free
  dsimp only
  refine ⟨fun lo hi cpr => ?_, fun lo hi => ?_, fun lo hi => ?_, fun lo below angle => ?_, fun lo below above => ?_,
    fun lo hi base off => ?_, fun lo hi base ⟨g, above, live⟩ => ?_, fun lo hi count => ?_, fun cpr lo hi => ?_,
    fun lo hi => ?_⟩
  · refine State.takeWrite_ok h (State.outsideProduction_ranged free' ?_)
    simp only [Bool.and_eq_true, Bool.or_eq_true, inRange_iff, decide_eq_true_eq, beq_iff_eq]
    omega
  · exact State.takeWrite_ok h (State.outsideProduction_ranged free' (inRange_iff.mpr ⟨lo, hi⟩))
  · exact State.takeWrite_ok h (State.outsideProduction_ranged free' (inRange_iff.mpr ⟨lo, hi⟩))
  · refine State.takeWrite_ok h (State.outsideProduction_ranged free' ?_)
    simp only [Bool.and_eq_true, Bool.or_eq_true, decide_eq_true_eq, beq_iff_eq]
    omega
  · refine State.takeWrite_ok h (State.outsideProduction_ranged free' ?_)
    simp only [Bool.and_eq_true, decide_eq_true_eq]
    omega
  · refine State.takeWrite_ok h (State.writeHeadCount_ok free' ⟨lo, hi, by omega⟩ fun g above => off g ?_)
    omega
  · exact State.takeWrite_refused h (State.writeHeadCount_enrolled free' ⟨lo, hi, by omega⟩ (by omega) live)
  · refine State.takeWrite_ok h (State.outsideProduction_ranged free' ?_)
    simp only [Bool.and_eq_true, Bool.or_eq_true, inRange_iff, decide_eq_true_eq, beq_iff_eq]
    omega
  · refine State.takeWrite_ok h (State.outsideProduction_ranged free' ?_)
    simp only [Bool.and_eq_true, inRange_iff, bne_iff_ne]
    omega
  · exact State.takeWrite_ok h (State.outsideProduction_ranged free' (inRange_iff.mpr ⟨lo, hi⟩))

end Sys2Proof.Machine

/-! PROOFS. The writes of the configuration items that do more than store a value, those with a selector, the writes that
are refused (R3, R114, R132, R142, R143, R146, R163, R173), and WRITE_ZONE (R19). -/

namespace Sys2Proof.Machine

section
set_option Elab.async false
variable {s : State} {v : Int} {e : Envelope}

/-! ### CPR and master enable (R3, R114, R115, R125) -/

theorem Vector.forall_mem_toList {α : Type} {n : Nat} (a : Vector α n) (p : α → Prop) :
    (∀ x ∈ a.toList, p x) ↔ ∀ i : Fin n, p a[i] := by
  simp only [Vector.mem_toList_iff, Vector.mem_iff_getElem]
  exact ⟨fun h i => h _ ⟨i.val, i.isLt, rfl⟩, fun h x ⟨i, hi, e⟩ => e ▸ h ⟨i, hi⟩⟩

/-- A CPR in range, above twice the maximum step, every valid row's end and the discharge angle. -/
def State.CprRanged (s : State) (v : Int) : Prop :=
  1024 ≤ v ∧ v ≤ 65535 ∧ (2 * s.tracker.maxStep : Int) < v ∧
    (∀ i : Fin 8, s.zones.rows[i].valid = true → (s.zones.rows[i].stop : Int) ≤ v) ∧ (s.zones.dischargeAngle : Int) < v

theorem State.cprRanged_iff (s : State) (v : Int) :
    (inRange v 1024 65535 && (2 * s.tracker.maxStep : Int) < v &&
        s.zones.rows.toList.all (fun r => !r.valid || (r.stop : Int) ≤ v) && (s.zones.dischargeAngle : Int) < v) = true ↔
      s.CprRanged v := by
  unfold State.CprRanged
  rw [Bool.and_eq_true, Bool.and_eq_true, Bool.and_eq_true, inRange_iff, List.all_eq_true, Vector.forall_mem_toList]
  simp only [decide_eq_true_eq, Bool.or_eq_true, Bool.not_eq_true', and_assoc, ← Bool.not_eq_true, ← imp_iff_not_or]
  rfl

theorem State.writeCpr_enrolled (free : s.faults.mode ≠ .production) (live : ∃ h, (s.head h).state ≠ .off) :
    s.writeCpr v = s.refuse .refusedState :=
  (State.outsideProduction_free free).trans (if_pos (s.anyHead_enrolled_iff.mpr live))

theorem State.writeCpr_off (free : s.faults.mode ≠ .production) (off : ∀ h, (s.head h).state = .off) :
    s.writeCpr v =
      s.ranged (inRange v 1024 65535 && (2 * s.tracker.maxStep : Int) < v &&
        s.zones.rows.toList.all (fun r => !r.valid || (r.stop : Int) ≤ v) && (s.zones.dischargeAngle : Int) < v)
        (s.storeCpr v.toNat) :=
  (State.outsideProduction_free free).trans (if_neg fun c => by
    obtain ⟨h, live⟩ := s.anyHead_enrolled_iff.mp c
    exact live (off h))

theorem onOff_one : onOff 1 = some true := rfl
theorem onOff_zero : onOff 0 = some false := rfl

theorem onOff_none (h : v < 0 ∨ 1 < v) : onOff v = none := by
  unfold onOff
  rw [if_neg (by omega), if_neg (by omega)]

theorem State.writeMaster_some {on : Bool} (free : s.faults.mode ≠ .production) (o : onOff v = some on) :
    s.writeMaster v =
      if on ∧ (s.discharge.gate = 0 ∨ 14 < s.management.address) then s.refuse .refusedState
      else (s.storeMaster on).done := by
  refine (State.outsideProduction_free free).trans ?_
  rw [o]

theorem State.writeMaster_none (free : s.faults.mode ≠ .production) (o : onOff v = none) :
    s.writeMaster v = s.refuse .badValue := by
  refine (State.outsideProduction_free free).trans ?_
  rw [o]

theorem State.storeMaster_on : s.storeMaster true = { s with discharge := { s.discharge with master := true } } := by
  unfold State.storeMaster
  split
  · next e => rw [← e]
  · rfl

theorem State.storeMaster_off (h : s.discharge.master = true) :
    s.storeMaster false = { s with discharge := { s.discharge.emptied with master := false } } := by
  unfold State.storeMaster
  rw [if_neg (by rw [h]; simp), if_neg Bool.false_ne_true]

/-! ### The lockout limit and the heartbeat watchdog (R142, R146) -/

theorem State.writeLockoutLimit_ok (h : inRange v 1 8 = true) :
    s.writeLockoutLimit v =
      (({ s with faults := { s.faults with lockoutLimit := v.toNat } } : State).recheckLockout).done :=
  State.ranged_ok h

theorem State.recheckLockout_below (h : s.lockoutCount < s.faults.lockoutLimit) :
    s.recheckLockout = s.setCondition .lockout false := if_pos h

theorem State.recheckLockout_reached (h : s.faults.lockoutLimit ≤ s.lockoutCount) :
    s.recheckLockout = s.checkLockout := if_neg (Nat.not_lt.mpr h)

theorem State.checkLockout_standing (h : (s.record .lockout).condition = true) : s.checkLockout = s :=
  if_neg fun c => by simp [h] at c

theorem State.checkLockout_raises (h : s.faults.lockoutLimit ≤ s.lockoutCount)
    (absent : (s.record .lockout).condition = false) :
    s.checkLockout = (s.lockoutMarked.addStop .lockout).enterSafe (some .lockoutLimit) :=
  if_pos ⟨h, by simp [absent]⟩

/-- A parity error latches no record of LOCKOUT: only a head that enters LOCKOUT looks at the count. -/
theorem State.safeAbort_record_lockout (c : Option Cause) :
    (s.safeAbort c).record .lockout = s.record .lockout := by
  have core : ∀ (t : State) (h : HeadId), (t.parityCore h).record .lockout = t.record .lockout := by
    intro t h
    by_cases off : (t.head h).state = .off
    · rw [State.parityCore_off off]
    by_cases lockout : (t.head h).state = .lockout
    · refine State.record_congr (congrArg FaultUnit.records ?_) _
      unfold State.parityCore
      rw [lockout]
      dsimp only
      split <;> simp
    · rw [State.parityCore_live off lockout]
      split
      · rw [State.addStop_record_other (by simp) (by simp), State.parityEntry_record (by simp)]
      · exact State.parityEntry_record (by simp) h
  rw [State.safeAbort_eq]
  generalize s.headOrder = heads
  induction heads generalizing s with
  | nil => rfl
  | cons h rest ih =>
    refine ih.trans ?_
    unfold State.safeAbortStep
    split
    · split
      · exact State.abortHead_record h _ _ _
      · exact core s h
    · rfl

theorem State.enterSafe_record_lockout (c : Option Cause) : (s.enterSafe c).record .lockout = s.record .lockout := by
  rw [State.enterSafe_eq]
  split
  · rfl
  · exact State.safeAbort_record_lockout (s := s.safed) c

theorem State.lockoutRaised_record :
    ((s.lockoutMarked.addStop .lockout).enterSafe (some .lockoutLimit)).record .lockout =
      { s.record .lockout with
        latched := true, condition := true, lastCause := some .lockoutLimit, lastStation := none, inStop := true } := by
  rw [State.enterSafe_record_lockout, State.addStop_record_self (by simp)]
  unfold State.lockoutMarked
  rw [State.latchReport_record, if_pos (show FaultClass.lockout = Cause.lockoutLimit.cls from rfl), State.record_updRecord]

theorem State.writeHeartbeatEnable_some {on : Bool} (o : onOff v = some on) :
    s.writeHeartbeatEnable v = (s.storeHeartbeatEnable on).done := by
  unfold State.writeHeartbeatEnable
  rw [o]

theorem State.writeHeartbeatEnable_none (o : onOff v = none) : s.writeHeartbeatEnable v = s.refuse .badValue := by
  unfold State.writeHeartbeatEnable
  rw [o]

theorem State.storeHeartbeatEnable_same {on : Bool} (h : s.faults.watchdog.enable = on) :
    s.storeHeartbeatEnable on = s := if_pos h

/-! ### Selectors (R132, R143, R163) -/

theorem Action.ofCode_code (a : Action) : Action.ofCode a.code = some a := by cases a <;> rfl

theorem Action.ofCode_none (h : v < 0 ∨ 3 < v) : Action.ofCode v = none := by
  unfold Action.ofCode
  rw [if_neg (by omega), if_neg (by omega), if_neg (by omega), if_neg (by omega)]

theorem TrackEdge.ofCode_none (h : v < 0 ∨ 3 < v) : TrackEdge.ofCode v = Option.none := by
  unfold TrackEdge.ofCode
  rw [if_neg (by omega), if_neg (by omega), if_neg (by omega), if_neg (by omega)]

theorem ReportKind.ofCode_code (k : ReportKind) : ReportKind.ofCode (BitVec.ofNat 8 k.code).toNat = some k := by
  cases k <;> rfl

theorem ReportKind.ofCode_none {n : Nat} (h : n = 0 ∨ 5 < n) : ReportKind.ofCode n = none := by
  unfold ReportKind.ofCode
  split
  case h_6 => rfl
  all_goals omega

theorem State.writeAction_class {sel : Byte} {c : FaultClass} (h : FaultClass.ofCode sel.toNat = some c) :
    s.writeAction sel v =
      if c = .reset ∨ c = .lockout then s.refuse .refusedState
      else
        match Action.ofCode v with
        | some a => (s.updRecord c fun r => { r with action := a }).done
        | none => s.refuse .badValue := by
  unfold State.writeAction
  rw [h] <;> rfl

theorem State.writeAction_noClass {sel : Byte} (h : FaultClass.ofCode sel.toNat = none) :
    s.writeAction sel v = s.refuse .badValue := by
  unfold State.writeAction
  rw [h]

theorem State.writePriority_kind {sel : Byte} {k : ReportKind} (h : ReportKind.ofCode sel.toNat = some k) :
    s.writePriority sel v =
      s.ranged (inRange v 0 3) { s with reports := { s.reports with prios := s.reports.prios.set k.row v.toNat } } := by
  unfold State.writePriority
  rw [h]

theorem State.writePriority_noKind {sel : Byte} (h : ReportKind.ofCode sel.toNat = none) :
    s.writePriority sel v = s.refuse .badValue := by
  unfold State.writePriority
  rw [h]

/-- The selector of a supply monitor. -/
def MonitorName.code : MonitorName → Byte
  | .pressure => 0
  | .temperature => 1

theorem State.writeMonitor_code (n : MonitorName) (ok : MonitorName → Bool) (f : Monitor → Monitor) :
    s.writeMonitor n.code ok f =
      s.ranged (ok n && (f (s.monitor n)).hasBand) (s.setMonitor n (f (s.monitor n))) := by
  cases n <;> rfl

theorem State.writeMonitor_none {sel : Byte} (h : 1 < sel.toNat) (ok : MonitorName → Bool) (f : Monitor → Monitor) :
    s.writeMonitor sel ok f = s.refuse .badValue := by
  have none_ : MonitorName.ofCode sel.toNat = none := by
    unfold MonitorName.ofCode
    rw [if_neg (by omega), if_neg (by omega)]
  unfold State.writeMonitor
  rw [none_]

theorem Monitor.hasBand_iff (m : Monitor) : m.hasBand = true ↔ m.low + m.hysteresis ≤ m.high - m.hysteresis := by
  simp [Monitor.hasBand]

/-- The range of a limit of a monitor (R143). -/
def MonitorName.Ranged (n : MonitorName) (v : Int) : Prop :=
  match n with
  | .pressure => 0 ≤ v ∧ v ≤ 1000
  | .temperature => -500 ≤ v ∧ v ≤ 1000

theorem MonitorName.inRange_iff (n : MonitorName) (v : Int) : n.inRange v = true ↔ n.Ranged v := by
  cases n
  · exact Machine.inRange_iff
  · simp [MonitorName.inRange, MonitorName.Ranged]

theorem writeItem_unknown {item : Byte} (h : item = 0 ∨ 34 < item.toNat) (sel : Byte) (s : State) :
    writeItem item sel v s = s.refuse .unknown := by
  have n : item.toNat = 0 ∨ 34 < item.toNat := h.imp_left fun e => by rw [e]; rfl
  unfold writeItem
  split
  case h_35 => rfl
  all_goals omega

end

/-- Settles O21. -/
theorem cprAndMasterEnableWrites : Obligations.CprAndMasterEnableWrites := by
  refine ⟨fun e x v s h free => ?_, fun e x v s h free => ?_⟩
  · have free' : s.taken.faults.mode ≠ .production := by rw [State.taken_faults_mode]; exact free
    dsimp only
    refine ⟨fun live => State.takeWrite_refused h (State.writeCpr_enrolled free' live),
      fun off lo hi step rows angle => State.takeWrite_ok h ?_⟩
    refine (State.writeCpr_off free' off).trans (State.ranged_ok ((State.cprRanged_iff _ _).mpr ⟨lo, hi, ?_, ?_, ?_⟩))
    · omega
    · intro i valid
      have := rows i valid
      omega
    · omega
  · have free' : s.taken.faults.mode ≠ .production := by rw [State.taken_faults_mode]; exact free
    have address : ¬14 < s.taken.management.address := by
      rw [State.taken_management]
      exact Nat.not_lt.mpr h.2.2
    dsimp only
    refine ⟨fun one gate => ?_, fun one gate => ?_, fun zero master => ?_, fun zero master => ?_⟩
    · subst one
      exact State.takeWrite_refused h ((State.writeMaster_some free' onOff_one).trans (if_pos ⟨rfl, Or.inl gate⟩))
    · subst one
      refine State.takeWrite_ok h ((State.writeMaster_some free' onOff_one).trans (if_neg fun c => ?_) |>.trans ?_)
      · exact c.2.elim gate address
      · rw [State.storeMaster_on]
    · subst zero
      refine State.takeWrite_ok h ((State.writeMaster_some free' onOff_zero).trans
        (if_neg fun c => Bool.false_ne_true c.1) |>.trans ?_)
      rw [State.storeMaster_off master]
      rfl
    · subst zero
      refine State.takeWrite_ok h ((State.writeMaster_some free' onOff_zero).trans
        (if_neg fun c => Bool.false_ne_true c.1) |>.trans ?_)
      exact congrArg State.done (if_pos master)

/-- Settles O22. -/
theorem selectorWrites : Obligations.SelectorWrites := by
  intro e v s h u band
  refine ⟨fun c a reset lockout code => ?_, fun c own => ?_, fun k lo hi => ?_, fun n => ?_⟩
  · refine State.takeWrite_ok h ((State.writeAction_class c.ofCode_code).trans ?_)
    rw [if_neg (not_or.mpr ⟨reset, lockout⟩), code, Action.ofCode_code]
  · exact State.takeWrite_refused h ((State.writeAction_class c.ofCode_code).trans (if_pos own))
  · exact State.takeWrite_ok h
      ((State.writePriority_kind k.ofCode_code).trans (State.ranged_ok (inRange_iff.mpr ⟨lo, hi⟩)))
  · intro x m ranged
    have sel : x = n.code := by cases n <;> rfl
    have ranged_eq : ranged ↔ n.Ranged v.toInt := by cases n <;> exact Iff.rfl
    have ok : ∀ (p : MonitorName → Bool) (f : Monitor → Monitor), p n = true → band (f m) →
        u.writeMonitor x p f = (u.setMonitor n (f m)).done := fun p f r b => by
      rw [sel]
      exact (State.writeMonitor_code n p f).trans
        (State.ranged_ok (Bool.and_eq_true_iff.mpr ⟨r, (Monitor.hasBand_iff _).mpr b⟩))
    have bad : ∀ (p : MonitorName → Bool) (f : Monitor → Monitor), ¬(p n = true ∧ band (f m)) →
        u.writeMonitor x p f = u.refuse .badValue := fun p f r => by
      rw [sel]
      refine (State.writeMonitor_code n p f).trans (State.ranged_bad fun c => r ?_)
      exact ⟨(Bool.and_eq_true_iff.mp c).1, (Monitor.hasBand_iff _).mp (Bool.and_eq_true_iff.mp c).2⟩
    have limit : ranged ↔ n.inRange v.toInt = true := ranged_eq.trans (n.inRange_iff _).symm
    refine ⟨fun r b => ?_, fun r b => ?_, fun lo hi b => ?_, fun lo hi b => ?_, fun r => ?_, fun r => ?_, fun r => ?_,
      fun r => ?_⟩
    · exact State.takeWrite_ok h (ok _ (fun m => { m with low := v.toInt }) (limit.mp r) b)
    · exact State.takeWrite_ok h (ok _ (fun m => { m with high := v.toInt }) (limit.mp r) b)
    · exact State.takeWrite_ok h
        (ok (fun _ => inRange v.toInt 0 100) (fun m => { m with hysteresis := v.toInt }) (inRange_iff.mpr ⟨lo, hi⟩) b)
    · exact State.takeWrite_ok h
        (ok (fun _ => inRange v.toInt 1 8) (fun m => { m with n := v.toInt.toNat }) (inRange_iff.mpr ⟨lo, hi⟩) b)
    · refine State.takeWrite_bad h (bad (fun n => n.inRange v.toInt) (fun m => { m with low := v.toInt }) ?_)
      exact mt (And.imp_left limit.mpr) r
    · refine State.takeWrite_bad h (bad (fun n => n.inRange v.toInt) (fun m => { m with high := v.toInt }) ?_)
      exact mt (And.imp_left limit.mpr) r
    · refine State.takeWrite_bad h (bad (fun _ => inRange v.toInt 0 100) (fun m => { m with hysteresis := v.toInt }) ?_)
      exact fun ⟨q, b⟩ => r ⟨(inRange_iff.mp q).1, (inRange_iff.mp q).2, b⟩
    · refine State.takeWrite_bad h (bad (fun _ => inRange v.toInt 1 8) (fun m => { m with n := v.toInt.toNat }) ?_)
      exact fun ⟨q, b⟩ => r ⟨(inRange_iff.mp q).1, (inRange_iff.mp q).2, b⟩

/-- Settles O23. -/
theorem lockoutAndHeartbeatWrites : Obligations.LockoutAndHeartbeatWrites := by
  refine ⟨fun e x v s h lo hi => ?_, fun e x v s h => ?_⟩
  · have ranged : inRange v.toInt 1 8 = true := inRange_iff.mpr ⟨lo, hi⟩
    intro u n w
    refine ⟨fun below => ?_, fun reached standing => ?_, fun reached absent => ?_⟩
    · exact State.takeWrite_ok h ((State.writeLockoutLimit_ok ranged).trans
        (congrArg State.done (State.recheckLockout_below (s := w) below)))
    · exact State.takeWrite_ok h ((State.writeLockoutLimit_ok ranged).trans (congrArg State.done
        ((State.recheckLockout_reached (s := w) reached).trans (State.checkLockout_standing (s := w) standing))))
    · have raises := (State.recheckLockout_reached (s := w) reached).trans
        (State.checkLockout_raises (s := w) reached absent)
      have record := State.lockoutRaised_record (s := w)
      have limit : ((w.lockoutMarked.addStop .lockout).enterSafe (some .lockoutLimit)).faults.lockoutLimit = n := by
        rw [(Keeps.enterSafe (.refl _) _).lockoutLimit, State.addStop_limit]
        rfl
      refine ⟨(w.lockoutMarked.addStop .lockout).enterSafe (some .lockoutLimit), ?_, State.enterSafe_mode _ _, limit,
        ?_, ?_, ?_, ?_, ?_⟩
      · exact State.takeWrite_ok h ((State.writeLockoutLimit_ok ranged).trans (congrArg State.done raises))
      all_goals rw [record]
  · intro u w put
    refine ⟨fun one off => ?_, fun zero on => ?_, fun one on => ?_, fun zero off => ?_, fun lo hi lower => ?_,
      fun lo upper => ?_⟩
    · subst one
      refine State.takeWrite_ok h ((State.writeHeartbeatEnable_some onOff_one).trans (congrArg State.done ?_))
      exact (if_neg (by rw [off]; exact Bool.false_ne_true)).trans (if_pos rfl)
    · subst zero
      refine State.takeWrite_ok h ((State.writeHeartbeatEnable_some onOff_zero).trans (congrArg State.done ?_))
      exact (if_neg (by rw [on]; simp)).trans (if_neg Bool.false_ne_true)
    · subst one
      exact State.takeWrite_ok h ((State.writeHeartbeatEnable_some onOff_one).trans
        (congrArg State.done (State.storeHeartbeatEnable_same on)))
    · subst zero
      exact State.takeWrite_ok h ((State.writeHeartbeatEnable_some onOff_zero).trans
        (congrArg State.done (State.storeHeartbeatEnable_same off)))
    · refine State.takeWrite_ok h (State.ranged_ok ?_)
      have lower' : s.taken.faults.watchdog.lower = 0 ∨ s.taken.faults.watchdog.lower < v.toInt.toNat := lower
      simp only [Bool.and_eq_true, Bool.or_eq_true, inRange_iff, decide_eq_true_eq, beq_iff_eq]
      omega
    · refine State.takeWrite_ok h (State.ranged_ok ?_)
      have upper' : v.toInt = 0 ∨ v.toInt.toNat < s.taken.faults.watchdog.upper := upper
      simp only [Bool.and_eq_true, Bool.or_eq_true, decide_eq_true_eq, beq_iff_eq]
      omega

end Sys2Proof.Machine

/-! PROOFS. The writes that are refused (R169, R173), and WRITE_ZONE (R19). -/

namespace Sys2Proof.Machine

section
set_option Elab.async false
variable {s : State} {v : Int}

/-! ### WRITE_ZONE (R19) -/

theorem exec_writeZone_hears {s : State} {e : Envelope} (h : s.hears e) (r : Byte) (z : ZoneFields) :
    exec (.writeZone e r z) s = .next ((s.taken.writeZoneRow r z).reply e 5) :=
  congrArg Host.Outcome.next (State.takeAddressed_hears h 5 _ _)

/-- What WRITE_ZONE stores must satisfy with valid 1 (R19). -/
def zoneRanged (z : ZoneFields) (cpr : Nat) : Prop :=
  z.valid = 1 ∧ 1 ≤ z.start.toNat ∧ z.start.toNat < z.stop.toNat ∧ z.stop.toNat ≤ cpr ∧ z.guard.toNat ≤ 1023

theorem zoneRanged_iff (z : ZoneFields) (cpr : Nat) :
    ¬(z.valid ≠ 1 ∨ !(zoneRowOf z).inRange cpr) ↔ zoneRanged z cpr := by
  have gap : z.gap.toNat ≤ 255 := Nat.lt_succ_iff.mp z.gap.isLt
  simp only [ZoneRow.inRange, not_or, ne_eq, not_not, Bool.not_eq_true', Bool.not_eq_false, Bool.and_eq_true,
    decide_eq_true_eq]
  simp only [zoneRanged, zoneRowOf, gap, and_true, and_assoc]

/-- Another valid row of the map shares an angle with a row (R19). -/
def ZoneMap.Shares (z : ZoneMap) (i : Fin 8) (start stop : Nat) : Prop :=
  ∃ k : Fin 8, k ≠ i ∧ z.rows[k].valid = true ∧ z.rows[k].start < stop ∧ start < z.rows[k].stop

theorem ZoneMap.overlapped_iff (z : ZoneMap) (i : Fin 8) (r : ZoneRow) :
    z.overlapped i.val r = true ↔ z.Shares i r.start r.stop := by
  unfold ZoneMap.overlapped ZoneMap.Shares ZoneRow.overlaps
  rw [List.any_eq_true]
  simp only [Bool.and_eq_true, bne_iff_ne, decide_eq_true_eq, Prod.exists, List.mem_zipIdx_iff_getElem?]
  constructor
  · rintro ⟨row, k, mem, ⟨ne, valid⟩, above, below⟩
    have lt : k < 8 := by
      have := (List.getElem?_eq_some_iff.mp mem).1
      simpa using this
    have row_eq : z.rows[(⟨k, lt⟩ : Fin 8)] = row := by
      simpa using (List.getElem?_eq_some_iff.mp mem).2
    exact ⟨⟨k, lt⟩, fun e => ne (congrArg Fin.val e), row_eq ▸ valid, row_eq ▸ below, row_eq ▸ above⟩
  · rintro ⟨k, ne, valid, below, above⟩
    exact ⟨z.rows[k], k.val, by simp, ⟨fun e => ne (Fin.ext e), valid⟩, above, below⟩

theorem State.writeZoneRow_noRow {b : Byte} (free : s.faults.mode ≠ .production) (h : 8 ≤ b.toNat) (z : ZoneFields) :
    s.writeZoneRow b z = s.refuse .badRow :=
  (State.outsideProduction_free free).trans (dif_neg (Nat.not_lt.mpr h))

theorem State.writeZoneRow_at (free : s.faults.mode ≠ .production) (i : Fin 8) (z : ZoneFields) :
    s.writeZoneRow (BitVec.ofNat 8 i.val) z =
      if z.valid = 0 then (s.setZone i .blank).done
      else if z.valid ≠ 1 ∨ !(zoneRowOf z).inRange s.tracker.cpr then s.refuse .badValue
      else if s.zones.overlapped i.val (zoneRowOf z) then s.refuse .overlap
      else (s.setZone i (zoneRowOf z)).done := by
  have n : (BitVec.ofNat 8 i.val).toNat = i.val := by
    have := i.isLt
    rw [BitVec.toNat_ofNat]
    omega
  refine (State.outsideProduction_free free).trans ((dif_pos (by rw [n]; exact i.isLt)).trans ?_)
  simp only [n]

end

/-- Settles O25, check by check. -/
theorem writeZoneRow : Obligations.WriteZoneRow := by
  intro e z s h free u
  have free' : u.faults.mode ≠ .production := by rw [State.taken_faults_mode]; exact free
  refine ⟨fun r out => ?_, fun i => ?_⟩
  · rw [exec_writeZone_hears h, State.writeZoneRow_noRow free' out]
    rfl
  · intro run put ranged shares
    have run_eq : run = _ := (exec_writeZone_hears h _ z).trans
      (congrArg (fun a => Host.Outcome.next (a.reply e 5)) (State.writeZoneRow_at free' i z))
    have ranged_eq := zoneRanged_iff z u.tracker.cpr
    have shares_eq := u.zones.overlapped_iff i (zoneRowOf z)
    have valid : ranged → z.valid ≠ 0 := fun r => by rw [r.1]; decide
    refine ⟨fun off => ?_, fun on bad => ?_, fun r share => ?_, fun r apart => ?_⟩
    · rw [run_eq, if_pos off]
      rfl
    · rw [run_eq, if_neg on, if_pos (Decidable.not_not.mp (mt ranged_eq.mp bad))]
      rfl
    · rw [run_eq, if_neg (valid r), if_neg (ranged_eq.mpr r), if_pos (shares_eq.mpr share)]
      rfl
    · rw [run_eq, if_neg (valid r), if_neg (ranged_eq.mpr r), if_neg (mt shares_eq.mp apart)]
      rfl

/-- Settles O24, item by item. -/
theorem writesRefused : Obligations.WritesRefused := by
  intro e x v s h refused bad outside noPower
  have range : ∀ {lo hi : Nat}, outside lo hi → ¬inRange v.toInt lo hi = true := fun o c => by
    have := inRange_iff.mp c
    rcases o with o | o <;> omega
  have power : noPower → ¬powerLimit v.toInt = true := fun o c => o (powerLimit_iff.mp c)
  refine ⟨fun production => ?_, fun free => ?_, ?_⟩
  · have production' : s.taken.faults.mode = .production := by rw [State.taken_faults_mode]; exact production
    refine ⟨?_, ?_, ?_, ?_, ?_, ?_, ?_, ?_, ?_, ?_, ?_, fun z => ?_⟩
    case refine_12 =>
      rw [exec_writeZone_hears h]
      exact congrArg (fun a => Host.Outcome.next (Answer.reply a e 5)) (State.outsideProduction_refused production')
    all_goals exact State.takeWrite_refused h (State.outsideProduction_refused production')
  · have free' : s.taken.faults.mode ≠ .production := by rw [State.taken_faults_mode]; exact free
    refine ⟨fun off out => ?_, fun out => ?_, fun out => ?_, fun out => ?_, fun out => ?_, fun out => ?_, fun out => ?_,
      fun out => ?_, fun out => ?_, fun out => ?_, fun out => ?_⟩
    · refine State.takeWrite_bad h ((State.writeCpr_off free' fun g => by rw [State.taken_head]; exact off g).trans
        (State.ranged_bad fun c => ?_))
      obtain ⟨lo, hi, step, rows, angle⟩ := (State.cprRanged_iff _ _).mp c
      simp only [State.taken_tracker, State.taken_zones] at step rows angle
      rcases out with (out | out) | out | ⟨i, valid, out⟩ | out
      · omega
      · omega
      · omega
      · have := rows i valid
        omega
      · omega
    · refine State.takeWrite_bad h (State.outsideProduction_unranged free' fun c => ?_)
      simp only [State.taken_tracker, Bool.and_eq_true, Bool.or_eq_true, inRange_iff, decide_eq_true_eq,
        beq_iff_eq] at c
      rcases out with (out | out) | out <;> omega
    · exact State.takeWrite_bad h (State.outsideProduction_unranged free' (range out))
    · exact State.takeWrite_bad h (State.outsideProduction_unranged free' (range out))
    · refine State.takeWrite_bad h (State.outsideProduction_unranged free' fun c => ?_)
      simp only [State.taken_tracker, State.taken_zones, Bool.and_eq_true, Bool.or_eq_true, decide_eq_true_eq,
        beq_iff_eq] at c
      omega
    · refine State.takeWrite_bad h (State.outsideProduction_unranged free' fun c => ?_)
      simp only [State.taken_tracker, State.taken_zones, Bool.and_eq_true, decide_eq_true_eq] at c
      omega
    · refine State.takeWrite_bad h (State.writeHeadCount_bad free' fun ⟨lo, hi, base⟩ => ?_)
      rw [State.taken_management] at base
      rcases out with (out | out) | out <;> omega
    · refine State.takeWrite_bad h (State.outsideProduction_unranged free' fun c => ?_)
      simp only [State.taken_management, Bool.and_eq_true, Bool.or_eq_true, inRange_iff, decide_eq_true_eq,
        beq_iff_eq] at c
      rcases out with (out | out) | out <;> omega
    · exact State.takeWrite_bad h (State.writeMaster_none free' (onOff_none out))
    · refine State.takeWrite_bad h (State.outsideProduction_unranged free' fun c => ?_)
      simp only [State.taken_tracker, Bool.and_eq_true, bne_iff_ne, inRange_iff] at c
      omega
    · exact State.takeWrite_bad h (State.outsideProduction_unranged free' (range out))
  · refine ⟨fun out => ?_, fun out => ?_, fun out => ?_, fun out => ?_, fun out => ?_, fun out => ?_, fun out => ?_,
      fun out => ?_, fun out => ?_, fun out => ?_, fun out => ?_, fun out => ?_, fun out => ?_, fun out => ?_,
      fun out => ?_, fun out => ?_, fun out => ?_, fun out => ?_, fun c reset lockout out => ?_, fun out => ?_,
      fun out => ?_, fun i out => ?_⟩
    case refine_3 =>
      refine State.takeWrite_bad h ?_
      show (match TrackEdge.ofCode v.toInt with | some g => _ | none => _) = _
      rw [TrackEdge.ofCode_none out]
    case refine_10 => exact State.takeWrite_bad h (State.ranged_bad (power out))
    case refine_12 => exact State.takeWrite_bad h (State.ranged_bad (power out))
    case refine_15 => exact State.takeWrite_bad h (State.writeHeartbeatEnable_none (onOff_none out))
    case refine_16 =>
      refine State.takeWrite_bad h (State.ranged_bad fun c => ?_)
      simp only [State.taken_lower, Bool.and_eq_true, Bool.or_eq_true, inRange_iff, decide_eq_true_eq, beq_iff_eq] at c
      rcases out with (out | out) | out <;> omega
    case refine_17 =>
      refine State.takeWrite_bad h (State.ranged_bad fun c => ?_)
      simp only [State.taken_upper, Bool.and_eq_true, Bool.or_eq_true, decide_eq_true_eq, beq_iff_eq] at c
      omega
    case refine_18 => exact State.takeWrite_bad h (State.writeAction_noClass (FaultClass.ofCode_outside out))
    case refine_19 =>
      refine State.takeWrite_bad h ((State.writeAction_class c.ofCode_code).trans ?_)
      rw [if_neg (not_or.mpr ⟨reset, lockout⟩), Action.ofCode_none out]
    case refine_20 =>
      cases kind : ReportKind.ofCode x.toNat with
      | none => exact State.takeWrite_bad h (State.writePriority_noKind kind)
      | some k =>
        refine State.takeWrite_bad h ((State.writePriority_kind kind).trans (State.ranged_bad (range ?_)))
        rcases out with out | out | out
        · rw [ReportKind.ofCode_none (Or.inl out)] at kind; cases kind
        · rw [ReportKind.ofCode_none (Or.inr out)] at kind; cases kind
        · exact out
    case refine_21 =>
      exact ⟨State.takeWrite_bad h (State.writeMonitor_none out _ _), State.takeWrite_bad h (State.writeMonitor_none out _ _),
        State.takeWrite_bad h (State.writeMonitor_none out _ _), State.takeWrite_bad h (State.writeMonitor_none out _ _)⟩
    case refine_22 => exact State.takeWrite_refused h (writeItem_unknown out x _)
    all_goals exact State.takeWrite_bad h (State.ranged_bad (range out))

end Sys2Proof.Machine

/-! PROOFS. SET_MODE (R129), and the heads at the entry to SAFE (R130). -/

namespace Sys2Proof.Machine

section
set_option Elab.async false
variable {s : State}

/-! ### SET_MODE (R128, R129) -/

theorem exec_setMode_hears {e : Envelope} (h : s.hears e) (b : Byte) :
    exec (.setMode e b) s = .next ((s.taken.setMode b).reply e 2) :=
  congrArg Host.Outcome.next (State.takeEither_hears h 2 _ _)

theorem Mode.ofCode_code (m : Mode) : Mode.ofCode m.code = some m := by cases m <;> rfl

theorem Mode.ofCode_none {n : Nat} (h : 3 ≤ n) : Mode.ofCode n = none := by
  unfold Mode.ofCode
  split
  case h_4 => rfl
  all_goals omega

theorem State.setMode_none {b : Byte} (h : 3 ≤ b.toNat) :
    s.setMode b = ⟨.badValue, nat8 s.faults.mode.code, s⟩ := by
  unfold State.setMode
  rw [Mode.ofCode_none h]

theorem State.setMode_some {b : Byte} {m : Mode} (h : b.toNat = m.code) :
    s.setMode b = ⟨(s.requestMode m).1, nat8 (s.requestMode m).2.faults.mode.code, (s.requestMode m).2⟩ := by
  unfold State.setMode
  rw [h, Mode.ofCode_code]

theorem State.requestMode_safe : s.requestMode .safe = (.ok, s.enterSafe none) := by
  unfold State.requestMode
  rfl

/-- One row of the table of R129, from what the request does in the mode held. -/
theorem exec_setMode_row {e : Envelope} {b : Byte} {m : Mode} {st : ReplyStatus} {t : State} {mode : Mode}
    (h : s.hears e) (code : b.toNat = m.code) (row : s.taken.requestMode m = (st, t)) (left : t.faults.mode = mode) :
    exec (.setMode e b) s = .next (t.replied e 2 st (nat8 mode.code)) := by
  rw [exec_setMode_hears h, State.setMode_some code, row, ← left]
  rfl

/-- A part that is not in reset and whose stop-cause set is empty senses the line high unless another holds it (R140). -/
theorem State.sensedHigh_iff (live : s.held = false) :
    s.stopEmpty = true ∧ s.sensedHigh = true ↔ s.stopEmpty = true ∧ s.lineHeld = false := by
  have out : s.inReset = false := (Bool.or_eq_false_iff.mp live).1
  simp +contextual only [State.sensedHigh, State.drives, out, and_congr_right_iff, Bool.not_true, Bool.or_self,
    Bool.not_false, Bool.true_and, Bool.not_eq_true', implies_true]

theorem State.mayLeaveSafe_iff (live : s.held = false) :
    s.mayLeaveSafe = true ↔
      (∀ c, (s.record c).inStop = false) ∧ s.lineHeld = false ∧ s.lockoutCount < s.faults.lockoutLimit ∧
        ∀ c, ¬((s.record c).condition = true ∧ (s.record c).action = .stop) := by
  unfold State.mayLeaveSafe
  rw [Bool.and_eq_true, Bool.and_eq_true, Bool.and_eq_true, s.sensedHigh_iff live, s.stopEmpty_iff, decide_eq_true_iff,
    s.records_all]
  simp only [and_assoc, Bool.not_eq_true', Bool.and_eq_false_imp, beq_eq_false_iff_ne, ne_eq, not_and]

theorem State.mayStartProduction_iff :
    s.mayStartProduction = true ↔
      s.tracker.cpr ≠ 0 ∧ s.zones.seatEnd ≠ 0 ∧ s.zones.dischargeAngle ≠ 0 ∧
        (∃ i : Fin 8, s.zones.rows[i].valid = true) ∧ ∃ h, (s.head h).state ≠ .off := by
  unfold State.mayStartProduction
  simp only [Bool.and_eq_true, bne_iff_ne, s.zones.rows_any, s.heads_any, Head.enrolled, and_assoc]

/-! ### The heads at the entry to SAFE (R62, R69, R130) -/

theorem Head.exists_scan {c d : Head} (h : c.butScan = d.butScan) : ∃ r, c = { d with scan := r } :=
  ⟨c.scan, congrArg (fun x : Head => { x with scan := c.scan }) h⟩

theorem Head.partAborted_running {c : Head} (h : c.state = .running) (n : Nat) (k : SkipReason) (x : Option Cause) :
    c.partAborted n k x = ({ c with lastFault := x.or c.lastFault } : Head).aborted n := by
  unfold Head.partAborted
  rw [h]

theorem Head.partAborted_seating {c : Head} (h : c.state = .seating) (n : Nat) (k : SkipReason) (x : Option Cause) :
    c.partAborted n k x =
      ({ c with lastFault := x.or c.lastFault, pin := none, state := .emptyPass, level := 0 } : Head).withRecord
        .skipped (some k) c.pin := by
  unfold Head.partAborted
  rw [h]

/-- The context of a head that has entered ABORTING, field by field (R62). -/
theorem Head.aborted_fields (c : Head) (n : Nat) :
    (c.aborted n).state = .aborting ∧ (c.aborted n).level = 1 ∧ (c.aborted n).valves = .venting ∧
      (c.aborted n).arm = none ∧ (c.aborted n).pin = none ∧ (c.aborted n).phase = none ∧
      (c.aborted n).ventTimer = some n := by
  simp [Head.aborted, Head.vented, Head.withoutSegment]

theorem Head.aborted_record {c : Head} (h : c.record = none) (n : Nat) :
    ∃ r, (c.aborted n).record = some r ∧ r.verdict = .aborted ∧ r.pin = c.pin ∧ r.fault = c.lastFault ∧
      r.completed = c.segIndex :=
  ⟨_, Head.withRecord_new (c := { c.vented with state := .aborting, level := 1, pin := none }) h .aborted none c.pin,
    rfl, rfl, rfl, rfl⟩

/-- A field outside the Scanner's, of two contexts that agree but for those. -/
theorem Head.fields_of_butScan {c d : Head} (h : c.butScan = d.butScan) :
    c.state = d.state ∧ c.level = d.level ∧ c.valves = d.valves ∧ c.arm = d.arm ∧ c.pin = d.pin ∧ c.phase = d.phase ∧
      c.ventTimer = d.ventTimer ∧ c.record = d.record := by
  obtain ⟨r, rfl⟩ := Head.exists_scan h
  exact ⟨rfl, rfl, rfl, rfl, rfl, rfl, rfl, rfl⟩

end

/-- Settles O16, row by row of the table. -/
theorem setModeTable : Obligations.SetModeTable := by
  intro e b s h u change mayLeave mayStart
  have live : u.held = false := by rw [State.taken_held]; exact h.live
  have leave : u.mayLeaveSafe = true ↔ mayLeave := u.mayLeaveSafe_iff live
  have start : u.mayStartProduction = true ↔ mayStart := u.mayStartProduction_iff
  have standby : b = 1 → b.toNat = Mode.standby.code := fun c => congrArg BitVec.toNat c
  have production : b = 2 → b.toNat = Mode.production.code := fun c => congrArg BitVec.toNat c
  refine ⟨fun out => ?_, fun c => ?_, fun c m may => ?_, fun c m may => ?_, fun c m => ?_, fun c m => ?_, fun c m => ?_,
    fun c m may => ?_, fun c m may => ?_, fun c m => ?_⟩
  · rw [exec_setMode_hears h, State.setMode_none out]
    rfl
  · exact exec_setMode_row h (m := .safe) (mode := .safe) (congrArg BitVec.toNat c) State.requestMode_safe (u.enterSafe_mode none)
  · refine exec_setMode_row h (mode := .standby) (standby c) ?_ rfl
    unfold State.requestMode
    rw [m]
    exact if_pos (leave.mpr may)
  · refine exec_setMode_row h (mode := .safe) (standby c) ?_ m
    unfold State.requestMode
    rw [m]
    exact if_neg (mt leave.mp may)
  · refine exec_setMode_row h (mode := .standby) (standby c) ?_ m
    unfold State.requestMode
    rw [m]
  · refine exec_setMode_row h (mode := .standby) (standby c) ?_ rfl
    unfold State.requestMode
    rw [m]
    rfl
  · refine exec_setMode_row h (mode := .safe) (production c) ?_ m
    unfold State.requestMode
    rw [m]
  · refine exec_setMode_row h (mode := .production) (production c) ?_ rfl
    unfold State.requestMode
    rw [m]
    exact if_pos (start.mpr may)
  · refine exec_setMode_row h (mode := .standby) (production c) ?_ m
    unfold State.requestMode
    rw [m]
    exact if_neg (mt start.mp may)
  · refine exec_setMode_row h (mode := .production) (production c) ?_ m
    unfold State.requestMode
    rw [m]

/-- Settles O17, from what the part abort makes of each head. -/
theorem safeEntryAbortsHeads : Obligations.SafeEntryAbortsHeads := by
  intro s cause
  refine ⟨fun safe => State.enterSafe_of_safe safe cause, fun other clean => ?_⟩
  obtain ⟨faults, reports, heads⟩ := State.enterSafe_clean other cause clean
  refine ⟨s.enterSafe_mode cause, by rw [faults], fun c => State.record_congr (by rw [faults]) c, reports, fun h => ?_⟩
  obtain ⟨state, level, valves, arm, pin, phase, ventTimer, record⟩ := Head.fields_of_butScan (heads h)
  refine ⟨fun running => ?_, fun seating => ?_, fun notRunning notSeating => ?_⟩
  · rw [state, level, valves, arm, pin, phase, ventTimer, record, Head.partAborted_running running]
    let c : Head := { s.head h with lastFault := cause.or (s.head h).lastFault }
    obtain ⟨a, b, d, e, f, g, i⟩ := c.aborted_fields s.sequencer.ventLimit
    exact ⟨a, b, d, e, f, g, i, fun fresh => Head.aborted_record (c := c) fresh _⟩
  · rw [state, pin, record, Head.partAborted_seating seating, Head.withRecord_state, Head.withRecord_pin]
    let c : Head :=
      { s.head h with lastFault := cause.or (s.head h).lastFault, pin := none, state := .emptyPass, level := 0 }
    exact ⟨rfl, rfl, fun fresh => ⟨_, Head.withRecord_new (c := c) fresh _ _ _, rfl, rfl, rfl⟩⟩
  · have kept := heads h
    rw [Head.partAborted_of_not_abortable] at kept
    · exact congrArg (fun c : Head => { c with scan := (s.head h).scan }) kept
    · simp only [Head.abortable, Bool.or_eq_false_iff, beq_eq_false_iff_ne]
      exact ⟨notRunning, notSeating⟩

end Sys2Proof.Machine

/-! PROOFS. READ: every table's rows and refusals (R171), and the length of the HEAD row (R181). -/

namespace Sys2Proof.Machine

section
set_option Elab.async false
variable {s t : State} {e : Envelope} {k : Byte} {used : List Byte} {run : State → Answer}

/-! ### Answers of a request that goes to one part (R168, R169) -/

theorem State.takeAddressed_answer (h : s.hears e) {a : Answer} (w : run s.taken = a) :
    (.next (s.takeAddressed e k used run) : Host.Outcome State Fault Refusal) =
      .next (a.after.replied e k a.status a.contents) := by
  rw [State.takeAddressed_hears h, w]

theorem State.takeAddressed_shown (h : s.hears e) {bytes : List Byte} (w : run s.taken = s.taken.show bytes) :
    (.next (s.takeAddressed e k used run) : Host.Outcome State Fault Refusal) =
      .next (s.taken.replied e k .ok bytes) :=
  State.takeAddressed_answer h w

theorem State.takeAddressed_refused (h : s.hears e) {st : ReplyStatus} (w : run s.taken = s.taken.refuse st) :
    (.next (s.takeAddressed e k used run) : Host.Outcome State Fault Refusal) = .next (s.taken.replied e k st []) :=
  State.takeAddressed_answer h w

theorem State.takeAddressed_done (h : s.hears e) (w : run s.taken = t.done) :
    (.next (s.takeAddressed e k used run) : Host.Outcome State Fault Refusal) = .next (t.replied e k .ok []) :=
  State.takeAddressed_answer h w

/-! ### The rows -/

theorem State.readSingle_zero (bytes : List Byte) : s.readSingle 0 bytes = s.show bytes := rfl

theorem State.readSingle_other {r : Byte} (h : r ≠ 0) (bytes : List Byte) : s.readSingle r bytes = s.refuse .badRow :=
  if_neg h

theorem toNat_ofNat_of_lt {n : Nat} (h : n < 48) : (BitVec.ofNat 8 n).toNat = n := by
  rw [BitVec.toNat_ofNat]
  omega

theorem State.readZoneRow_at (i : Fin 8) :
    s.readZoneRow (BitVec.ofNat 8 i.val) = s.show s.zones.rows[i].bytes := by
  have n := toNat_ofNat_of_lt (n := i.val) (by omega)
  unfold State.readZoneRow
  rw [dif_pos (by rw [n]; exact i.isLt)]
  simp only [n]
  rfl

theorem State.readZoneRow_outside {r : Byte} (h : 8 ≤ r.toNat) : s.readZoneRow r = s.refuse .badRow :=
  dif_neg (Nat.not_lt.mpr h)

theorem State.readSlotRow_at (j : SlotId) : s.readSlotRow (BitVec.ofNat 8 j.val) = s.show (s.slotRow j) := by
  unfold State.readSlotRow
  rw [slotOf_ofNat]

theorem State.readSlotRow_outside {r : Byte} (h : 8 ≤ r.toNat) : s.readSlotRow r = s.refuse .badRow := by
  unfold State.readSlotRow
  rw [slotOf_outside h]

theorem State.readSegmentRow_at {r k : Byte} {j : SlotId} {i : Fin 12} (slot : slotOf r = some j)
    (index : indexOf k = some i) :
    s.readSegmentRow r k =
      if (s.slot j).state = .free ∨ (s.slot j).segCount.getD 0 ≤ i.val ∨ !(s.slot j).cells[i].written then
        s.refuse .empty
      else s.show (s.slot j).cells[i].record.bytes := by
  unfold State.readSegmentRow
  rw [slot, index]

theorem State.readSegmentRow_outside {r k : Byte} (h : 8 ≤ r.toNat ∨ 12 ≤ k.toNat) :
    s.readSegmentRow r k = s.refuse .badRow := by
  unfold State.readSegmentRow
  rcases h with h | h
  · rw [slotOf_outside h]
  · rw [indexOf_outside h]
    cases slotOf r <;> rfl

theorem State.readHeadRow_at (h : HeadId) : s.readHeadRow (BitVec.ofNat 8 h.val) = s.show (s.headRow h) := by
  have n := toNat_ofNat_of_lt h.isLt
  unfold State.readHeadRow
  rw [dif_pos (by rw [n]; exact h.isLt)]
  simp only [n]

theorem State.readHeadRow_outside {r : Byte} (h : 48 ≤ r.toNat) : s.readHeadRow r = s.refuse .badRow :=
  dif_neg (Nat.not_lt.mpr h)

theorem State.readCalibRow_at (h : HeadId) : s.readCalibRow (BitVec.ofNat 8 h.val) = s.show (s.head h).calibRow := by
  have n := toNat_ofNat_of_lt h.isLt
  unfold State.readCalibRow
  rw [dif_pos (by rw [n]; exact h.isLt)]
  simp only [n]

theorem State.readCalibRow_outside {r : Byte} (h : 48 ≤ r.toNat) : s.readCalibRow r = s.refuse .badRow :=
  dif_neg (Nat.not_lt.mpr h)

theorem State.readFaultRow_at (c : FaultClass) :
    s.readFaultRow (BitVec.ofNat 8 c.code) = s.show (s.record c).row := by
  unfold State.readFaultRow
  rw [FaultClass.ofCode_code]

theorem State.readFaultRow_outside {r : Byte} (h : 14 ≤ r.toNat) : s.readFaultRow r = s.refuse .badRow := by
  unfold State.readFaultRow
  rw [FaultClass.ofCode_outside h]

theorem State.readTable_unknown {table : Byte} (h : table = 0 ∨ 11 < table.toNat) (r x : Byte) :
    s.readTable table r x = s.refuse .unknown := by
  unfold State.readTable
  rcases h with rfl | h
  · rfl
  · split
    case h_12 => rfl
    all_goals omega

/-! ### The length of the HEAD row (R181) -/

@[simp] theorem nat8_length (n : Nat) : (nat8 n).length = 1 := by simp [nat8]
@[simp] theorem nat16_length (n : Nat) : (nat16 n).length = 2 := by simp [nat16, halfBytes]
@[simp] theorem nat24_length (n : Nat) : (nat24 n).length = 3 := rfl
@[simp] theorem flag8_length (b : Bool) : (flag8 b).length = 1 := rfl

@[simp] theorem armBytes_length (a : Option Arm) : (armBytes a).length = 3 := by
  cases a <;> rfl

@[simp] theorem presence_length (bits : List Bool) : (presence bits).length = (bits.length + 7) / 8 := by
  simp [presence]

/-- An optional field takes its bytes whether it is present or not (R180). -/
theorem optional_length {α : Type} {n : Nat} {enc : α → List Byte} (h : ∀ a, (enc a).length = n) (o : Option α) :
    (optional n enc o).length = n := by
  cases o with
  | none => exact List.length_replicate
  | some a => exact h a

theorem Obs.bytes_length (o : Obs) : o.bytes.length = 13 := by
  simp [Obs.bytes]

theorem dosePayload_length (d : DoseReport) : (dosePayload d).length = 27 := by
  simp [dosePayload, optional_length]

theorem State.headRow_length (s : State) (h : HeadId) : (s.headRow h).length = 92 := by
  simp [State.headRow, row, optional_length, Obs.bytes_length, dosePayload_length, Cause.bytes]

end

/-- Settles O18, table by table. -/
theorem readsAnswered : Obligations.ReadsAnswered := by
  refine ⟨fun e s h => ?_, fun e r k s h => ?_, State.headRow_length⟩
  · refine ⟨?_, ?_, fun i => ?_, fun j => ?_, fun j k n free count below written => ?_, fun g => ?_, fun g => ?_,
      fun c => ?_, ?_, ?_, ?_⟩
    · exact State.takeAddressed_shown h (State.readSingle_zero _)
    · exact State.takeAddressed_shown h (State.readSingle_zero _)
    · exact State.takeAddressed_shown h (State.readZoneRow_at i)
    · exact State.takeAddressed_shown h (State.readSlotRow_at j)
    · refine State.takeAddressed_shown h ((State.readSegmentRow_at (slotOf_ofNat j) (indexOf_ofNat k)).trans
        (if_neg fun c => ?_))
      rw [count, Option.getD_some, written] at c
      rcases c with c | c | c
      · exact free c
      · exact absurd below (Nat.not_lt.mpr c)
      · cases c
    · exact State.takeAddressed_shown h (State.readHeadRow_at g)
    · exact State.takeAddressed_shown h (State.readCalibRow_at g)
    · exact State.takeAddressed_shown h (State.readFaultRow_at c)
    · exact State.takeAddressed_shown h (State.readSingle_zero _)
    · exact State.takeAddressed_shown h (State.readSingle_zero _)
    · exact State.takeAddressed_shown h (State.readSingle_zero _)
  · refine ⟨fun out => ⟨?_, ?_, ?_, ?_, ?_⟩, fun out => ⟨?_, ?_⟩, fun out => ?_, fun out => ⟨?_, ?_⟩, fun out => ?_,
      fun j i slot index lacks => ?_, fun out => ?_⟩
    · exact State.takeAddressed_refused h (State.readSingle_other out _)
    · exact State.takeAddressed_refused h (State.readSingle_other out _)
    · exact State.takeAddressed_refused h (State.readSingle_other out _)
    · exact State.takeAddressed_refused h (State.readSingle_other out _)
    · exact State.takeAddressed_refused h (State.readSingle_other out _)
    · exact State.takeAddressed_refused h (State.readZoneRow_outside out)
    · exact State.takeAddressed_refused h (State.readSlotRow_outside out)
    · exact State.takeAddressed_refused h (State.readSegmentRow_outside out)
    · exact State.takeAddressed_refused h (State.readHeadRow_outside out)
    · exact State.takeAddressed_refused h (State.readCalibRow_outside out)
    · exact State.takeAddressed_refused h (State.readFaultRow_outside out)
    · refine State.takeAddressed_refused h ((State.readSegmentRow_at (slotOf_of_toNat slot) (indexOf_of_toNat index)).trans
        (if_pos ?_))
      simpa only [Bool.not_eq_true'] using lacks
    · exact State.takeAddressed_refused h (State.readTable_unknown out _ _)

end Sys2Proof.Machine

/-! PROOFS. SELECT and DROP (R33, R34), CLEAR_FAULT and POP_SNAPSHOT (R138, R150), and the stop line (R140, R141). -/

namespace Sys2Proof.Machine

section
set_option Elab.async false
variable {s : State}

/-! ### SELECT and DROP (R33, R34) -/

theorem State.select_noSlot {b : Byte} (h : 8 ≤ b.toNat) : s.select b = s.refuse .badRow := by
  unfold State.select
  rw [slotOf_outside h]

theorem State.select_ready {j : SlotId} (h : (s.slot j).state = .ready) :
    s.select (BitVec.ofNat 8 j.val) = (s.makeActive j).done := by
  unfold State.select
  rw [slotOf_ofNat]
  dsimp only
  rw [h]

theorem State.select_active {j : SlotId} (h : (s.slot j).state = .active) :
    s.select (BitVec.ofNat 8 j.val) = s.done := by
  unfold State.select
  rw [slotOf_ofNat]
  dsimp only
  rw [h]

theorem State.select_other {j : SlotId} (ready : (s.slot j).state ≠ .ready) (active : (s.slot j).state ≠ .active) :
    s.select (BitVec.ofNat 8 j.val) = s.refuse .refusedState := by
  unfold State.select
  rw [slotOf_ofNat]
  dsimp only
  split
  · next r => exact absurd r ready
  · next a => exact absurd a active
  · rfl

theorem State.makeActive_first {j : SlotId} (h : s.activeSlot = none) :
    s.makeActive j = s.setSlot j { s.slot j with state := .active } := by
  unfold State.makeActive
  rw [h]

theorem State.makeActive_next {i j : SlotId} (h : s.activeSlot = some i) (ne : j ≠ i) :
    s.makeActive j =
      (s.setSlot i { s.slot i with state := .ready }).setSlot j { s.slot j with state := .active } := by
  unfold State.makeActive
  rw [h]
  dsimp only
  rw [State.slot_setSlot_eq, if_neg ne]

theorem State.drop_noSlot {b : Byte} (h : 8 ≤ b.toNat) : s.drop b = s.refuse .badRow := by
  unfold State.drop
  rw [slotOf_outside h]

theorem State.drop_stored {j : SlotId} (h : (s.slot j).state = .ready ∨ (s.slot j).state = .active) :
    s.drop (BitVec.ofNat 8 j.val) =
      (s.setSlot j (if (s.slot j).users = 0 then .freed (s.slot j).gen
        else { s.slot j with state := .retiring })).done := by
  unfold State.drop
  rw [slotOf_ofNat]
  dsimp only
  rcases h with h | h
  · rw [h]
  · rw [h]

theorem State.drop_loading {j : SlotId} (h : (s.slot j).state = .loading) :
    s.drop (BitVec.ofNat 8 j.val) = (s.setSlot j (.freed (s.slot j).gen)).done := by
  unfold State.drop
  rw [slotOf_ofNat]
  dsimp only
  rw [h]

theorem State.drop_verifying {j : SlotId} (h : (s.slot j).state = .verifying) :
    s.drop (BitVec.ofNat 8 j.val) = ((s.abandon j).setSlot j (.freed (s.slot j).gen)).done := by
  unfold State.drop
  rw [slotOf_ofNat]
  dsimp only
  rw [h]

theorem State.drop_refused {j : SlotId}
    (h : (s.slot j).state = .free ∨ (s.slot j).state = .retiring ∨ (s.slot j).state = .corrupt) :
    s.drop (BitVec.ofNat 8 j.val) = s.refuse .refusedState := by
  unfold State.drop
  rw [slotOf_ofNat]
  dsimp only
  rcases h with h | h | h
  · rw [h]
  · rw [h]
  · rw [h]

/-! ### CLEAR_FAULT and POP_SNAPSHOT (R138, R150) -/

theorem exec_clearFault_hears {e : Envelope} (h : s.hears e) {b : Byte} {a : Answer} (w : s.taken.clear b = a) :
    exec (.clearFault e b) s = .next (a.after.replied e 15 a.status a.contents) := by
  rw [← w]
  exact congrArg Host.Outcome.next (State.takeEither_hears h 15 _ _)

theorem State.clear_none {b : Byte} (h : 14 ≤ b.toNat) : s.clear b = s.refuse .badValue := by
  unfold State.clear
  rw [FaultClass.ofCode_outside h]

theorem State.clear_class (c : FaultClass) :
    s.clear (BitVec.ofNat 8 c.code) =
      if (s.record c).condition then s.refuse .refusedState else (s.clearFault c).done := by
  unfold State.clear
  rw [FaultClass.ofCode_code]

/-- The record of a class once CLEAR_FAULT has cleared it (R138). -/
def State.unlatched (s : State) (c : FaultClass) : State :=
  s.updRecord c fun r => { r with latched := false, bars := false, inStop := false }

theorem State.unlatched_stopEmpty (c : FaultClass) :
    (s.unlatched c).stopEmpty = true ↔ ∀ k, k ≠ c → (s.record k).inStop = false := by
  rw [State.stopEmpty_iff]
  refine forall_congr' fun k => ?_
  unfold State.unlatched
  rw [State.record_updRecord_eq]
  split
  · next e => simp [e]
  · next e => simp [e]

theorem State.clearFault_quiet {c : FaultClass} (h : (s.record c).latched = false) : s.clearFault c = s := by
  unfold State.clearFault
  rw [if_neg (by simp [h])]

theorem State.clearFault_latched {c : FaultClass} (h : (s.record c).latched = true) :
    s.clearFault c =
      if !s.stopEmpty && (s.unlatched c).stopEmpty && s.lineHeld then (s.unlatched c).setCondition .external true
      else s.unlatched c := if_pos h

theorem State.clearFault_noRelease {c : FaultClass} (h : (s.record c).latched = true)
    (stays : (∀ k, (s.record k).inStop = false) ∨ (∃ k, k ≠ c ∧ (s.record k).inStop = true) ∨ s.lineHeld = false) :
    s.clearFault c = s.unlatched c := by
  rw [State.clearFault_latched h]
  refine if_neg fun all => ?_
  simp only [Bool.and_eq_true, Bool.not_eq_true', State.unlatched_stopEmpty] at all
  obtain ⟨⟨drove, empties⟩, low⟩ := all
  rcases stays with none | ⟨k, ne, member⟩ | high
  · rw [s.stopEmpty_iff.mpr none] at drove
    cases drove
  · rw [empties k ne] at member
    cases member
  · rw [high] at low
    cases low

theorem State.clearFault_release {c : FaultClass} (h : (s.record c).latched = true) (member : (s.record c).inStop = true)
    (last : ∀ k, k ≠ c → (s.record k).inStop = false) (low : s.lineHeld = true) :
    s.clearFault c = (s.unlatched c).setCondition .external true := by
  rw [State.clearFault_latched h]
  have drove : s.stopEmpty = false := by
    rw [← Bool.not_eq_true, s.stopEmpty_iff]
    intro none
    rw [none c] at member
    cases member
  rw [if_pos]
  rw [drove, (State.unlatched_stopEmpty c).mpr last, low]
  rfl

theorem State.pop_some {x : Snapshot} {rest : List Snapshot} (h : s.faults.snapshots = x :: rest) :
    s.pop = ⟨.ok, flag8 s.faults.overflow ++ x.bytes,
      { s with faults := { s.faults with
        snapshots := rest, overflow := if rest = [] then false else s.faults.overflow } }⟩ := by
  unfold State.pop
  dsimp only
  rw [h]
  cases rest with
  | nil => simp
  | cons y l => simp

theorem State.pop_none (h : s.faults.snapshots = []) :
    s.pop = ⟨.empty, flag8 s.faults.overflow, { s with faults := { s.faults with overflow := false } }⟩ := by
  unfold State.pop
  dsimp only
  rw [h]

/-! ### The stop line (R140, R141) -/

theorem State.lineFalls_unsensed (h : s.drives = true ∨ s.held = true ∨ s.lineHeld = true) :
    s.lineFalls = { s with lineHeld := true } := by
  unfold State.lineFalls
  rcases h with h | h | h <;> simp [h]

theorem State.lineFalls_sensed (drives : s.drives = false) (held : s.held = false) (high : s.lineHeld = false) :
    s.lineFalls = (({ s with lineHeld := true } : State).setCondition .external true).raisePart .lineLow none none := by
  unfold State.lineFalls
  simp [drives, held, high]

theorem State.lineRises_unsensed (h : s.drives = true ∨ s.held = true) : s.lineRises = { s with lineHeld := false } := by
  unfold State.lineRises
  rcases h with h | h <;> simp [h]

theorem State.lineRises_sensed (drives : s.drives = false) (held : s.held = false) :
    s.lineRises = ({ s with lineHeld := false } : State).setCondition .external false := by
  unfold State.lineRises
  simp [drives, held]

@[simp] theorem State.setCondition_stopEmpty (c : FaultClass) (b : Bool) :
    (s.setCondition c b).stopEmpty = s.stopEmpty := by
  rw [Bool.eq_iff_iff, State.stopEmpty_iff, State.stopEmpty_iff]
  refine forall_congr' fun d => ?_
  unfold State.setCondition
  rw [State.record_updRecord_eq]
  split <;> rfl

/-- With clean contexts, entry to SAFE changes no class record. -/
theorem State.enterSafe_records (clean : ∀ h, (s.head h).clean = true) (c : Option Cause) (d : FaultClass) :
    (s.enterSafe c).record d = s.record d := by
  by_cases m : s.faults.mode = .safe
  · rw [State.enterSafe_of_safe m]
  · obtain ⟨faults, -, -⟩ := State.enterSafe_clean m c clean
    exact State.record_congr (by rw [faults]) d

theorem State.raisePart_stop {c : Cause} (act : (s.record c.cls).action = .stop) (a b : Option Nat) :
    s.raisePart c a b =
      (if c.cls = .external then s.latchReport c a b else (s.latchReport c a b).addStop c.cls).enterSafe (some c) := by
  unfold State.raisePart
  rw [act]

/-- EXTERNAL raised with the action STOP, with clean contexts: the part enters SAFE, and no class joins the stop-cause
set (R137). -/
theorem State.raiseExternal_stop {c : Cause} (external : c.cls = .external) (act : (s.record .external).action = .stop)
    (clean : ∀ h, (s.head h).clean = true) (a b : Option Nat) :
    (s.raisePart c a b).faults.mode = .safe ∧ (s.raisePart c a b).stopEmpty = s.stopEmpty ∧
      (s.raisePart c a b).record .external =
        { s.record .external with latched := true, lastCause := some c, lastStation := a } := by
  have latched := State.latchReport_record s c a b
  rw [State.raisePart_stop (by rw [external]; exact act), if_pos external]
  have records := State.enterSafe_records (s := s.latchReport c a b) clean (some c)
  refine ⟨State.enterSafe_mode _ _, ?_, ?_⟩
  · rw [Bool.eq_iff_iff, State.stopEmpty_iff, State.stopEmpty_iff]
    refine forall_congr' fun d => ?_
    rw [records, latched]
    split <;> rfl
  · rw [records, latched, external, if_pos rfl]

end

/-- Settles O29, slot state by slot state. -/
theorem selectAndDropBySlotState : Obligations.SelectAndDropBySlotState := by
  intro e s h one u
  have one' : u.OneActive := fun i j => by
    rw [State.taken_slot, State.taken_slot]
    exact one i j
  refine ⟨fun b out => ⟨?_, ?_⟩, fun j => ⟨fun ready none => ?_, fun i ready active => ?_, fun active => ?_,
    fun ready active => ?_, fun stored unused => ?_, fun stored used => ?_, fun loading => ?_,
    fun verifying own => ?_, fun other => ?_⟩⟩
  · exact State.takeAddressed_refused h (State.select_noSlot out)
  · exact State.takeAddressed_refused h (State.drop_noSlot out)
  · refine State.takeAddressed_done h ((State.select_ready ready).trans ?_)
    rw [State.makeActive_first ((State.activeSlot_eq_none u).mpr none)]
  · have ne : j ≠ i := fun e => by
      rw [e, active] at ready
      cases ready
    refine State.takeAddressed_done h ((State.select_ready ready).trans ?_)
    rw [State.makeActive_next (State.activeSlot_eq_some one' active) ne]
  · exact State.takeAddressed_done h (State.select_active active)
  · exact State.takeAddressed_refused h (State.select_other ready active)
  · refine State.takeAddressed_done h ((State.drop_stored stored).trans ?_)
    rw [if_pos unused]
    rfl
  · refine State.takeAddressed_done h ((State.drop_stored stored).trans ?_)
    rw [if_neg used]
  · exact State.takeAddressed_done h (State.drop_loading loading)
  · refine State.takeAddressed_done h ((State.drop_verifying verifying).trans ?_)
    unfold State.abandon
    rw [if_pos own]
    rfl
  · exact State.takeAddressed_refused h (State.drop_refused other)

/-- Settles O34, by the class's record and the stack. -/
theorem clearFaultAndPopSnapshot : Obligations.ClearFaultAndPopSnapshot := by
  intro e s h u
  refine ⟨fun b out => ?_, fun c => ?_, fun x rest stack => ?_, fun empty => ?_⟩
  · exact exec_clearFault_hears h (State.clear_none out)
  · intro run cleared
    have allowed : (u.record c).condition = false → u.clear (BitVec.ofNat 8 c.code) = (u.clearFault c).done := by
      intro absent
      rw [State.clear_class, absent]
      rfl
    refine ⟨fun present => ?_, fun absent quiet => ?_, fun absent latched stays => ?_,
      fun absent latched member last low => ?_⟩
    · exact exec_clearFault_hears h ((State.clear_class c).trans (if_pos present))
    · exact exec_clearFault_hears h ((allowed absent).trans (congrArg State.done (State.clearFault_quiet quiet)))
    · exact exec_clearFault_hears h
        ((allowed absent).trans (congrArg State.done (State.clearFault_noRelease latched stays)))
    · exact exec_clearFault_hears h
        ((allowed absent).trans (congrArg State.done (State.clearFault_release latched member last low)))
  · exact State.takeAddressed_answer h (State.pop_some stack)
  · exact State.takeAddressed_answer h (State.pop_none empty)

/-- Settles O37, by whether the part senses the line. -/
theorem stopLineSensed : Obligations.StopLineSensed := by
  intro s low high
  refine ⟨fun unsensed => ?_, fun drives held released => ⟨?_, fun stop clean => ?_⟩, fun unsensed => ?_,
    fun drives held => ?_⟩
  · exact congrArg Host.Outcome.next (State.lineFalls_unsensed unsensed)
  · exact congrArg Host.Outcome.next (State.lineFalls_sensed drives held released)
  · let marked : State := low.setCondition .external true
    have act : (marked.record .external).action = .stop := by
      rw [State.record_setCondition]
      exact stop
    obtain ⟨mode, stops, record⟩ := State.raiseExternal_stop (s := marked) (c := .lineLow) rfl act clean none none
    refine ⟨marked.raisePart .lineLow none none, congrArg Host.Outcome.next (State.lineFalls_sensed drives held released),
      mode, ?_, ?_, ?_⟩
    · have resets := (Keeps.raisePart (State.Keeps.refl marked) .lineLow none none).resets
      unfold State.drives State.inReset
      rw [stops, resets, State.setCondition_stopEmpty]
      exact drives
    · rw [record, State.record_setCondition]
    · rw [record]
  · exact congrArg Host.Outcome.next (State.lineRises_unsensed unsensed)
  · exact congrArg Host.Outcome.next (State.lineRises_sensed drives held)

end Sys2Proof.Machine

/-! PROOFS. What an event of one head leaves alone (`Touches`), and the requests that act on a head: ENROLL, CALIBRATE,
WITHDRAW and RELEASE (R71 to R73, R76). -/

namespace Sys2Proof.Machine

section
set_option Elab.async false
variable {s t u : State} {h g : HeadId}

/-! ### What an event of one head leaves alone -/

/-- From `s` to `t` nothing has changed but the head `h`, the profile slots, and what the scanner and the bus hold. -/
structure State.Touches (s t : State) (h : HeadId) : Prop extends s.Keeps t where
  faults    : t.faults = s.faults := by simp
  reports   : t.reports = s.reports := by simp
  discharge : t.discharge = s.discharge := by simp
  other     : ∀ g, g ≠ h → (t.head g).butScan = (s.head g).butScan

theorem State.Touches.refl (s : State) (h : HeadId) : s.Touches s h where
  toKeeps := .refl s
  other g _ := rfl

theorem State.Touches.trans (a : s.Touches t h) (b : t.Touches u h) : s.Touches u h where
  toKeeps := a.toKeeps.trans b.toKeeps
  faults := b.faults.trans a.faults
  reports := b.reports.trans a.reports
  discharge := b.discharge.trans a.discharge
  other g ne := (b.other g ne).trans (a.other g ne)

theorem State.Touches.onlyHead (a : s.Touches t h) : s.OnlyHead t h :=
  ⟨a.faults, a.reports, a.discharge, a.tracker, a.zones, a.ringOut, a.verifier, a.resets, a.lineHeld, a.ring,
    a.sequencer, a.meterUnit, a.management,
    fun g ne => congrArg (fun c : Head => { c with scan := (s.head g).scan }) (a.other g ne)⟩

theorem State.updHead_touches (s : State) (h : HeadId) (f : Head → Head) : s.Touches (s.updHead h f) h where
  toKeeps := Keeps.updHead (.refl s) h f
  other g ne := (s.updHead_spares ne f).head

theorem State.setSlot_touches (s : State) (h : HeadId) (j : SlotId) (t : Slot) : s.Touches (s.setSlot j t) h where
  toKeeps := Keeps.setSlot (.refl s) j t
  other g _ := rfl

theorem State.changeState_touches (s : State) (h : HeadId) (st : HeadState) : s.Touches (s.changeState h st) h where
  toKeeps := Keeps.changeState (.refl s) h st
  other g ne := (s.changeState_spares ne st).head

theorem State.releasePin_touches (s : State) (h : HeadId) : s.Touches (s.releasePin h) h where
  toKeeps := Keeps.releasePin (.refl s) h
  other g ne := (s.releasePin_spares ne).head

theorem State.post_touches (s : State) (h g : HeadId) : s.Touches (s.post g) h where
  toKeeps := Keeps.post (.refl s) g
  other x _ := State.post_butScan s g x

theorem State.chooseNext_touches (s : State) (h : HeadId) : s.Touches s.chooseNext h where
  toKeeps := Keeps.chooseNext (.refl s)
  faults := s.chooseNext_busOnly.faults
  reports := s.chooseNext_busOnly.reports
  discharge := s.chooseNext_busOnly.discharge
  other x _ := State.chooseNext_butScan s x

theorem State.enterAborting_touches (s : State) (h : HeadId) : s.Touches (s.enterAborting h) h where
  toKeeps := Keeps.enterAborting (.refl s) h
  other g ne := (s.enterAborting_other ne).head

theorem State.giveUpSeating_touches (s : State) (h : HeadId) (v : Verdict) (k : Option SkipReason) :
    s.Touches (s.giveUpSeating h v k) h where
  toKeeps := Keeps.giveUpSeating (.refl s) h v k
  other g ne := (s.giveUpSeating_other ne v k).head

theorem State.enterOff_touches (s : State) (h : HeadId) : s.Touches (s.enterOff h) h where
  toKeeps := Keeps.enterOff (.refl s) h
  other g ne := congrArg Head.butScan ((s.enterOff_head h g).trans (if_neg ne))

/-! ### Urgent posts (R97, R98) -/

theorem State.sendCommand_records (s : State) (h : HeadId) (b : Bool) :
    ∃ x, (s.sendCommand h b).scanner.inFlight = some x ∧ x.head = h ∧ x.urgent = b := ⟨_, rfl, rfl, rfl⟩

/-- A post leaves an urgent exchange of the head waiting or in flight, whatever was there before. -/
theorem State.post_posted (on : (s.head h).enrolled = true) : (s.post h).Posted h := by
  unfold State.post
  split
  · next out =>
    dsimp only
    split
    · unfold State.chooseNext
      cases s.scanner.urgent with
      | nil => exact Or.inr (State.sendCommand_records _ h true)
      | cons g rest => exact Or.inl (List.mem_append_right rest (List.mem_singleton_self h))
    · exact Or.inl (List.mem_append_right _ (List.mem_singleton_self h))
  · next out =>
    exact Or.inl (not_not.mp fun c => out ⟨on, c⟩)

/-- On an idle bus whose urgent queue is empty, as on a busy one, a post touches no other head. -/
theorem State.post_head_ne (free : s.scanner.inFlight = none → s.scanner.urgent = []) (ne : g ≠ h) :
    (s.post h).head g = s.head g := by
  unfold State.post
  split
  · dsimp only
    split
    · next idle =>
      rw [free (Option.isNone_iff_eq_none.mp idle)]
      exact State.head_setHead_ne _ _ ne
    · rfl
  · rfl

/-! ### Requests for a head -/

theorem State.onHead_at {f : HeadId → Answer} (below : h.val < s.management.headCount) :
    s.onHead (BitVec.ofNat 8 h.val) f = f h := by
  unfold State.onHead
  rw [headOf_ofNat below]

theorem State.onHead_outside {b : Byte} {f : HeadId → Answer} (out : s.management.headCount ≤ b.toNat) :
    s.onHead b f = s.refuse .badRow := by
  unfold State.onHead
  rw [headOf_outside out]

theorem State.headEvent_clean {f : State → State} (live : (s.head h).state ≠ .off) (clean : (s.head h).clean = true) :
    s.headEvent h f = f s := by
  unfold State.headEvent
  rw [if_neg live, if_pos clean]

/-! ### ENROLL and CALIBRATE (R71, R76) -/

/-- The calibration constants a request carries are in the ranges of R43. -/
def calibRanged (k : Calib) : Prop :=
  500 ≤ k.liquidK ∧ k.liquidK ≤ 20000 ∧ -500 ≤ k.liquidTrim ∧ k.liquidTrim ≤ 500 ∧
    500 ≤ k.syrupK ∧ k.syrupK ≤ 20000 ∧ -500 ≤ k.syrupTrim ∧ k.syrupTrim ≤ 500 ∧ k.overrun ≤ 500

theorem Calib.inRange_iff (k : Calib) : k.inRange = true ↔ calibRanged k := by
  unfold Calib.inRange calibRanged
  simp only [Bool.and_eq_true, decide_eq_true_eq, and_assoc]

theorem State.enrolHead_touches (s : State) (h : HeadId) (n : Nat) (k : Calib) : s.Touches (s.enrolHead h n k) h :=
  ((s.updHead_touches h _).trans (State.changeState_touches _ h .idle)).trans (State.post_touches _ h h)

theorem State.enrolHead_head (s : State) (h : HeadId) (n : Nat) (k : Calib) :
    ((s.enrolHead h n k).head h).butScan = ({ (s.head h).enrol n k with state := .idle, level := 0 } : Head).butScan := by
  unfold State.enrolHead
  rw [State.post_butScan, State.changeState_head_self, State.head_updHead]
  rfl

/-- The bus serves the head just enrolled, and no other head hears of it. -/
theorem State.enrolHead_bus (once : s.UrgentOnce) (n : Nat) (k : Calib) :
    (s.enrolHead h n k).Posted h ∧ ∀ g, g ≠ h → (s.enrolHead h n k).head g = s.head g := by
  obtain ⟨-, live, idle⟩ := once
  have free : s.scanner.inFlight = none → s.scanner.urgent = [] := fun none =>
    List.eq_nil_iff_forall_not_mem.mpr fun g mem => live g mem (idle none g)
  have self : ((s.updHead h fun c => c.enrol n k).changeState h .idle).head h =
      { (s.head h).enrol n k with state := .idle, level := 0 } := by
    rw [State.changeState_head_self, State.head_updHead]
    rfl
  refine ⟨State.post_posted (by rw [self]; rfl), fun g ne => ?_⟩
  unfold State.enrolHead
  rw [State.post_head_ne _ ne, State.changeState_head_ne _ _ ne, State.head_updHead_ne _ _ ne]
  simpa using free

theorem State.enrol_at {o : Half} {f : CalibFields} (below : h.val < s.management.headCount) :
    s.enrol (BitVec.ofNat 8 h.val) o f =
      if (s.head h).enrolled then s.refuse .refusedState
      else if o.toNat < s.tracker.cpr ∧ (calibOf f).inRange then
        ⟨.ok, nat8 (s.station h), s.enrolHead h o.toNat (calibOf f)⟩
      else s.refuse .badValue := State.onHead_at below

theorem State.enrol_enrolled {o : Half} {f : CalibFields} (below : h.val < s.management.headCount)
    (on : (s.head h).state ≠ .off) : s.enrol (BitVec.ofNat 8 h.val) o f = s.refuse .refusedState :=
  (State.enrol_at below).trans (if_pos ((Head.enrolled_iff _).mpr on))

theorem State.enrol_bad {o : Half} {f : CalibFields} (below : h.val < s.management.headCount)
    (off : (s.head h).state = .off) (bad : ¬(o.toNat < s.tracker.cpr ∧ calibRanged (calibOf f))) :
    s.enrol (BitVec.ofNat 8 h.val) o f = s.refuse .badValue := by
  rw [State.enrol_at below, if_neg fun on => (Head.enrolled_iff _).mp on off,
    if_neg fun c => bad ⟨c.1, (Calib.inRange_iff _).mp c.2⟩]

theorem State.enrol_ok {o : Half} {f : CalibFields} (below : h.val < s.management.headCount)
    (off : (s.head h).state = .off) (angle : o.toNat < s.tracker.cpr) (ranged : calibRanged (calibOf f)) :
    s.enrol (BitVec.ofNat 8 h.val) o f = ⟨.ok, nat8 (s.station h), s.enrolHead h o.toNat (calibOf f)⟩ := by
  rw [State.enrol_at below, if_neg fun on => (Head.enrolled_iff _).mp on off,
    if_pos ⟨angle, (Calib.inRange_iff _).mpr ranged⟩]

theorem State.calibrate_at {f : CalibFields} (below : h.val < s.management.headCount) :
    s.calibrate (BitVec.ofNat 8 h.val) f =
      if ¬((s.head h).state = .off ∨ (s.head h).state = .idle) then s.refuse .refusedState
      else if (calibOf f).inRange then
        (s.setHead h { s.head h with calib := some (calibOf f), overrun := (calibOf f).overrun }).done
      else s.refuse .badValue := State.onHead_at below

/-! ### WITHDRAW (R72) -/

theorem State.withdraw_at (below : h.val < s.management.headCount) :
    s.withdraw (BitVec.ofNat 8 h.val) =
      if (s.head h).state = .off ∨ (s.head h).state = .lockout then s.refuse .refusedState
      else if (s.head h).withdraw then s.done
      else (s.headEvent h fun s => s.withdrawHead h).done := State.onHead_at below

/-- WITHDRAW of a head whose flag is clear and whose context is clean. -/
theorem State.withdraw_event (below : h.val < s.management.headCount) (off : (s.head h).state ≠ .off)
    (lockout : (s.head h).state ≠ .lockout) (fresh : (s.head h).withdraw = false) (clean : (s.head h).clean = true) :
    s.withdraw (BitVec.ofNat 8 h.val) = (s.withdrawHead h).done := by
  rw [State.withdraw_at below, if_neg (not_or.mpr ⟨off, lockout⟩), if_neg (by simp [fresh]),
    State.headEvent_clean off clean]

theorem State.withdrawHead_idle (e : (s.head h).state = .idle) : s.withdrawHead h = s.enterOff h := by
  unfold State.withdrawHead
  rw [e]

theorem State.withdrawHead_seating (e : (s.head h).state = .seating) :
    s.withdrawHead h = (s.setWithdraw h).giveUpSeating h .skipped (some .withdraw) := by
  unfold State.withdrawHead
  rw [e]

theorem State.withdrawHead_running (e : (s.head h).state = .running) :
    s.withdrawHead h = (s.setWithdraw h).enterAborting h := by
  unfold State.withdrawHead
  rw [e]

theorem State.withdrawHead_flag (e : (s.head h).state = .done ∨ (s.head h).state = .emptyPass ∨
    (s.head h).state = .aborting ∨ (s.head h).state = .forced) : s.withdrawHead h = s.setWithdraw h := by
  unfold State.withdrawHead
  rcases e with e | e | e | e
  · rw [e]
  · rw [e]
  · rw [e]
  · rw [e]

/-- The exchange of a head that has entered OFF is discarded (R95). -/
theorem State.enterOff_discards (s : State) (h : HeadId) :
    ∀ x, (s.enterOff h).scanner.inFlight = some x → x.head = h → x.discard = true := by
  intro x mem own
  simp only [State.enterOff, State.markInFlight, Option.map_eq_some_iff] at mem
  obtain ⟨y, -, rfl⟩ := mem
  split at own
  · next e => rw [if_pos e]
  · next e => exact absurd own e

/-! ### Pins given back (R37) -/

theorem Slot.release_givesBack (t : Slot) : t.GivesBack t.release := by
  unfold Slot.GivesBack Slot.release
  refine ⟨fun last gone => ?_, fun stays => ?_⟩
  · rw [if_pos ⟨last, gone⟩]
    exact ⟨rfl, rfl, rfl, rfl, rfl, rfl, fun k => by simp [Slot.freed, SegCell.blank]⟩
  · refine if_neg fun ⟨last, gone⟩ => ?_
    rcases stays with more | ⟨retiring, corrupt⟩
    · exact more last
    · exact gone.elim retiring corrupt

theorem State.giveUpSeating_slot {p : Pin} (e : (s.head h).pin = some p) (v : Verdict) (k : Option SkipReason)
    (j : SlotId) :
    (s.giveUpSeating h v k).slot j = if j = p.slot then (s.slot p.slot).release else s.slot j := by
  rw [← State.releasePin_slot e]
  exact State.slot_congr (by unfold State.giveUpSeating; simp) j

theorem State.enterAborting_slot {p : Pin} (e : (s.head h).pin = some p) (j : SlotId) :
    (s.enterAborting h).slot j = if j = p.slot then (s.slot p.slot).release else s.slot j := by
  have pinned : (((s.changeState h .aborting).updHead h Head.vented).head h).pin = some p := by
    rw [State.head_updHead, State.changeState_head_self]
    exact e
  have kept : ∀ i, ((s.changeState h .aborting).updHead h Head.vented).slot i = s.slot i :=
    fun i => State.slot_congr (by simp) i
  rw [← kept, ← kept, ← State.releasePin_slot pinned]
  exact State.slot_congr (by unfold State.enterAborting; simp) j

theorem State.giveUpSeating_self (s : State) (h : HeadId) (v : Verdict) (k : Option SkipReason) :
    (s.giveUpSeating h v k).head h =
      ({ s.head h with pin := none, state := .emptyPass, level := 0 } : Head).withRecord v k (s.head h).pin :=
  (s.giveUpSeating_head h h v k).trans (if_pos rfl)

theorem State.enterAborting_self (s : State) (h : HeadId) :
    ((s.enterAborting h).head h).butScan = ((s.head h).aborted s.sequencer.ventLimit).butScan :=
  (s.enterAborting_head h h).trans (if_pos rfl)

theorem Head.aborted_withdraw (c : Head) (n : Nat) : (c.aborted n).withdraw = c.withdraw := by
  simp [Head.aborted, Head.vented, Head.withoutSegment]

theorem Head.withRecord_record {c : Head} (e : c.record = none) (v : Verdict) (k : Option SkipReason) (p : Option Pin) :
    ∃ r, (c.withRecord v k p).record = some r ∧ r.verdict = v ∧ r.skip = k ∧ r.pin = p :=
  ⟨_, Head.withRecord_new e v k p, rfl, rfl, rfl⟩

/-! ### RELEASE (R73) -/

theorem State.release_at (below : h.val < s.management.headCount) :
    s.release (BitVec.ofNat 8 h.val) =
      if s.faults.mode = .production then s.refuse .refusedMode
      else if (s.head h).state = .lockout ∨ (s.head h).hold then (s.headEvent h fun s => s.releaseHead h).done
      else s.refuse .refusedState := State.onHead_at below

theorem State.release_event (below : h.val < s.management.headCount) (mode : s.faults.mode ≠ .production)
    (held : (s.head h).state = .lockout ∨ (s.head h).hold = true) (off : (s.head h).state ≠ .off)
    (clean : (s.head h).clean = true) : s.release (BitVec.ofNat 8 h.val) = (s.releaseHead h).done := by
  rw [State.release_at below, if_neg mode, if_pos held, State.headEvent_clean off clean]

theorem State.releaseHead_unlocked (e : (s.head h).state ≠ .lockout) :
    s.releaseHead h = s.setHead h { s.head h with hold := false } := by
  unfold State.releaseHead
  dsimp only
  rw [State.head_updHead, if_neg e]
  rfl

theorem State.releaseHead_locked (e : (s.head h).state = .lockout) :
    s.releaseHead h = ((s.updHead h fun c => { c with hold := false }).leaveSafeClose h).recheckLockout := by
  unfold State.releaseHead
  dsimp only
  rw [State.head_updHead, if_pos e]

/-- The context of a head that leaves ABORTING, FORCED or LOCKOUT (R65, R73), but for the Scanner's fields. -/
def Head.leftClose (c : Head) : Head :=
  let d : Head := { c with ventTimer := none, valves := .rest }
  if c.record.isSome then { d with state := .done, level := 0 }
  else if c.withdraw then ({ d with state := .off, level := 0 } : Head).offContext
  else { d with state := .idle, level := 0 }

theorem State.leaveSafeClose_head (s : State) (h : HeadId) :
    ((s.leaveSafeClose h).head h).butScan = (s.head h).leftClose.butScan := by
  unfold State.leaveSafeClose Head.leftClose
  dsimp only
  rw [State.head_updHead]
  split
  · rw [State.post_butScan, State.changeState_head_self, State.head_updHead]
    rfl
  · split
    · rw [State.enterOff_head, if_pos rfl, State.head_updHead]
    · rw [State.post_butScan, State.changeState_head_self, State.head_updHead]
      rfl

theorem Head.leftClose_abortable (c : Head) : c.leftClose.abortable = false := by
  unfold Head.leftClose
  dsimp only
  split
  · rfl
  · split <;> rfl

theorem State.recheckLockout_unreached (n : (s.head h).abortable = false) : s.Spares s.recheckLockout h := by
  unfold State.recheckLockout
  split
  · exact State.updRecord_spares s _ _ h
  · exact State.checkLockout_unreached n

/-- The head that RELEASE takes out of LOCKOUT; the lockout count looked at again does not reach it. -/
theorem State.releaseHead_head (e : (s.head h).state = .lockout) :
    ((s.releaseHead h).head h).butScan = ({ s.head h with hold := false } : Head).leftClose.butScan := by
  have left := State.leaveSafeClose_head (s.updHead h fun c => { c with hold := false }) h
  rw [State.head_updHead] at left
  rw [State.releaseHead_locked e]
  refine Eq.trans (State.recheckLockout_unreached ?_).head left
  exact (Head.abortable_of_state (Head.fields_of_butScan left).1).trans (Head.leftClose_abortable _)

end

/-- Settles O31, check by check. -/
theorem enrollAndCalibrate : Obligations.EnrollAndCalibrate := by
  intro e o f s h u k ranged
  refine ⟨fun b out => ⟨?_, ?_⟩, fun g below => ?_⟩
  · exact State.takeAddressed_refused h (State.onHead_outside out)
  · exact State.takeAddressed_refused h (State.onHead_outside out)
  intro c enroll calibrate
  refine ⟨fun on => ?_, fun off bad => ?_, fun off angle good once => ?_, fun off idle => ?_, fun may bad => ?_,
    fun may good => ?_⟩
  · exact State.takeAddressed_refused h (State.enrol_enrolled below on)
  · exact State.takeAddressed_refused h (State.enrol_bad below off bad)
  · have touched := u.enrolHead_touches g o.toNat k
    obtain ⟨posted, others⟩ := State.enrolHead_bus (h := g) once o.toNat k
    obtain ⟨scan, self⟩ := Head.exists_scan (u.enrolHead_head g o.toNat k)
    refine ⟨u.enrolHead g o.toNat k, State.takeAddressed_answer h (State.enrol_ok below off angle good), ?_⟩
    rw [self]
    exact ⟨rfl, rfl, rfl, rfl, rfl, rfl, rfl, rfl, rfl, rfl, rfl, rfl, rfl, posted, others,
      by unfold State.enrolHead; simp, touched.faults, touched.reports, touched.discharge, touched.tracker,
      touched.zones⟩
  · exact State.takeAddressed_refused h ((State.calibrate_at below).trans (if_pos fun c => c.elim off idle))
  · refine State.takeAddressed_refused h ((State.calibrate_at below).trans ?_)
    exact (if_neg (not_not.mpr may)).trans (if_neg (mt (Calib.inRange_iff _).mp bad))
  · refine State.takeAddressed_done h ((State.calibrate_at below).trans ?_)
    exact (if_neg (not_not.mpr may)).trans (if_pos ((Calib.inRange_iff _).mpr good))

/-- Settles O32, state by state. -/
theorem withdrawByState : Obligations.WithdrawByState := by
  intro e s h u
  refine ⟨fun b out => ?_, fun g below => ?_⟩
  · exact State.takeAddressed_refused h (State.onHead_outside out)
  intro c run
  have event : c.state ≠ .off → c.state ≠ .lockout → c.withdraw = false → c.clean = true →
      run = .next ((u.withdrawHead g).replied e 13 .ok []) := fun off lockout fresh clean =>
    State.takeAddressed_done h (State.withdraw_event below off lockout fresh clean)
  refine ⟨fun no => ?_, fun off lockout set => ?_, fun flag fresh clean => ?_, fun idle fresh clean => ?_,
    fun p seating fresh clean pin record => ?_, fun p running fresh clean pin record => ?_⟩
  · exact State.takeAddressed_refused h ((State.withdraw_at below).trans (if_pos no))
  · refine State.takeAddressed_done h ((State.withdraw_at below).trans ?_)
    rw [if_neg (not_or.mpr ⟨off, lockout⟩), if_pos set]
  · rw [event (by rintro e; simp [e] at flag) (by rintro e; simp [e] at flag) fresh clean,
      State.withdrawHead_flag flag]
    rfl
  · rw [event (by simp [idle]) (by simp [idle]) fresh clean, State.withdrawHead_idle idle]
    have touched := u.enterOff_touches g
    have self := u.enterOff_head g g
    rw [if_pos rfl] at self
    refine ⟨_, rfl, ?_⟩
    rw [self]
    exact ⟨rfl, rfl, rfl, rfl, rfl, rfl, rfl, u.enterOff_urgent g, u.enterOff_discards g,
      fun i ne => (u.enterOff_head g i).trans (if_neg ne), u.enterOff_store g, touched.faults, touched.reports,
      touched.discharge⟩
  · rw [event (by simp [seating]) (by simp [seating]) fresh clean, State.withdrawHead_seating seating]
    let v : State := u.setWithdraw g
    have flag : v.head g = { c with withdraw := true } := State.head_updHead u g _
    have slot := State.giveUpSeating_slot (s := v) (h := g) (p := p) (by rw [flag]; exact pin) .skipped (some .withdraw)
      p.slot
    have self := v.giveUpSeating_self g .skipped (some .withdraw)
    have other := fun i ne => ((v.giveUpSeating_head g i .skipped (some .withdraw)).trans (if_neg ne)).trans
      (State.head_updHead_ne u (fun c => { c with withdraw := true }) ne)
    let d : Head := { c with withdraw := true, pin := none, state := .emptyPass, level := 0 }
    have self : (v.giveUpSeating g .skipped (some .withdraw)).head g = d.withRecord .skipped (some .withdraw) c.pin := by
      rw [self, flag]
    obtain ⟨r, made, verdict, skip, pin'⟩ := Head.withRecord_record (c := d) record .skipped (some .withdraw) c.pin
    refine ⟨v.giveUpSeating g .skipped (some .withdraw), r, rfl, ?_⟩
    rw [self, Head.withRecord_state, Head.withRecord_level, Head.withRecord_withdraw, Head.withRecord_pin, slot,
      if_pos rfl]
    exact ⟨rfl, rfl, rfl, rfl, made, verdict, skip, pin'.trans pin, Slot.release_givesBack _, other,
      State.giveUpSeating_faults v g _ _, State.giveUpSeating_reports v g _ _⟩
  · rw [event (by simp [running]) (by simp [running]) fresh clean, State.withdrawHead_running running]
    let v : State := u.setWithdraw g
    let d : Head := { c with withdraw := true }
    have flag : v.head g = d := State.head_updHead u g _
    have slot := State.enterAborting_slot (s := v) (h := g) (p := p) (by rw [flag]; exact pin) p.slot
    have self := v.enterAborting_self g
    rw [flag] at self
    obtain ⟨state, level, valves, arm, pinned, phase, ventTimer, made⟩ := Head.fields_of_butScan self
    have withdraw := Head.field_eq_of_butScan Head.withdraw (fun _ => rfl) self
    obtain ⟨a1, a2, a3, a4, a5, a6, a7⟩ := d.aborted_fields u.sequencer.ventLimit
    obtain ⟨r, new, verdict, pin', fault, completed⟩ := Head.aborted_record (c := d) record u.sequencer.ventLimit
    refine ⟨v.enterAborting g, r, rfl, state.trans a1, level.trans a2, withdraw.trans (d.aborted_withdraw _),
      pinned.trans a5, valves.trans a3, arm.trans a4, phase.trans a6, ventTimer.trans a7, made.trans new, verdict,
      pin'.trans pin, fault, completed, ?_, State.enterAborting_faults v g, State.enterAborting_reports v g⟩
    rw [slot, if_pos rfl]
    exact Slot.release_givesBack _

/-- Settles O33, by the mode, the state and the hold flag. -/
theorem releaseRows : Obligations.ReleaseRows := by
  intro e s h u
  refine ⟨fun b out => ?_, fun g below => ?_⟩
  · exact State.takeAddressed_refused h (State.onHead_outside out)
  intro c run
  refine ⟨fun mode => ?_, fun mode unlocked free => ?_, fun mode unlocked off hold clean => ?_,
    fun mode locked clean => ?_⟩
  · exact State.takeAddressed_refused h ((State.release_at below).trans (if_pos mode))
  · refine State.takeAddressed_refused h ((State.release_at below).trans ?_)
    rw [if_neg mode, if_neg (not_or.mpr ⟨unlocked, by simpa using free⟩)]
  · refine State.takeAddressed_done h ((State.release_event below mode (Or.inr hold) off clean).trans ?_)
    rw [State.releaseHead_unlocked unlocked]
  · have self := State.releaseHead_head locked
    obtain ⟨scan, self⟩ := Head.exists_scan self
    have off : c.state ≠ .off := by rw [locked]; decide
    refine ⟨u.releaseHead g,
      State.takeAddressed_done h (State.release_event below mode (Or.inl locked) off clean), ?_⟩
    rw [self]
    unfold Head.leftClose
    dsimp only
    by_cases made : c.record.isSome = true
    · rw [if_pos made]
      exact ⟨rfl, rfl, rfl, fun _ => ⟨rfl, rfl⟩, fun none => by simp [none] at made, fun none => by simp [none] at made⟩
    · rw [if_neg made]
      by_cases leaves : c.withdraw = true
      · rw [if_pos leaves]
        exact ⟨rfl, rfl, rfl, fun some => absurd some made, fun _ _ => rfl, fun _ stays => by simp [stays] at leaves⟩
      · rw [if_neg leaves]
        exact ⟨rfl, rfl, rfl, fun some => absurd some made, fun _ goes => absurd goes leaves, fun _ _ => rfl⟩

end Sys2Proof.Machine

/-! PROOFS. The three resets: RESET_PART, power-on and the reset pin (R139, R161, R177 to R179). -/

namespace Sys2Proof.Machine

section
set_option Elab.async false
variable {s : State} {c : ResetCause}

/-! ### Held and driving -/

theorem State.held_of_inReset (h : s.inReset = true) : s.held = true := by
  unfold State.held
  rw [h]
  rfl

theorem State.drives_of_inReset (h : s.inReset = true) : s.drives = true := by
  unfold State.drives
  rw [h, Bool.or_true]

theorem State.rejectOutput_of_inReset (h : s.inReset = true) : s.rejectOutput = false :=
  State.rejectOutput_held (State.held_of_inReset h)

/-- Taking a request changes no membership of the stop-cause set. -/
theorem State.taken_inStop (s : State) (c : FaultClass) : (s.taken.record c).inStop = (s.record c).inStop := by
  by_cases e : c = .heartbeat
  · subst e
    unfold State.taken State.plainRestart State.restartWatchdog
    split
    · rfl
    · split
      · rfl
      · rfl
      · rw [State.record_setCondition]
        rfl
  · rw [s.taken_record c e]

theorem State.drives_iff (out : s.inReset = false) : s.drives = true ↔ ∃ c, (s.record c).inStop = true := by
  have all := s.stopEmpty_iff
  unfold State.drives
  rw [out, Bool.or_false, Bool.not_eq_true', ← Bool.not_eq_true, all]
  simp

theorem State.not_inReset_of_live (live : s.held = false) : s.inReset = false := (Bool.or_eq_false_iff.mp live).1

/-! ### Beginnings and ends -/

/-- What every beginning of a reset leaves: every piece of state at its reset value, no report queued, and the address
and the reset cause record as they were. -/
theorem State.cleared_reset (s : State) (c : ResetCause) :
    (s.cleared c).HoldsResetValues c ∧ (s.cleared c).reports.queue = [] ∧
      (s.cleared c).management.address = s.management.address ∧
      (s.cleared c).management.resetCause = s.management.resetCause :=
  ⟨s.cleared_holds c, rfl, rfl, rfl⟩

theorem State.beginReset_first (out : s.inReset = false) (c : ResetCause) (cut : Option Nat) :
    s.beginReset c cut =
      ({ s with ringOut := if s.held then s.ringOut else cutShort cut s.ringOut } : State).cleared c := by
  unfold State.beginReset
  rw [if_neg (by simp [out])]

/-- What the beginning of a power-on or pin reset makes of the frames sent on: the last of them is cut short, unless the
part is held already (R161). -/
theorem State.beginReset_cut (out : s.inReset = false) (c : ResetCause) (cut : Option Nat) :
    (s.held = true ∨ cut = none → (s.beginReset c cut).ringOut = s.ringOut) ∧
      ∀ n before f, s.held = false → cut = some n → s.ringOut = before ++ [f] →
        (s.beginReset c cut).ringOut = before ++ [f.take n] := by
  have left : (s.beginReset c cut).ringOut = if s.held then s.ringOut else cutShort cut s.ringOut := by
    rw [State.beginReset_first out]
    rfl
  refine ⟨fun whole => ?_, fun n before f live cutAt sent => ?_⟩
  · rw [left]
    rcases whole with held | rfl
    · rw [if_pos held]
    · split <;> rfl
  · rw [left, if_neg (by simp [live]), cutAt, sent]
    simp [cutShort]

/-- The beginning of a power-on or pin reset, its condition marked by `mark` (R139, R177). -/
theorem State.beginReset_holds (out : s.inReset = false) (c : ResetCause) (cut : Option Nat) {r : Resets}
    (inForce : r.powerOn = true ∨ r.pin = true) :
    let t : State := { s.beginReset c cut with resets := r }
    t.inReset = true ∧ t.drives = true ∧ t.HoldsResetValues c ∧ t.reports.queue = [] ∧
      (t.management.address = s.management.address ∧ t.management.resetCause = s.management.resetCause) ∧
      t.rejectOutput = false := by
  intro t
  have inReset : t.inReset = true := by
    show (r.powerOn || r.pin || r.ringActive) = true
    rcases inForce with e | e
    · rw [e]; rfl
    · rw [e, Bool.or_true]; rfl
  refine ⟨inReset, State.drives_of_inReset inReset, ?_, ?_, ⟨?_, ?_⟩, State.rejectOutput_of_inReset inReset⟩
  · have holds := State.cleared_holds { s with ringOut := if s.held then s.ringOut else cutShort cut s.ringOut } c
    rw [← State.beginReset_first out] at holds
    exact holds
  · show (s.beginReset c cut).reports.queue = []
    rw [State.beginReset_first out]
    rfl
  · show (s.beginReset c cut).management.address = _
    rw [State.beginReset_first out]
    rfl
  · show (s.beginReset c cut).management.resetCause = _
    rw [State.beginReset_first out]
    rfl

theorem State.beginReset_resets (s : State) (c : ResetCause) (cut : Option Nat) :
    (s.beginReset c cut).resets = s.resets := by
  unfold State.beginReset
  split <;> rfl

theorem State.conditionEnded_last (out : s.inReset = false) (c : ResetCause) (straps : BitVec 4) :
    s.conditionEnded c straps = s.resetEnded c straps := if_neg (by simp [out])

theorem State.conditionEnded_extended (h : s.inReset = true) (c : ResetCause) (straps : BitVec 4) :
    s.conditionEnded c straps = s := if_pos h

/-- The end of a reset no other condition extends (R177). -/
theorem State.resetEnded_ends (out : s.inReset = false) (c : ResetCause) (straps : BitVec 4) :
    (s.resetEnded c straps).JustReset c ∧ (s.resetEnded c straps).management.address = straps.toNat ∧
      (s.resetEnded c straps).inReset = false :=
  ⟨s.resetEnded_justReset c straps, rfl, out⟩

theorem exec_resetPartResetEnd_active (h : s.resets.ringActive = true) (straps : BitVec 4) :
    exec (.resetPartResetEnd straps) s =
      .next (({ s with resets := { s.resets with ringActive := false } } : State).conditionEnded .ring straps) :=
  congrArg Host.Outcome.next (if_pos h)

theorem exec_powerOnResetEnd_due (on : s.resets.powerOn = true) (supply : s.resets.supplyOut = false)
    (straps : BitVec 4) :
    exec (.powerOnResetEnd straps) s =
      .next (({ s with resets := { s.resets with powerOn := false } } : State).conditionEnded .power straps) :=
  congrArg Host.Outcome.next (if_pos ⟨on, by rw [supply]; rfl⟩)

theorem exec_resetPinRelease_pin (h : s.resets.pin = true) (straps : BitVec 4) :
    exec (.resetPinRelease straps) s =
      .next (({ s with resets := { s.resets with pin := false } } : State).conditionEnded .pin straps) :=
  congrArg Host.Outcome.next (if_pos h)

end

/-- Settles O35, from the request to the end of its reset. -/
theorem resetPartSequence : Obligations.ResetPartSequence := by
  refine ⟨fun e s h => ?_, fun s pending => ?_, fun s idle => ?_, fun s straps =>
    ⟨fun active power pin => ?_, fun active extended => ?_, fun idle => ?_⟩⟩
  · let t : State := { s.taken with resets := { s.resets with ringPending := true } }
    have held : t.held = true := Bool.or_true _
    have out : t.inReset = false := State.not_inReset_of_live (s := s) h.live
    have answer : exec (.resetPart e) s = .next (t.replied e 17 .ok []) := by
      refine (State.takeAddressed_answer (k := 17) h rfl).trans ?_
      rw [State.taken_resets]
      rfl
    refine ⟨t, answer, held, State.rejectOutput_held held, ?_, rfl⟩
    rw [State.drives_iff out]
    exact exists_congr fun c => by rw [← s.taken_inStop c]; rfl
  · have inReset : ∀ r : Resets, r.ringActive = true → (r.powerOn || r.pin || r.ringActive) = true := fun r on => by
      rw [on, Bool.or_true]
    let t : State :=
      { s.cleared .ring with resets := { s.resets with ringPending := false, ringActive := true } }
    have active : t.inReset = true := inReset t.resets rfl
    obtain ⟨holds, queue, address, cause⟩ := s.cleared_reset .ring
    exact ⟨t, congrArg Host.Outcome.next (if_pos pending), active, State.drives_of_inReset active, holds, queue, rfl,
      address, cause⟩
  · exact congrArg Host.Outcome.next (if_neg (by simp [idle]))
  · have out : ({ s with resets := { s.resets with ringActive := false } } : State).inReset = false := by
      simp [State.inReset, power, pin]
    obtain ⟨just, address, ended⟩ := State.resetEnded_ends out .ring straps
    exact ⟨_, (exec_resetPartResetEnd_active active straps).trans
      (congrArg Host.Outcome.next (State.conditionEnded_last out _ _)), just, address, ended, rfl⟩
  · refine (exec_resetPartResetEnd_active active straps).trans
      (congrArg Host.Outcome.next (State.conditionEnded_extended ?_ _ _))
    rcases extended with e | e <;> simp [State.inReset, e]
  · exact congrArg Host.Outcome.next (if_neg (by simp [idle]))

/-- Settles O36, by the beginnings, the extensions and the ends. -/
theorem powerAndPinResets : Obligations.PowerAndPinResets := by
  refine ⟨fun s cut out => ?_, fun s cut inReset => ?_, fun _ => rfl, fun s straps =>
    ⟨fun on supply pin ring => ?_, fun on supply extended => ?_, fun pin power ring => ?_, fun pin extended => ?_⟩⟩
  · intro cutRight kept
    refine ⟨?_, ?_⟩
    · obtain ⟨inReset, drives, holds, queue, kept, output⟩ := State.beginReset_holds out .power cut
        (r := { s.resets with powerOn := true, supplyOut := true }) (Or.inl rfl)
      refine ⟨_, ?_, inReset, drives, holds, queue, kept, rfl, output, State.beginReset_cut out .power cut⟩
      rw [← s.beginReset_resets .power cut]
      rfl
    · obtain ⟨inReset, drives, holds, queue, kept, output⟩ := State.beginReset_holds out .pin cut
        (r := { s.resets with pin := true }) (Or.inr rfl)
      refine ⟨_, ?_, inReset, drives, holds, queue, kept, rfl, output, State.beginReset_cut out .pin cut⟩
      rw [← s.beginReset_resets .pin cut]
      rfl
  · have power : exec (.supplyLeavesRange cut) s = .next { s.beginReset .power cut with
      resets := { (s.beginReset .power cut).resets with powerOn := true, supplyOut := true } } := rfl
    have pin : exec (.resetPinAssert cut) s = .next { s.beginReset .pin cut with
      resets := { (s.beginReset .pin cut).resets with pin := true } } := rfl
    rw [power, pin, State.beginReset_inReset inReset, State.beginReset_inReset inReset]
    exact ⟨rfl, rfl⟩
  · have out : ({ s with resets := { s.resets with powerOn := false } } : State).inReset = false := by
      simp [State.inReset, pin, ring]
    obtain ⟨just, address, ended⟩ := State.resetEnded_ends out .power straps
    exact ⟨_, (exec_powerOnResetEnd_due on supply straps).trans
      (congrArg Host.Outcome.next (State.conditionEnded_last out _ _)), just, address, ended⟩
  · refine (exec_powerOnResetEnd_due on supply straps).trans
      (congrArg Host.Outcome.next (State.conditionEnded_extended ?_ _ _))
    rcases extended with e | e <;> simp [State.inReset, e]
  · have out : ({ s with resets := { s.resets with pin := false } } : State).inReset = false := by
      simp [State.inReset, power, ring]
    obtain ⟨just, address, ended⟩ := State.resetEnded_ends out .pin straps
    exact ⟨_, (exec_resetPinRelease_pin pin straps).trans
      (congrArg Host.Outcome.next (State.conditionEnded_last out _ _)), just, address, ended⟩
  · refine (exec_resetPinRelease_pin pin straps).trans
      (congrArg Host.Outcome.next (State.conditionEnded_extended ?_ _ _))
    rcases extended with e | e <;> simp [State.inReset, e]

end Sys2Proof.Machine

/-! PROOFS. Part-scoped raises with clean contexts (R69, R130, R134, R135). -/

namespace Sys2Proof.Machine

section
set_option Elab.async false
variable {s t : State} {k : Cause} {h g : HeadId}

/-! ### A part abort over all heads with clean contexts (R69) -/

/-- One step of a part abort: of the heads it changes its own alone, as R69 gives. -/
structure State.AbortsOne (s t : State) (h : HeadId) (skip : SkipReason) (c : Option Cause) : Prop where
  faults    : t.faults = s.faults
  reports   : t.reports = s.reports
  sequencer : t.sequencer = s.sequencer
  heads     : ∀ g, (t.head g).butScan =
    if g = h then ((s.head h).partAborted s.sequencer.ventLimit skip c).butScan else (s.head g).butScan

theorem State.AbortsOne.clean {skip : SkipReason} {c : Option Cause} (a : s.AbortsOne t h skip c)
    (clean : ∀ g, (s.head g).clean = true) (g : HeadId) : (t.head g).clean = true := by
  have after := a.heads g
  split at after
  · exact (Head.field_eq_of_butScan Head.clean (fun _ => rfl) after).trans
      ((Head.partAborted_clean _ _ _ _).trans (clean h))
  · exact (Head.field_eq_of_butScan Head.clean (fun _ => rfl) after).trans (clean g)

/-- A context aborted once is not changed by a second abort. -/
theorem Head.partAborted_twice (c : Head) (n : Nat) (skip : SkipReason) (x : Option Cause) :
    (c.partAborted n skip x).partAborted n skip x = c.partAborted n skip x :=
  Head.partAborted_of_not_abortable (Head.partAborted_not_abortable c n skip x) n skip x

theorem Head.partAborted_congr {c d : Head} (e : c.butScan = d.butScan) (n : Nat) (skip : SkipReason)
    (x : Option Cause) : (c.partAborted n skip x).butScan = (d.partAborted n skip x).butScan := by
  rw [← Head.partAborted_butScan c, e, Head.partAborted_butScan d]

/-- Such steps taken by heads one after the other abort those heads, and leave the faults and the reports alone. -/
theorem State.foldl_aborts {step : State → HeadId → State} {skip : SkipReason} {c : Option Cause}
    (one : ∀ (t : State) (h : HeadId), (∀ g, (t.head g).clean = true) → t.AbortsOne (step t h) h skip c)
    (heads : List HeadId) (s : State) (clean : ∀ g, (s.head g).clean = true) :
    (heads.foldl step s).faults = s.faults ∧ (heads.foldl step s).reports = s.reports ∧
      ∀ g, ((heads.foldl step s).head g).butScan =
        if g ∈ heads then ((s.head g).partAborted s.sequencer.ventLimit skip c).butScan else (s.head g).butScan := by
  induction heads generalizing s with
  | nil => exact ⟨rfl, rfl, fun _ => rfl⟩
  | cons h rest ih =>
    have first := one s h clean
    obtain ⟨faults, reports, heads⟩ := ih (step s h) (first.clean clean)
    refine ⟨faults.trans first.faults, reports.trans first.reports, fun g => (heads g).trans ?_⟩
    rw [first.sequencer]
    have after := first.heads g
    by_cases e : g = h
    · subst e
      rw [if_pos rfl] at after
      rw [if_pos List.mem_cons_self, Head.partAborted_congr after, Head.partAborted_twice, after, ite_self]
    · rw [if_neg e] at after
      simp only [List.mem_cons, e, false_or, Head.partAborted_congr after, after]

theorem State.haltAbortStep_aborts (s : State) (h : HeadId) (clean : ∀ g, (s.head g).clean = true) (k : Cause) :
    s.AbortsOne (s.haltAbortStep k h) h .hold (some k) := by
  unfold State.haltAbortStep
  split
  · next may =>
    have live : (s.head h).state ≠ .off := by
      rintro off
      simp [Head.abortable, off] at may
    rw [State.headEvent_clean live (clean h)]
    exact ⟨by simp, by simp, by simp, fun g => s.abortHead_head h g .hold (some k)⟩
  · next no =>
    refine ⟨rfl, rfl, rfl, fun g => ?_⟩
    split
    · next e => rw [e, Head.partAborted_of_not_abortable (by simpa using no)]
    · rfl

/-- With clean contexts the part abort of a HALT changes the heads alone. -/
theorem State.haltAbort_clean (clean : ∀ g, (s.head g).clean = true) (k : Cause) :
    (s.haltAbort k).faults = s.faults ∧ (s.haltAbort k).reports = s.reports ∧
      ∀ g, ((s.haltAbort k).head g).butScan =
        ((s.head g).partAborted s.sequencer.ventLimit .hold (some k)).butScan := by
  rw [State.haltAbort_eq]
  obtain ⟨faults, reports, heads⟩ :=
    State.foldl_aborts (fun t h clean => State.haltAbortStep_aborts t h clean k) s.headOrder s clean
  exact ⟨faults, reports, fun g => (heads g).trans (if_pos (s.mem_headOrder g))⟩

/-! ### A raise by its action (R135) -/

/-- The FAULT report of a raise (R134). -/
def State.faultReport (s : State) (k : Cause) (station slot : Option Nat) : ReportBody :=
  .fault
    { cause := k, station := station, slot := slot, action := (s.record k.cls).action
      condition := (s.record k.cls).condition }

theorem State.latchReport_eq (s : State) (k : Cause) (a b : Option Nat) :
    s.latchReport k a b =
      (s.updRecord k.cls fun r => { r with latched := true, lastCause := some k, lastStation := a }).report
        (s.faultReport k a b) := by
  unfold State.latchReport State.faultReport
  dsimp only
  rw [State.record_updRecord]

theorem State.latchReport_reports (s : State) (k : Cause) (a b : Option Nat) :
    (s.latchReport k a b).reports = s.reports.create (s.faultReport k a b) := by
  rw [State.latchReport_eq]
  rfl

theorem State.raisePart_note (act : (s.record k.cls).action = .note) (a b : Option Nat) :
    s.raisePart k a b = s.latchReport k a b := by
  unfold State.raisePart
  rw [act]

theorem State.raisePart_hold (act : (s.record k.cls).action = .hold) (a b : Option Nat) :
    s.raisePart k a b = (s.latchReport k a b).updRecord k.cls fun r => { r with bars := true } := by
  unfold State.raisePart
  rw [act]

theorem State.raisePart_halt (act : (s.record k.cls).action = .halt) (a b : Option Nat) :
    s.raisePart k a b =
      ((s.latchReport k a b).updRecord k.cls fun r => { r with bars := true }).haltAbort k := by
  unfold State.raisePart
  rw [act]

/-- A field of a class record that neither the stop-cause set nor a condition touches is kept as a class joins the
stop-cause set. -/
theorem State.addStop_field {α : Type} (f : ClassRecord → α) (stops : ∀ r : ClassRecord, f { r with inStop := true } = f r)
    (marks : ∀ r : ClassRecord, f { r with condition := false } = f r) (s : State) (c d : FaultClass) :
    f ((s.addStop c).record d) = f (s.record d) := by
  have joined : ∀ x, f ((s.updRecord c fun r => { r with inStop := true }).record x) = f (s.record x) := fun x => by
    rw [State.record_updRecord_eq]
    split
    · exact stops _
    · rfl
  unfold State.addStop
  dsimp only
  split
  · rw [State.record_updRecord_eq]
    split
    · exact (marks _).trans (joined d)
    · exact joined d
  · exact joined d

/-- The state on which a raise with the action STOP enters SAFE. -/
def State.stopRaised (s : State) (k : Cause) (a b : Option Nat) : State :=
  if k.cls = .external then s.latchReport k a b else (s.latchReport k a b).addStop k.cls

theorem State.stopRaised_heads (s : State) (k : Cause) (a b : Option Nat) : (s.stopRaised k a b).heads = s.heads := by
  unfold State.stopRaised
  split <;> simp

theorem State.stopRaised_clean (clean : ∀ g, (s.head g).clean = true) (a b : Option Nat) (g : HeadId) :
    ((s.stopRaised k a b).head g).clean = true := by
  rw [State.head_congr (s.stopRaised_heads k a b)]
  exact clean g

theorem State.stopRaised_mode (s : State) (k : Cause) (a b : Option Nat) :
    (s.stopRaised k a b).faults.mode = s.faults.mode := by
  unfold State.stopRaised
  split <;> simp

theorem State.stopRaised_reports (s : State) (k : Cause) (a b : Option Nat) :
    (s.stopRaised k a b).reports = s.reports.create (s.faultReport k a b) := by
  unfold State.stopRaised
  split
  · exact s.latchReport_reports k a b
  · rw [State.addStop_reports, s.latchReport_reports k a b]

theorem State.stopRaised_field {α : Type} (f : ClassRecord → α) (stops : ∀ r : ClassRecord, f { r with inStop := true } = f r)
    (marks : ∀ r : ClassRecord, f { r with condition := false } = f r) (s : State) (k : Cause) (a b : Option Nat)
    (d : FaultClass) : f ((s.stopRaised k a b).record d) = f ((s.latchReport k a b).record d) := by
  unfold State.stopRaised
  split
  · rfl
  · exact State.addStop_field f stops marks _ k.cls d

theorem State.stopRaised_inStop (s : State) (k : Cause) (a b : Option Nat) (d : FaultClass) :
    ((s.stopRaised k a b).record d).inStop =
      if d = k.cls ∧ k.cls ≠ .external then true else (s.record d).inStop := by
  have latch : ((s.latchReport k a b).record d).inStop = (s.record d).inStop := by
    rw [State.latchReport_record]
    split <;> rfl
  unfold State.stopRaised
  split
  · next e => rw [if_neg fun c => c.2 e, latch]
  · next e =>
    rw [State.addStop_inStop, latch]
    simp [e]

theorem State.raisePart_stopRaised (act : (s.record k.cls).action = .stop) (a b : Option Nat) :
    s.raisePart k a b = (s.stopRaised k a b).enterSafe (some k) := State.raisePart_stop act a b

/-- With clean contexts, entry to SAFE makes the MODE report of a change of mode and no other report. -/
theorem State.enterSafe_reports (clean : ∀ g, (s.head g).clean = true) (c : Option Cause) :
    (s.enterSafe c).reports =
      if s.faults.mode = .safe then s.reports
      else s.reports.create (.mode s.faults.mode .safe (c.map Cause.cls)) := by
  split
  · next safe => rw [State.enterSafe_of_safe safe]
  · next other => exact (State.enterSafe_clean other c clean).2.1

/-- The reports of a raise with clean contexts: the FAULT report, and with STOP the MODE report of an entry to SAFE. -/
theorem State.raisePart_reports (clean : ∀ g, (s.head g).clean = true) (k : Cause) (a b : Option Nat) :
    (s.raisePart k a b).reports =
      let told := s.reports.create (s.faultReport k a b)
      if (s.record k.cls).action = .stop ∧ s.faults.mode ≠ .safe then
        told.create (.mode s.faults.mode .safe (some k.cls)) else told := by
  dsimp only
  cases act : (s.record k.cls).action with
  | note =>
    rw [State.raisePart_note act, if_neg (by simp)]
    exact s.latchReport_reports k a b
  | hold =>
    rw [State.raisePart_hold act, if_neg (by simp)]
    exact s.latchReport_reports k a b
  | halt =>
    rw [State.raisePart_halt act, if_neg (by simp),
      (State.haltAbort_clean (s := (s.latchReport k a b).updRecord k.cls fun r => { r with bars := true }) clean k).2.1]
    exact s.latchReport_reports k a b
  | stop =>
    rw [State.raisePart_stopRaised act, State.enterSafe_reports (State.stopRaised_clean clean a b),
      State.stopRaised_mode, State.stopRaised_reports]
    by_cases safe : s.faults.mode = .safe
    · rw [if_pos safe, if_neg fun c => c.2 safe]
    · rw [if_neg safe, if_pos ⟨rfl, safe⟩]
      rfl

/-! ### The heads of a HALT -/

theorem Head.partAborted_kept {c : Head} (running : c.state ≠ .running) (seating : c.state ≠ .seating) (n : Nat)
    (skip : SkipReason) (x : Option Cause) : c.partAborted n skip x = c :=
  Head.partAborted_of_not_abortable (by simp [Head.abortable, running, seating]) n skip x

theorem Head.aborted_lastFault (c : Head) (n : Nat) : (c.aborted n).lastFault = c.lastFault := by
  simp [Head.aborted, Head.vented, Head.withoutSegment]

end

/-- Settles O43, action by action. -/
theorem partRaiseLatchesReportsActs : Obligations.PartRaiseLatchesReportsActs := by
  intro s k station slot clean t r latched told
  have latch : s.latchReport k station slot = told := s.latchReport_eq k station slot
  refine ⟨fun act => ?_, fun act => ?_, fun act => ?_, fun act => ?_⟩
  · exact (State.raisePart_note act _ _).trans latch
  · exact (State.raisePart_hold act _ _).trans (by rw [latch])
  · let barred : State := told.updRecord k.cls fun r => { r with bars := true }
    obtain ⟨faults, reports, heads⟩ := State.haltAbort_clean (s := barred) clean k
    have run : t = barred.haltAbort k := (State.raisePart_halt act _ _).trans (by rw [latch])
    have record : ∀ c, t.record c = barred.record c := fun c => State.record_congr (by rw [run, faults]) c
    rw [run] at record ⊢
    refine ⟨?_, fun c ne => ?_, by rw [faults]; rfl, reports, fun h => ?_⟩
    · rw [record, State.record_updRecord, ← latch, State.latchReport_record, if_pos rfl]
    · rw [record, State.record_updRecord_eq, if_neg ne, ← latch, State.latchReport_record, if_neg ne]
    · have self : ((barred.haltAbort k).head h).butScan =
        ((s.head h).partAborted s.sequencer.ventLimit .hold (some k)).butScan := heads h
      obtain ⟨state, -, -, -, -, -, -, made⟩ := Head.fields_of_butScan self
      have lastFault := Head.field_eq_of_butScan Head.lastFault (fun _ => rfl) self
      refine ⟨fun running => ?_, fun seating => ?_, fun notRunning notSeating => ?_⟩
      · rw [Head.partAborted_running running] at state lastFault
        exact ⟨state.trans (Head.aborted_fields _ _).1, lastFault.trans (Head.aborted_lastFault _ _)⟩
      · rw [Head.partAborted_seating seating] at state made
        rw [state, made, Head.withRecord_state]
        refine ⟨rfl, fun fresh => ?_⟩
        let c : Head := { s.head h with lastFault := some k, pin := none, state := .emptyPass, level := 0 }
        exact ⟨_, Head.withRecord_new (c := c) fresh _ _ _, rfl, rfl, rfl⟩
      · rw [Head.partAborted_kept notRunning notSeating] at self
        exact congrArg (fun c : Head => { c with scan := (s.head h).scan }) self
  · have run : t = (s.stopRaised k station slot).enterSafe (some k) := State.raisePart_stopRaised act _ _
    have record : ∀ c, t.record c = (s.stopRaised k station slot).record c := fun c => by
      rw [run, State.enterSafe_records (State.stopRaised_clean clean _ _)]
    have field : ∀ {α : Type} (f : ClassRecord → α), (∀ r : ClassRecord, f { r with inStop := true } = f r) →
        (∀ r : ClassRecord, f { r with condition := false } = f r) → ∀ c,
        f (t.record c) = if c = k.cls then f latched else f (s.record c) := fun f stops marks c => by
      rw [record, State.stopRaised_field f stops marks, State.latchReport_record]
      split
      · next e => rw [e]
      · rfl
    refine ⟨by rw [run, State.enterSafe_mode], ?_, ?_, ?_, fun inside => ?_, fun outside => ?_, fun c ne => ⟨?_, ?_⟩,
      fun c => ?_, ?_⟩
    · exact (field ClassRecord.latched (fun _ => rfl) (fun _ => rfl) _).trans (if_pos rfl)
    · exact (field ClassRecord.lastCause (fun _ => rfl) (fun _ => rfl) _).trans (if_pos rfl)
    · exact (field ClassRecord.lastStation (fun _ => rfl) (fun _ => rfl) _).trans (if_pos rfl)
    · rw [record, State.stopRaised_inStop, if_pos ⟨rfl, inside⟩]
    · rw [record, State.stopRaised_inStop, if_neg fun c => c.2 outside]
    · rw [record, State.stopRaised_inStop, if_neg fun c => ne c.1]
    · exact (field ClassRecord.latched (fun _ => rfl) (fun _ => rfl) c).trans (if_neg ne)
    · rw [field ClassRecord.bars (fun _ => rfl) (fun _ => rfl) c]
      split
      · next e => rw [e]
      · rfl
    · have told_reports : told.reports = s.reports.create (s.faultReport k station slot) := rfl
      refine (State.raisePart_reports clean k station slot).trans ?_
      dsimp only
      rw [← told_reports]
      by_cases safe : s.faults.mode = .safe
      · rw [if_pos safe, if_neg fun c => c.2 safe]
      · rw [if_neg safe, if_pos ⟨act, safe⟩]

end Sys2Proof.Machine

/-! PROOFS. Head-scoped raises (R67, R68, R134, R136, R142). -/

namespace Sys2Proof.Machine

section
set_option Elab.async false
variable {s t u : State} {k : Cause} {h g : HeadId} {act : Action}

/-! ### What the effect of a fault on its head leaves alone -/

/-- From `s` to `t` the head `h` has taken a fault: the class records, the mode and the reports are as they were, and so
are the head's parity and its last fault. -/
structure State.HeadActed (s t : State) (h : HeadId) : Prop where
  records   : ∀ c, t.record c = s.record c := by exact fun _ => rfl
  mode      : t.faults.mode = s.faults.mode := by rfl
  limit     : t.faults.lockoutLimit = s.faults.lockoutLimit := by rfl
  reports   : t.reports = s.reports := by rfl
  clean     : (t.head h).clean = (s.head h).clean
  lastFault : (t.head h).lastFault = (s.head h).lastFault
  other     : ∀ g, g ≠ h → s.Spares t g

theorem State.HeadActed.refl (s : State) (h : HeadId) : s.HeadActed s h where
  clean := rfl
  lastFault := rfl
  other g _ := .refl s g

theorem State.HeadActed.trans (a : s.HeadActed t h) (b : t.HeadActed u h) : s.HeadActed u h where
  records c := (b.records c).trans (a.records c)
  mode := b.mode.trans a.mode
  limit := b.limit.trans a.limit
  reports := b.reports.trans a.reports
  clean := b.clean.trans a.clean
  lastFault := b.lastFault.trans a.lastFault
  other g ne := (a.other g ne).trans (b.other g ne)

theorem State.HeadActed.of_faults (faults : t.faults = s.faults) (reports : t.reports = s.reports)
    (clean : (t.head h).clean = (s.head h).clean) (lastFault : (t.head h).lastFault = (s.head h).lastFault)
    (other : ∀ g, g ≠ h → s.Spares t g) : s.HeadActed t h where
  records c := State.record_congr (by rw [faults]) c
  mode := by rw [faults]
  limit := by rw [faults]
  reports := reports
  clean := clean
  lastFault := lastFault
  other := other

theorem State.setHold_acted (s : State) (h : HeadId) : s.HeadActed (s.updHead h fun c => { c with hold := true }) h where
  clean := by rw [State.head_updHead]
  lastFault := by rw [State.head_updHead]
  other g ne := s.updHead_spares ne _

theorem State.pushSnapshot_acted (s : State) (h : HeadId) (k : Cause) : s.HeadActed (s.pushSnapshot h k) h where
  records c := State.pushSnapshot_record h k c
  mode := State.pushSnapshot_mode s h k
  limit := (Keeps.pushSnapshot (.refl s) h k).lockoutLimit
  reports := by unfold State.pushSnapshot; split <;> rfl
  clean := by rw [State.pushSnapshot_head]
  lastFault := by rw [State.pushSnapshot_head]
  other g _ := s.pushSnapshot_spares g h k

/-- The context of a head that has entered FORCED (R64), but for the Scanner's fields. -/
def Head.forcedClosed (c : Head) : Head := { c.vented with state := .forced, level := 2, ventTimer := none }

/-- The context of a head that has entered LOCKOUT (R66), but for the Scanner's fields. -/
def Head.lockedOut (c : Head) : Head := { c.vented with state := .lockout, level := 3, ventTimer := none }

theorem State.enterForced_self (s : State) (h : HeadId) :
    ((s.enterForced h).head h).butScan = (s.head h).forcedClosed.butScan :=
  (s.enterForced_head h h).trans (if_pos rfl)

theorem State.enterLockout_self (s : State) (h : HeadId) :
    ((s.enterLockout h).head h).butScan = (s.head h).lockedOut.butScan :=
  (s.enterLockout_head h h).trans (if_pos rfl)

theorem Head.aborted_clean (c : Head) (n : Nat) : (c.aborted n).clean = c.clean := by
  simp [Head.aborted, Head.vented, Head.withoutSegment]

theorem State.enterAborting_acted (s : State) (h : HeadId) : s.HeadActed (s.enterAborting h) h :=
  .of_faults (by simp) (by simp)
    ((Head.field_eq_of_butScan Head.clean (fun _ => rfl) (s.enterAborting_self h)).trans (Head.aborted_clean _ _))
    ((Head.field_eq_of_butScan Head.lastFault (fun _ => rfl) (s.enterAborting_self h)).trans
      (Head.aborted_lastFault _ _))
    fun _ ne => s.enterAborting_other ne

theorem State.giveUpSeating_acted (s : State) (h : HeadId) (v : Verdict) (r : Option SkipReason) :
    s.HeadActed (s.giveUpSeating h v r) h :=
  .of_faults (by simp) (by simp) (by rw [s.giveUpSeating_self, Head.withRecord_clean])
    (by rw [s.giveUpSeating_self, Head.withRecord_lastFault]) fun _ ne => s.giveUpSeating_other ne v r

theorem State.enterForced_acted (s : State) (h : HeadId) : s.HeadActed (s.enterForced h) h :=
  .of_faults (by simp) (by simp)
    ((Head.field_eq_of_butScan Head.clean (fun _ => rfl) (s.enterForced_self h)).trans rfl)
    ((Head.field_eq_of_butScan Head.lastFault (fun _ => rfl) (s.enterForced_self h)).trans rfl)
    fun _ ne => s.enterForced_other ne

theorem State.enterLockout_acted (s : State) (h : HeadId) : s.HeadActed (s.enterLockout h) h :=
  .of_faults (by simp) (by simp)
    ((Head.field_eq_of_butScan Head.clean (fun _ => rfl) (s.enterLockout_self h)).trans rfl)
    ((Head.field_eq_of_butScan Head.lastFault (fun _ => rfl) (s.enterLockout_self h)).trans rfl)
    fun _ ne => s.enterLockout_other ne

/-! ### The effect of a fault on its head, state by state (R67, R68) -/

/-- The hold flag that HOLD sets, before the head moves. -/
def State.holding (s : State) (h : HeadId) (act : Action) : State :=
  if act = .hold then s.updHead h fun c => { c with hold := true } else s

theorem State.holding_acted (s : State) (h : HeadId) (act : Action) : s.HeadActed (s.holding h act) h := by
  unfold State.holding
  split
  · exact s.setHold_acted h
  · exact .refl s h

theorem State.holding_head (s : State) (h : HeadId) (act : Action) :
    (s.holding h act).head h = { s.head h with hold := (s.head h).hold || act == .hold } := by
  unfold State.holding
  split
  · next e => rw [State.head_updHead, e]; simp
  · next e => rw [beq_eq_false_iff_ne.mpr e, Bool.or_false]

theorem State.holding_faults (s : State) (h : HeadId) (act : Action) : (s.holding h act).faults = s.faults := by
  unfold State.holding
  split <;> rfl

/-- The state of a head once it has taken a fault. -/
def HeadState.afterFault (st : HeadState) (k : Cause) (act : Action) : HeadState :=
  if escalates st k act then
    match st with
    | .running => .aborting
    | .seating => .emptyPass
    | .aborting => .forced
    | .forced => .lockout
    | st => st
  else st

theorem State.holding_state (s : State) (h : HeadId) (act : Action) :
    ((s.holding h act).head h).state = (s.head h).state := by rw [State.holding_head]

theorem State.headAction_eq (s : State) (h : HeadId) (k : Cause) (act : Action) :
    s.headAction h k act =
      if escalates (s.head h).state k act then (s.holding h act).headAction h k .halt else s.holding h act := by
  have all : ∀ st, escalates st k .halt = true := fun st => rfl
  unfold State.headAction State.holding
  by_cases e : act = .hold
  · simp only [e, if_true, if_false, State.head_updHead, all, reduceCtorEq]
  · simp only [e, if_true, if_false, all, reduceCtorEq]

/-- What a fault that moves its head does, state by state. -/
theorem State.headAction_halt (s : State) (h : HeadId) (k : Cause) :
    ((s.head h).state = .running → s.headAction h k .halt = (s.pushSnapshot h k).enterAborting h) ∧
      ((s.head h).state = .seating →
        s.headAction h k .halt = (s.pushSnapshot h k).giveUpSeating h .skipped (some .headHold)) ∧
      ((s.head h).state = .aborting → s.headAction h k .halt = (s.pushSnapshot h k).enterForced h) ∧
      ((s.head h).state = .forced → s.headAction h k .halt = (s.pushSnapshot h k).enterLockout h) ∧
      ((s.head h).state = .idle ∨ (s.head h).state = .done ∨ (s.head h).state = .emptyPass →
        s.headAction h k .halt = s.updHead h fun c => { c with hold := true }) ∧
      ((s.head h).state = .off ∨ (s.head h).state = .lockout → s.headAction h k .halt = s) := by
  have all : ∀ st, escalates st k .halt = true := fun st => rfl
  unfold State.headAction
  simp only [all, if_true, if_false, reduceCtorEq]
  refine ⟨fun e => ?_, fun e => ?_, fun e => ?_, fun e => ?_, fun e => ?_, fun e => ?_⟩
  · rw [e]
  · rw [e]
  · rw [e]
  · rw [e]
  · rcases e with e | e | e
    · rw [e]
    · rw [e]
    · rw [e]
  · rcases e with e | e
    · rw [e]
    · rw [e]

theorem State.headAction_halt_acted (s : State) (h : HeadId) (k : Cause) : s.HeadActed (s.headAction h k .halt) h := by
  have pushed := s.pushSnapshot_acted h k
  obtain ⟨running, seating, aborting, forced, waiting, still⟩ := s.headAction_halt h k
  cases st : (s.head h).state with
  | running => exact running st ▸ pushed.trans (State.enterAborting_acted _ h)
  | seating => exact seating st ▸ pushed.trans (State.giveUpSeating_acted _ h _ _)
  | aborting => exact aborting st ▸ pushed.trans (State.enterForced_acted _ h)
  | forced => exact forced st ▸ pushed.trans (State.enterLockout_acted _ h)
  | idle => exact waiting (Or.inl st) ▸ s.setHold_acted h
  | done => exact waiting (Or.inr (Or.inl st)) ▸ s.setHold_acted h
  | emptyPass => exact waiting (Or.inr (Or.inr st)) ▸ s.setHold_acted h
  | off => rw [still (Or.inl st)]; exact .refl s h
  | lockout => rw [still (Or.inr st)]; exact .refl s h

theorem State.headAction_acted (s : State) (h : HeadId) (k : Cause) (act : Action) :
    s.HeadActed (s.headAction h k act) h := by
  have held := s.holding_acted h act
  rw [State.headAction_eq]
  split
  · exact held.trans (State.headAction_halt_acted _ h k)
  · exact held

theorem State.headAction_halt_state (s : State) (h : HeadId) (k : Cause) :
    ((s.headAction h k .halt).head h).state = (s.head h).state.afterFault k .halt := by
  obtain ⟨running, seating, aborting, forced, waiting, still⟩ := s.headAction_halt h k
  have moved : ∀ {t : State} {c : Head}, (t.head h).butScan = c.butScan → (t.head h).state = c.state := fun e =>
    (Head.fields_of_butScan e).1
  cases st : (s.head h).state with
  | running => rw [running st, moved (State.enterAborting_self _ h)]; exact (Head.aborted_fields _ _).1
  | seating => rw [seating st, State.giveUpSeating_self, Head.withRecord_state]; rfl
  | aborting => rw [aborting st, moved (State.enterForced_self _ h)]; rfl
  | forced => rw [forced st, moved (State.enterLockout_self _ h)]; rfl
  | idle => rw [waiting (Or.inl st), State.head_updHead, st]; rfl
  | done => rw [waiting (Or.inr (Or.inl st)), State.head_updHead, st]; rfl
  | emptyPass => rw [waiting (Or.inr (Or.inr st)), State.head_updHead, st]; rfl
  | off => rw [still (Or.inl st), st]; rfl
  | lockout => rw [still (Or.inr st), st]; rfl

theorem State.headAction_state (s : State) (h : HeadId) (k : Cause) (act : Action) :
    ((s.headAction h k act).head h).state = (s.head h).state.afterFault k act := by
  rw [State.headAction_eq]
  unfold HeadState.afterFault
  split
  · rw [State.headAction_halt_state, State.holding_state]
    rfl
  · exact s.holding_state h act

/-- The snapshot stack once the head has taken the fault (R149). -/
theorem State.headAction_halt_snapshots (s : State) (h : HeadId) (k : Cause)
    (moves : (s.head h).state = .running ∨ (s.head h).state = .seating ∨ (s.head h).state = .aborting ∨
      (s.head h).state = .forced) :
    (s.headAction h k .halt).faults.snapshots = (s.pushSnapshot h k).faults.snapshots := by
  obtain ⟨running, seating, aborting, forced, -, -⟩ := s.headAction_halt h k
  rcases moves with e | e | e | e
  · rw [running e, State.enterAborting_faults]
  · rw [seating e, State.giveUpSeating_faults]
  · rw [aborting e, State.enterForced_faults]
  · rw [forced e, State.enterLockout_faults]

theorem State.pushSnapshot_pushed (room : s.faults.snapshots.length < 16) (h : HeadId) (k : Cause) :
    (s.pushSnapshot h k).faults.snapshots = (s.head h).snapshot (s.station h) k :: s.faults.snapshots := by
  unfold State.pushSnapshot
  rw [if_pos (show s.faults.snapshots.length < Config.snapshotSize from room)]

theorem State.headAction_snapshots (moves : escalates (s.head h).state k act = true)
    (from_ : (s.head h).state = .running ∨ (s.head h).state = .seating ∨ (s.head h).state = .aborting ∨
      (s.head h).state = .forced) (room : s.faults.snapshots.length < 16) :
    (s.headAction h k act).faults.snapshots = (s.head h).snapshot (s.station h) k :: s.faults.snapshots := by
  rw [State.headAction_eq, if_pos moves, State.headAction_halt_snapshots _ h k (by rwa [State.holding_state]),
    State.pushSnapshot_pushed (by rwa [State.holding_faults]), State.holding_faults, State.holding_head]
  have station : (s.holding h act).station h = s.station h := by
    unfold State.holding State.station
    split <;> rfl
  rw [station]
  rfl

theorem State.headAction_quiet_snapshots (quiet : escalates (s.head h).state k act = false) :
    (s.headAction h k act).faults.snapshots = s.faults.snapshots := by
  rw [State.headAction_eq, quiet, if_neg (by simp), State.holding_faults]

/-- The pin of a head that a fault has taken out of RUNNING or SEATING (R37). -/
theorem State.headAction_pin (moves : escalates (s.head h).state k act = true)
    (from_ : (s.head h).state = .running ∨ (s.head h).state = .seating) :
    ((s.headAction h k act).head h).pin = none := by
  rw [State.headAction_eq, if_pos moves]
  obtain ⟨running, seating, -, -, -, -⟩ := (s.holding h act).headAction_halt h k
  rw [State.holding_state] at running seating
  rcases from_ with e | e
  · rw [running e, (Head.fields_of_butScan (State.enterAborting_self _ h)).2.2.2.2.1]
    exact (Head.aborted_fields _ _).2.2.2.2.1
  · rw [seating e, State.giveUpSeating_self, Head.withRecord_pin]

/-- An entry to FORCED while an exchange is in flight waits to be sent (R107). -/
theorem State.enterForced_unsent (busy : s.scanner.inFlight ≠ none) (h : HeadId) :
    (s.enterForced h).scanner.inFlight ≠ none ∧ ((s.enterForced h).head h).scan.forcedUnsent = true := by
  rw [State.enterForced_eq]
  have posted := State.post_spares (s.forcing h) h h
  have flight : (s.forcing h).scanner.inFlight ≠ none := by
    unfold State.forcing State.changeState
    dsimp only
    split
    · simpa [State.markInFlight] using busy
    · exact busy
  obtain ⟨still, head⟩ := posted.busy flight
  refine ⟨still, ?_⟩
  rw [head, State.forcing_head_self]

theorem State.headAction_unsent (moves : escalates (s.head h).state k act = true)
    (from_ : (s.head h).state = .aborting) (busy : s.scanner.inFlight ≠ none) :
    (s.headAction h k act).scanner.inFlight ≠ none ∧ ((s.headAction h k act).head h).scan.forcedUnsent = true := by
  rw [State.headAction_eq, if_pos moves,
    ((s.holding h act).headAction_halt h k).2.2.1 (by rw [State.holding_state, from_])]
  refine State.enterForced_unsent ?_ h
  unfold State.pushSnapshot State.holding
  split <;> split <;> exact busy

/-- A fault that finds a head with no bottle under it sets the hold flag (R67). -/
theorem State.headAction_waits (moves : escalates (s.head h).state k act = true)
    (from_ : (s.head h).state = .idle ∨ (s.head h).state = .done ∨ (s.head h).state = .emptyPass) :
    ((s.headAction h k act).head h).hold = true := by
  rw [State.headAction_eq, if_pos moves,
    ((s.holding h act).headAction_halt h k).2.2.2.2.1 (by rwa [State.holding_state]), State.head_updHead]

/-- Of the head that a fault moves, or does not touch, HOLD alone sets the hold flag. -/
theorem State.headAction_hold (other : escalates (s.head h).state k act = true →
      (s.head h).state ≠ .idle ∧ (s.head h).state ≠ .done ∧ (s.head h).state ≠ .emptyPass) :
    ((s.headAction h k act).head h).hold = ((s.head h).hold || act == .hold) := by
  rw [State.headAction_eq]
  have held : ((s.holding h act).head h).hold = ((s.head h).hold || act == .hold) := by rw [State.holding_head]
  split
  · next moves =>
    obtain ⟨idle, done, emptyPass⟩ := other moves
    obtain ⟨running, seating, aborting, forced, -, still⟩ := (s.holding h act).headAction_halt h k
    rw [State.holding_state] at running seating aborting forced still
    have field : ∀ {t : State} {c : Head}, (t.head h).butScan = c.butScan → (t.head h).hold = c.hold := fun e =>
      Head.field_eq_of_butScan Head.hold (fun _ => rfl) e
    rw [← held]
    cases st : (s.head h).state with
    | running =>
      rw [running st, field (State.enterAborting_self _ h), State.pushSnapshot_head]
      exact Head.withRecord_hold _ _ _ _
    | seating => rw [seating st, State.giveUpSeating_self, Head.withRecord_hold, State.pushSnapshot_head]
    | aborting => rw [aborting st, field (State.enterForced_self _ h), State.pushSnapshot_head]; rfl
    | forced => rw [forced st, field (State.enterLockout_self _ h), State.pushSnapshot_head]; rfl
    | idle => exact absurd st idle
    | done => exact absurd st done
    | emptyPass => exact absurd st emptyPass
    | off => rw [still (Or.inl st)]
    | lockout => rw [still (Or.inr st)]
  · exact held

end
end Sys2Proof.Machine

/-! PROOFS. The part-level effects of a head-scoped raise (R136, R142), and the timers (R9, R11, R63, R123, R147). -/

namespace Sys2Proof.Machine

section
set_option Elab.async false
variable {s t u : State} {k : Cause} {h g : HeadId} {act : Action}

/-! ### The lockout count looked at with clean contexts (R142) -/

theorem State.checkLockout_below (below : s.lockoutCount < s.faults.lockoutLimit) : s.checkLockout = s :=
  if_neg fun c => absurd c.1 (Nat.not_le.mpr below)

theorem State.checkLockout_cases (s : State) :
    s.checkLockout = s ∨ s.checkLockout = (s.lockoutMarked.addStop .lockout).enterSafe (some .lockoutLimit) := by
  unfold State.checkLockout
  split
  · exact Or.inr rfl
  · exact Or.inl rfl

theorem State.checkLockout_safe (safe : s.faults.mode = .safe) : s.checkLockout.faults.mode = .safe := by
  rcases s.checkLockout_cases with e | e
  · rw [e, safe]
  · rw [e, State.enterSafe_mode]

/-- Of the record of another class, looking at the lockout count changes the condition of EXTERNAL alone. -/
theorem State.checkLockout_field {α : Type} (f : ClassRecord → α)
    (marks : ∀ r : ClassRecord, f { r with condition := false } = f r) (clean : ∀ g, (s.head g).clean = true)
    {c : FaultClass} (ne : c ≠ .lockout) : f (s.checkLockout.record c) = f (s.record c) := by
  rcases s.checkLockout_cases with e | e
  · rw [e]
  · have marked : s.lockoutMarked.record c = s.record c := by
      show ((s.updRecord .lockout _).latchReport .lockoutLimit none none).record c = _
      rw [State.latchReport_record, if_neg (show c ≠ Cause.lockoutLimit.cls from ne), State.record_updRecord_eq,
        if_neg ne]
    have heads : ∀ g, ((s.lockoutMarked.addStop .lockout).head g).clean = true := fun g => by
      rw [State.head_congr (State.addStop_heads _ _)]
      exact clean g
    have stopped : f ((s.lockoutMarked.addStop .lockout).record c) = f (s.lockoutMarked.record c) := by
      unfold State.addStop
      dsimp only
      split
      · rw [State.record_updRecord_eq]
        split
        · rw [marks, State.record_updRecord_eq, if_neg ne]
        · rw [State.record_updRecord_eq, if_neg ne]
      · rw [State.record_updRecord_eq, if_neg ne]
    rw [e, State.enterSafe_records heads, stopped, marked]

theorem State.enterSafe_snapshots (clean : ∀ g, (s.head g).clean = true) (c : Option Cause) :
    (s.enterSafe c).faults.snapshots = s.faults.snapshots := by
  by_cases safe : s.faults.mode = .safe
  · rw [State.enterSafe_of_safe safe]
  · rw [(State.enterSafe_clean safe c clean).1]

theorem State.checkLockout_snapshots (clean : ∀ g, (s.head g).clean = true) :
    s.checkLockout.faults.snapshots = s.faults.snapshots := by
  rcases s.checkLockout_cases with e | e
  · rw [e]
  · have heads : ∀ g, ((s.lockoutMarked.addStop .lockout).head g).clean = true := fun g => by
      rw [State.head_congr (State.addStop_heads _ _)]
      exact clean g
    rw [e, State.enterSafe_snapshots heads, State.addStop_snapshots]
    rfl

theorem State.enterSafe_heads_clean (clean : ∀ g, (s.head g).clean = true) (c : Option Cause) (g : HeadId) :
    ((s.enterSafe c).head g).clean = true := by
  by_cases safe : s.faults.mode = .safe
  · rw [State.enterSafe_of_safe safe]
    exact clean g
  · have head := (State.enterSafe_clean safe c clean).2.2 g
    rw [Head.field_eq_of_butScan Head.clean (fun _ => rfl) head, Head.partAborted_clean, clean g]

/-- One head moved at most: the lockout count grows by one at most. -/
theorem State.lockoutCount_le_succ (other : ∀ g, g ≠ h → (t.head g).state = (s.head g).state) :
    t.lockoutCount ≤ s.lockoutCount + 1 := by
  have e := State.countP_heads_change (s := s) (t := t) (h := h) (p := fun c => c.state == .lockout)
    fun g hg => by rw [other g hg]
  have lt := Bool.toNat_le ((t.head h).state == .lockout)
  unfold State.lockoutCount
  omega

/-! ### The part-level effects of a head-scoped raise (R136) -/

/-- The state on which the lockout count is looked at after a head-scoped raise. -/
def State.headStopped (s : State) (k : Cause) (act : Action) : State :=
  if act = .stop then (s.addStop k.cls).enterSafe (some k) else s

theorem State.afterHeadRaise_eq (s : State) (k : Cause) (act : Action) :
    s.afterHeadRaise k act = (s.headStopped k act).checkLockout := rfl

theorem State.headStopped_other (no : act ≠ .stop) : s.headStopped k act = s := if_neg no

theorem State.headStopped_stop (s : State) (k : Cause) :
    s.headStopped k .stop = (s.addStop k.cls).enterSafe (some k) := rfl

theorem State.addStop_clean (clean : ∀ g, (s.head g).clean = true) (c : FaultClass) (g : HeadId) :
    ((s.addStop c).head g).clean = true := by
  rw [State.head_congr (State.addStop_heads _ _)]
  exact clean g

theorem State.headStopped_clean (clean : ∀ g, (s.head g).clean = true) (g : HeadId) :
    ((s.headStopped k act).head g).clean = true := by
  unfold State.headStopped
  split
  · exact State.enterSafe_heads_clean (State.addStop_clean clean _) _ g
  · exact clean g

theorem State.headStopped_field {α : Type} (f : ClassRecord → α)
    (stops : ∀ r : ClassRecord, f { r with inStop := true } = f r)
    (marks : ∀ r : ClassRecord, f { r with condition := false } = f r) (clean : ∀ g, (s.head g).clean = true)
    (c : FaultClass) : f ((s.headStopped k act).record c) = f (s.record c) := by
  unfold State.headStopped
  split
  · rw [State.enterSafe_records (State.addStop_clean clean _), State.addStop_field f stops marks]
  · rfl

theorem State.afterHeadRaise_field {α : Type} (f : ClassRecord → α)
    (stops : ∀ r : ClassRecord, f { r with inStop := true } = f r)
    (marks : ∀ r : ClassRecord, f { r with condition := false } = f r) (clean : ∀ g, (s.head g).clean = true)
    {c : FaultClass} (ne : c ≠ .lockout) : f ((s.afterHeadRaise k act).record c) = f (s.record c) :=
  (State.checkLockout_field f marks (State.headStopped_clean clean) ne).trans (State.headStopped_field f stops marks clean c)

theorem State.afterHeadRaise_inStop (clean : ∀ g, (s.head g).clean = true) (ne : k.cls ≠ .lockout) :
    ((s.afterHeadRaise k .stop).record k.cls).inStop = true := by
  rw [State.afterHeadRaise_eq,
    State.checkLockout_field ClassRecord.inStop (fun _ => rfl) (State.headStopped_clean clean) ne,
    State.headStopped_stop, State.enterSafe_records (State.addStop_clean clean _), State.addStop_inStop, if_pos rfl]

theorem State.afterHeadRaise_snapshots (clean : ∀ g, (s.head g).clean = true) :
    (s.afterHeadRaise k act).faults.snapshots = s.faults.snapshots := by
  rw [State.afterHeadRaise_eq, State.checkLockout_snapshots (State.headStopped_clean clean)]
  unfold State.headStopped
  split
  · rw [State.enterSafe_snapshots (State.addStop_clean clean _), State.addStop_snapshots]
  · rfl

theorem State.afterHeadRaise_stop_mode (s : State) (k : Cause) : (s.afterHeadRaise k .stop).faults.mode = .safe :=
  State.checkLockout_safe (State.enterSafe_mode _ _)

theorem State.afterHeadRaise_quiet (no : act ≠ .stop) (below : s.lockoutCount < s.faults.lockoutLimit) :
    s.afterHeadRaise k act = s := by
  rw [State.afterHeadRaise_eq, State.headStopped_other no, State.checkLockout_below below]

theorem State.afterHeadRaise_unreached (n : (s.head h).abortable = false) : s.Spares (s.afterHeadRaise k act) h := by
  have stopped : s.Spares (s.headStopped k act) h := by
    unfold State.headStopped
    split
    · have joined := State.addStop_spares s k.cls h
      exact joined.trans (State.enterSafe_unreached _ (joined.abortable.trans n))
    · exact .refl s h
  exact stopped.trans (State.checkLockout_unreached (stopped.abortable.trans n))

/-! ### A head-scoped raise as a whole -/

theorem State.raiseHead_discarded (out : (s.head h).state = .off ∨ (s.head h).state = .lockout) :
    s.raiseHead h k = s := if_pos out

/-- The state of a head that has taken a raise with a clean context, before the part-level effects. -/
def State.headRaised (s : State) (h : HeadId) (k : Cause) : State :=
  (s.takeHeadRaise h k).headAction h k (s.record k.cls).action

theorem State.takeHeadRaise_head (s : State) (h : HeadId) (k : Cause) :
    (s.takeHeadRaise h k).head h = { s.head h with lastFault := some k } := by
  unfold State.takeHeadRaise
  rw [State.head_updHead, State.latchReport_head]

theorem State.raiseHead_clean (off : (s.head h).state ≠ .off) (lockout : (s.head h).state ≠ .lockout)
    (clean : (s.head h).clean = true) :
    s.raiseHead h k = (s.headRaised h k).afterHeadRaise k (s.record k.cls).action := by
  unfold State.raiseHead
  rw [if_neg (not_or.mpr ⟨off, lockout⟩)]
  dsimp only
  rw [if_pos (by rw [State.takeHeadRaise_head]; exact clean)]
  rfl

theorem State.takeHeadRaise_spares (s : State) (k : Cause) (ne : g ≠ h) : s.Spares (s.takeHeadRaise h k) g :=
  (s.latchReport_spares k _ _ g).trans (State.updHead_spares _ ne _)

/-- What a raise does to the head, the records, the mode and the reports before its part-level effects. -/
structure State.HeadRaised (s t : State) (h : HeadId) (k : Cause) : Prop where
  records   : ∀ c, t.record c =
    if c = k.cls then { s.record c with latched := true, lastCause := some k, lastStation := some (s.station h) }
    else s.record c
  mode      : t.faults.mode = s.faults.mode
  limit     : t.faults.lockoutLimit = s.faults.lockoutLimit
  reports   : t.reports = s.reports.create (s.faultReport k (some (s.station h)) none)
  clean     : (t.head h).clean = (s.head h).clean
  lastFault : (t.head h).lastFault = some k
  other     : ∀ g, g ≠ h → s.Spares t g

theorem State.headRaised_raised (s : State) (h : HeadId) (k : Cause) : s.HeadRaised (s.headRaised h k) h k := by
  have acted := State.headAction_acted (s.takeHeadRaise h k) h k (s.record k.cls).action
  have head := s.takeHeadRaise_head h k
  exact
    { records := fun c => (acted.records c).trans (State.latchReport_record s k (some (s.station h)) none c)
      mode := acted.mode
      limit := acted.limit
      reports := acted.reports.trans (s.latchReport_reports k (some (s.station h)) none)
      clean := acted.clean.trans (by rw [head])
      lastFault := acted.lastFault.trans (by rw [head])
      other := fun g ne => (s.takeHeadRaise_spares k ne).trans (acted.other g ne) }

theorem State.HeadRaised.allClean (r : s.HeadRaised t h k) (clean : ∀ g, (s.head g).clean = true) (g : HeadId) :
    (t.head g).clean = true := by
  by_cases e : g = h
  · subst e
    exact r.clean.trans (clean g)
  · exact (Head.field_eq_of_butScan Head.clean (fun _ => rfl) (r.other g e).head).trans (clean g)

theorem State.headRaised_state (s : State) (h : HeadId) (k : Cause) :
    ((s.headRaised h k).head h).state = (s.head h).state.afterFault k (s.record k.cls).action := by
  unfold State.headRaised
  rw [State.headAction_state, State.takeHeadRaise_head]

/-- A head that goes on to a state other than LOCKOUT leaves the lockout count as it was. -/
theorem State.HeadRaised.count (r : s.HeadRaised t h k) (from_ : (s.head h).state ≠ .lockout)
    (into : (t.head h).state ≠ .lockout) : t.lockoutCount = s.lockoutCount :=
  State.lockoutCount_eq (fun g ne => (r.other g ne).alike.state) from_ into

theorem State.HeadRaised.count_le (r : s.HeadRaised t h k) : t.lockoutCount ≤ s.lockoutCount + 1 :=
  State.lockoutCount_le_succ fun g ne => (r.other g ne).alike.state

/-- A head that a fault moves down is not reached by the part-level effects. -/
theorem HeadState.afterFault_moved {st : HeadState} (moves : escalates st k act = true) :
    st.afterFault k act ≠ .running ∧ st.afterFault k act ≠ .seating := by
  unfold HeadState.afterFault
  rw [if_pos moves]
  cases st with
  | _ => exact ⟨by decide, by decide⟩

theorem HeadState.afterFault_still {st : HeadState} (still : escalates st k act = false) : st.afterFault k act = st := by
  unfold HeadState.afterFault
  rw [still]
  rfl

theorem HeadState.afterFault_lockout {st : HeadState} (ne : st ≠ .lockout) (from_ : st ≠ .forced) :
    st.afterFault k act ≠ .lockout := by
  unfold HeadState.afterFault
  split
  · cases st with
    | lockout => exact absurd rfl ne
    | forced => exact absurd rfl from_
    | _ => decide
  · exact ne

theorem escalates_stop (st : HeadState) (k : Cause) : escalates st k .stop = true := rfl
theorem escalates_halt (st : HeadState) (k : Cause) : escalates st k .halt = true := rfl

/-- A raise finds the context as it stands, but for its last fault. -/
theorem State.takeHeadRaise_state (s : State) (h : HeadId) (k : Cause) :
    ((s.takeHeadRaise h k).head h).state = (s.head h).state := by rw [State.takeHeadRaise_head]

theorem State.headRaised_snapshots (moves : escalates (s.head h).state k (s.record k.cls).action = true)
    (from_ : (s.head h).state = .running ∨ (s.head h).state = .seating ∨ (s.head h).state = .aborting ∨
      (s.head h).state = .forced) (room : s.faults.snapshots.length < 16) :
    (s.headRaised h k).faults.snapshots = (s.head h).snapshot (s.station h) k :: s.faults.snapshots := by
  have pushed := State.headAction_snapshots (s := s.takeHeadRaise h k) (h := h) (k := k)
    (act := (s.record k.cls).action) (by rwa [s.takeHeadRaise_state]) (by rwa [s.takeHeadRaise_state]) room
  rw [State.takeHeadRaise_head] at pushed
  exact pushed

theorem State.headRaised_quiet_snapshots (quiet : escalates (s.head h).state k (s.record k.cls).action = false) :
    (s.headRaised h k).faults.snapshots = s.faults.snapshots :=
  State.headAction_quiet_snapshots (s := s.takeHeadRaise h k) (by rwa [s.takeHeadRaise_state])

theorem State.headRaised_pin (moves : escalates (s.head h).state k (s.record k.cls).action = true)
    (from_ : (s.head h).state = .running ∨ (s.head h).state = .seating) : ((s.headRaised h k).head h).pin = none :=
  State.headAction_pin (s := s.takeHeadRaise h k) (by rwa [s.takeHeadRaise_state]) (by rwa [s.takeHeadRaise_state])

theorem State.headRaised_unsent (moves : escalates (s.head h).state k (s.record k.cls).action = true)
    (from_ : (s.head h).state = .aborting) (busy : s.scanner.inFlight ≠ none) :
    (s.headRaised h k).scanner.inFlight ≠ none ∧ ((s.headRaised h k).head h).scan.forcedUnsent = true :=
  State.headAction_unsent (s := s.takeHeadRaise h k) (by rwa [s.takeHeadRaise_state]) (by rwa [s.takeHeadRaise_state])
    busy

theorem State.headRaised_waits (moves : escalates (s.head h).state k (s.record k.cls).action = true)
    (from_ : (s.head h).state = .idle ∨ (s.head h).state = .done ∨ (s.head h).state = .emptyPass) :
    ((s.headRaised h k).head h).hold = true :=
  State.headAction_waits (s := s.takeHeadRaise h k) (by rwa [s.takeHeadRaise_state]) (by rwa [s.takeHeadRaise_state])

theorem State.headRaised_hold (other : escalates (s.head h).state k (s.record k.cls).action = true →
      (s.head h).state ≠ .idle ∧ (s.head h).state ≠ .done ∧ (s.head h).state ≠ .emptyPass) :
    ((s.headRaised h k).head h).hold = ((s.head h).hold || (s.record k.cls).action == .hold) := by
  have hold := State.headAction_hold (s := s.takeHeadRaise h k) (h := h) (k := k) (act := (s.record k.cls).action)
    (by rwa [s.takeHeadRaise_state])
  rw [State.takeHeadRaise_head] at hold
  exact hold

/-- Under NOTE and HOLD a fault moves its head only where R68 lets it slide. -/
theorem escalates_mild {st : HeadState} (mild : act = .note ∨ act = .hold) :
    escalates st k act = true ↔
      ((k.cls = .valve ∨ k.cls = .comm) ∧ (st = .aborting ∨ st = .forced)) ∨ (k = .profileLost ∧ st = .running) := by
  unfold escalates
  rcases mild with rfl | rfl <;> simp

/-- The part-level effects of a raise that its head has taken do not reach that head. -/
theorem State.headRaised_spared (lockout : (s.head h).state ≠ .lockout)
    (below : s.lockoutCount < s.faults.lockoutLimit) :
    (s.headRaised h k).Spares ((s.headRaised h k).afterHeadRaise k (s.record k.cls).action) h := by
  have raised := s.headRaised_raised h k
  have state := s.headRaised_state h k
  cases moves : escalates (s.head h).state k (s.record k.cls).action with
  | true =>
    obtain ⟨running, seating⟩ := HeadState.afterFault_moved moves
    rw [← state] at running seating
    exact State.afterHeadRaise_unreached (by simp [Head.abortable, running, seating])
  | false =>
    have act : (s.record k.cls).action ≠ .stop := fun e => by rw [e] at moves; cases moves
    rw [HeadState.afterFault_still moves] at state
    rw [State.afterHeadRaise_quiet act (by rw [raised.count lockout (by rwa [state]), raised.limit]; exact below)]
    exact .refl _ h

end

/-- Settles O44, by whether the action moves the head. -/
theorem headRaiseEscalates : Obligations.HeadRaiseEscalates := by
  intro s h k c act t
  refine ⟨fun out => State.raiseHead_discarded out, fun off lockout clean notLockout below => ?_⟩
  let u : State := s.headRaised h k
  have raised : s.HeadRaised u h k := s.headRaised_raised h k
  have heads := raised.allClean clean
  have run : t = u.afterHeadRaise k act := State.raiseHead_clean off lockout (clean h)
  have spared : u.Spares t h := by rw [run]; exact State.headRaised_spared lockout below
  have state : (t.head h).state = c.state.afterFault k act := spared.alike.state.trans (s.headRaised_state h k)
  have field : ∀ {α : Type} (f : Head → α), (∀ d : Head, f d.butScan = f d) → f (t.head h) = f (u.head h) :=
    fun f hf => Head.field_eq_of_butScan f hf spared.head
  have record : ∀ {α : Type} (f : ClassRecord → α), (∀ r : ClassRecord, f { r with inStop := true } = f r) →
      (∀ r : ClassRecord, f { r with condition := false } = f r) → f (t.record k.cls) = f (u.record k.cls) :=
    fun f stops marks => by rw [run]; exact State.afterHeadRaise_field f stops marks heads notLockout
  have latch := (raised.records k.cls).trans (if_pos rfl)
  have quiet : act ≠ .stop → u.lockoutCount < u.faults.lockoutLimit → t = u := fun no few => by
    rw [run, State.afterHeadRaise_quiet no few]
  have snapshots : t.faults.snapshots = u.faults.snapshots := by rw [run, State.afterHeadRaise_snapshots heads]
  have pin : escalates c.state k act = true → c.state = .running ∨ c.state = .seating → (t.head h).pin = none :=
    fun moves from_ => (field Head.pin fun _ => rfl).trans (State.headRaised_pin moves from_)
  have unsent : escalates c.state k act = true → c.state = .aborting → s.scanner.inFlight ≠ none →
      (t.head h).scan.forcedUnsent = true := fun moves from_ busy => by
    obtain ⟨still, waits⟩ := State.headRaised_unsent moves from_ busy
    rw [(spared.busy still).2]
    exact waits
  have hold := field Head.hold fun _ => rfl
  have fell : escalates c.state k act = true → (t.head h).state = c.state.afterFault k .halt := fun moves => by
    rw [state]
    unfold HeadState.afterFault
    rw [if_pos moves, if_pos (escalates_halt c.state k)]
  refine ⟨?_, ?_, ?_, (field Head.lastFault fun _ => rfl).trans raised.lastFault, ?_⟩
  · rw [record ClassRecord.latched (fun _ => rfl) (fun _ => rfl), latch]
  · rw [record ClassRecord.lastCause (fun _ => rfl) (fun _ => rfl), latch]
  · rw [record ClassRecord.lastStation (fun _ => rfl) (fun _ => rfl), latch]
    rfl
  intro slides image
  have pushed : escalates c.state k act = true →
      c.state = .running ∨ c.state = .seating ∨ c.state = .aborting ∨ c.state = .forced →
      s.faults.snapshots.length < 16 → t.faults.snapshots = image := fun moves from_ room =>
    snapshots.trans (State.headRaised_snapshots moves from_ room)
  have few : s.lockoutCount + 1 < s.faults.lockoutLimit → u.lockoutCount < u.faults.lockoutLimit := fun room => by
    have := raised.count_le
    rw [raised.limit]
    omega
  refine ⟨fun room no => ?_, fun mild => ?_, fun strong => ?_, fun stop => ?_⟩
  · rw [quiet no (few room), raised.reports]
    rfl
  · have no : act ≠ .stop := by rcases mild with e | e <;> rw [e] <;> decide
    have slides_iff : escalates c.state k act = true ↔ slides := escalates_mild mild
    have bottled : slides → c.state ≠ .idle ∧ c.state ≠ .done ∧ c.state ≠ .emptyPass := by
      rintro (⟨-, e | e⟩ | ⟨-, e⟩)
      · rw [e]; decide
      · rw [e]; decide
      · rw [e]; decide
    have held := hold.trans (State.headRaised_hold fun moves => bottled (slides_iff.mp moves))
    refine ⟨fun note => ?_, fun hold' => ?_, fun still => ?_, fun moves => ?_⟩
    · rw [held, show (s.record k.cls).action = .note from note]
      simp [c]
    · rw [held, show (s.record k.cls).action = .hold from hold']
      simp
    · have quiet' : escalates c.state k act = false := by
        rw [Bool.eq_false_iff]
        exact mt slides_iff.mp still
      have kept : (t.head h).state = c.state := state.trans (HeadState.afterFault_still quiet')
      have count : u.lockoutCount = s.lockoutCount :=
        raised.count lockout (by rw [← spared.alike.state, kept]; exact lockout)
      refine ⟨kept, ?_, snapshots.trans (State.headRaised_quiet_snapshots quiet')⟩
      rw [quiet no (by rw [count, raised.limit]; exact below), raised.mode]
    · have moves' := slides_iff.mpr moves
      have fell := fell moves'
      refine ⟨fun running => ⟨by rw [fell, running]; rfl, pin moves' (Or.inl running)⟩,
        fun aborting => ⟨by rw [fell, aborting]; rfl, unsent moves' aborting⟩, fun forced => by rw [fell, forced]; rfl,
        pushed moves' ?_, fun room => ?_⟩
      · rcases moves with ⟨-, e | e⟩ | ⟨-, e⟩
        · exact Or.inr (Or.inr (Or.inl e))
        · exact Or.inr (Or.inr (Or.inr e))
        · exact Or.inl e
      · rw [quiet no (few room), raised.mode]
  · have moves : escalates c.state k act = true := by rcases strong with e | e <;> rw [e] <;> rfl
    have fell := fell moves
    refine ⟨fun running => ⟨by rw [fell, running]; rfl, pin moves (Or.inl running)⟩,
      fun seating => ⟨by rw [fell, seating]; rfl, pin moves (Or.inr seating)⟩,
      fun aborting => ⟨by rw [fell, aborting]; rfl, unsent moves aborting⟩, fun forced => by rw [fell, forced]; rfl,
      fun waiting => ⟨?_, hold.trans (State.headRaised_waits moves waiting)⟩, pushed moves⟩
    rw [fell]
    rcases waiting with e | e | e
    · rw [e]; rfl
    · rw [e]; rfl
    · rw [e]; rfl
  · rw [run, stop]
    exact ⟨State.afterHeadRaise_stop_mode u k, State.afterHeadRaise_inStop heads notLockout⟩

end Sys2Proof.Machine

/-! PROOFS. The timers (R9, R11, R63, R123, R147). -/

namespace Sys2Proof.Machine

section
set_option Elab.async false
variable {s t : State} {k : Cause} {h : HeadId}

/-! ### Events of a part that listens (R178) -/

theorem State.takeEvent_live (live : s.held = false) (f : State → State) : s.takeEvent f = f s :=
  if_neg (by simp [live])

theorem State.takeEvent_held (held : s.held = true) (f : State → State) : s.takeEvent f = s := if_pos held

/-! ### The timebase timers (R9, R11) -/

theorem State.gapExpired_locked (runs : s.tracker.gapTimer ≠ none) (locked : s.tracker.state = .locked) :
    s.gapExpired = s.setTracker { s.tracker with
      state := .holdover, gapTimer := none, holdoverTimer := some s.tracker.holdoverLimit, jumpPending := false } := by
  unfold State.gapExpired
  dsimp only
  rw [if_pos (Option.isSome_iff_ne_none.mpr runs), locked]

theorem State.gapExpired_acquiring (runs : s.tracker.gapTimer ≠ none) (acquiring : s.tracker.state = .acquiring) :
    s.gapExpired = s.setTracker s.tracker.noBase := by
  unfold State.gapExpired
  dsimp only
  rw [if_pos (Option.isSome_iff_ne_none.mpr runs), acquiring]

theorem State.gapExpired_stopped (stopped : s.tracker.gapTimer = none) : s.gapExpired = s := by
  unfold State.gapExpired
  dsimp only
  rw [stopped]
  rfl

theorem State.holdoverExpired_stopped (stopped : s.tracker.holdoverTimer = none) : s.holdoverExpired = s := by
  unfold State.holdoverExpired
  rw [stopped]
  rfl

/-- The state on which TIMEBASE LOST is raised: LOST, with the condition marked (R134). -/
def State.timebaseLost (s : State) : State :=
  (s.setTracker { s.tracker with state := .lost, holdoverTimer := none }).setCondition .timebase true

theorem State.holdoverExpired_lost (runs : s.tracker.holdoverTimer ≠ none) :
    s.holdoverExpired = (s.timebaseLost.raisePart .timebaseLost none none).reportTrack .loss :=
  if_pos (Option.isSome_iff_ne_none.mpr runs)

theorem State.reportTrack_told {c : TrackChange}
    (wanted : s.tracker.edge = .both ∨ (s.tracker.edge = .gain ∧ c = .gain) ∨ (s.tracker.edge = .loss ∧ c = .loss)) :
    s.reportTrack c = s.report (.track c s.tracker.state s.tracker.pos) := by
  unfold State.reportTrack
  rcases wanted with e | ⟨e, rfl⟩ | ⟨e, rfl⟩
  · rw [e]; cases c <;> rfl
  · rw [e]; rfl
  · rw [e]; rfl

theorem State.reportTrack_untold {c : TrackChange}
    (unwanted : s.tracker.edge = .none ∨ (s.tracker.edge = .gain ∧ c = .loss) ∨ (s.tracker.edge = .loss ∧ c = .gain)) :
    s.reportTrack c = s := by
  unfold State.reportTrack
  rcases unwanted with e | ⟨e, rfl⟩ | ⟨e, rfl⟩
  · rw [e]; cases c <;> rfl
  · rw [e]; rfl
  · rw [e]; rfl

/-- A TRACK report changes the Report Queue at most. -/
theorem State.reportTrack_eq (s : State) (c : TrackChange) : ∃ q, s.reportTrack c = { s with reports := q } := by
  have either : ∀ b : Bool, ∃ q, (if b then s.report (.track c s.tracker.state s.tracker.pos) else s) =
      { s with reports := q } := fun b => by
    cases b
    · exact ⟨s.reports, rfl⟩
    · exact ⟨_, rfl⟩
  exact either _

theorem State.raisePart_tracker (s : State) (k : Cause) (a b : Option Nat) : (s.raisePart k a b).tracker = s.tracker :=
  (Keeps.raisePart (.refl s) k a b).tracker

theorem FaultClass.timebase_untouched : ¬FaultClass.timebase.parityTouched := by simp [FaultClass.parityTouched]
theorem FaultClass.valve_untouched : ¬FaultClass.valve.parityTouched := by simp [FaultClass.parityTouched]

theorem State.raisePart_stop_mode (act : (s.record k.cls).action = .stop) (a b : Option Nat) :
    (s.raisePart k a b).faults.mode = .safe := by
  rw [State.raisePart_stopRaised act, State.enterSafe_mode]

/-! ### The vent timer (R63) -/

theorem State.ventExpired_stopped (stopped : (s.head h).ventTimer = none) : s.ventExpired h = s := by
  unfold State.ventExpired
  rw [stopped]
  rfl

theorem State.ventExpired_aborting (runs : (s.head h).ventTimer ≠ none) (aborting : (s.head h).state = .aborting)
    (clean : (s.head h).clean = true) : s.ventExpired h = s.raiseHead h .ventTimeout := by
  unfold State.ventExpired
  rw [if_pos (Option.isSome_iff_ne_none.mpr runs), State.headEvent_clean (by rw [aborting]; decide) clean, if_pos aborting]

theorem State.afterHeadRaise_record {c : FaultClass} (untouched : ¬c.parityTouched) {act : Action} {α : Type}
    (f : ClassRecord → α) (stops : ∀ r : ClassRecord, f { r with inStop := true } = f r)
    (marks : ∀ r : ClassRecord, f { r with condition := false } = f r) :
    f ((s.afterHeadRaise k act).record c) = f (s.record c) := by
  rw [State.afterHeadRaise_eq, State.checkLockout_record untouched]
  unfold State.headStopped
  split
  · rw [State.enterSafe_record untouched, State.addStop_field f stops marks]
  · rfl

/-- The context of a head that a raise has taken from ABORTING to FORCED, but for the Scanner's fields. -/
theorem State.headRaised_forced (aborting : (s.head h).state = .aborting)
    (moves : escalates .aborting k (s.record k.cls).action = true) :
    ((s.headRaised h k).head h).butScan =
      ({ s.head h with
        lastFault := some k, hold := (s.head h).hold || (s.record k.cls).action == .hold } : Head).forcedClosed.butScan := by
  have state := s.takeHeadRaise_state h k
  rw [aborting] at state
  unfold State.headRaised
  rw [State.headAction_eq, state, if_pos moves,
    (State.headAction_halt _ h k).2.2.1 (by rw [State.holding_state, state]), State.enterForced_self,
    State.pushSnapshot_head, State.holding_head, State.takeHeadRaise_head]

end

/-- Settles O38, timer by timer. -/
theorem timebaseTimers : Obligations.TimebaseTimers := by
  intro s
  refine ⟨fun live runs locked => ?_, fun live runs acquiring => ?_, fun idle => ?_, fun live runs => ?_, fun idle => ?_⟩
  · exact congrArg Host.Outcome.next ((State.takeEvent_live live _).trans (State.gapExpired_locked runs locked))
  · refine congrArg Host.Outcome.next ((State.takeEvent_live live _).trans
      ((State.gapExpired_acquiring runs acquiring).trans ?_))
    unfold Tracker.noBase
    rw [← acquiring]
    rfl
  · refine congrArg Host.Outcome.next ?_
    rcases idle with held | stopped
    · exact State.takeEvent_held held _
    · unfold State.takeEvent
      rw [State.gapExpired_stopped stopped, ite_self]
  · let lost : State := s.timebaseLost
    let raised : State := lost.raisePart .timebaseLost none none
    have run : exec .holdoverTimerExpiry s = .next (raised.reportTrack .loss) :=
      congrArg Host.Outcome.next ((State.takeEvent_live live _).trans (State.holdoverExpired_lost runs))
    have tracker : raised.tracker = lost.tracker := lost.raisePart_tracker _ _ _
    obtain ⟨q, track⟩ := raised.reportTrack_eq .loss
    have record : raised.record .timebase = (lost.record .timebase).raised .timebaseLost none :=
      (State.raisePart_record FaultClass.timebase_untouched _ _ _).trans (if_pos rfl)
    have marked : lost.record .timebase = { s.record .timebase with condition := true } :=
      State.record_setCondition _ _ _
    rw [marked] at record
    refine ⟨raised.reportTrack .loss, run, ?_, ?_, ?_, ?_, fun act => ⟨?_, ?_⟩, fun clean => ?_⟩
    · rw [track]; exact tracker
    · rw [track]; exact congrArg ClassRecord.condition record
    · rw [track]; exact congrArg ClassRecord.latched record
    · rw [track]; exact congrArg ClassRecord.lastCause record
    · rw [track]
      exact State.raisePart_stop_mode (by rw [show (Cause.timebaseLost.cls) = .timebase from rfl, marked]; exact act) _ _
    · rw [track]
      refine (congrArg ClassRecord.inStop record).trans ?_
      simp [ClassRecord.raised, act]
    · intro act told moded
      have reports : raised.reports = moded := by
        refine (State.raisePart_reports (s := lost) clean _ _ _).trans ?_
        unfold State.faultReport
        rw [show (Cause.timebaseLost.cls) = .timebase from rfl, marked]
        rfl
      have edge : raised.tracker.edge = s.tracker.edge := by rw [tracker]; rfl
      refine ⟨fun wanted => ?_, fun unwanted => ?_⟩
      · rw [State.reportTrack_told (by rw [edge]; exact wanted.symm.imp_right fun e => Or.inr ⟨e, rfl⟩)]
        show raised.reports.create (.track .loss raised.tracker.state raised.tracker.pos) = _
        rw [reports, tracker]
        rfl
      · rw [State.reportTrack_untold (by rw [edge]; exact unwanted.imp_right fun e => Or.inl ⟨e, rfl⟩), reports]
  · refine congrArg Host.Outcome.next ?_
    rcases idle with held | stopped
    · exact State.takeEvent_held held _
    · unfold State.takeEvent
      rw [State.holdoverExpired_stopped stopped, ite_self]

/-- Settles O39, timer by timer. -/
theorem ventPulseHeartbeatTimers : Obligations.VentPulseHeartbeatTimers := by
  intro s live
  refine ⟨fun h runs aborting clean => ?_, fun h stopped => ?_, ?_, fun runs watching => ?_, fun stopped => ?_⟩
  · let act := (s.record .valve).action
    let u : State := s.headRaised h .ventTimeout
    have moves : escalates .aborting .ventTimeout act = true := by unfold escalates; simp [Cause.cls]
    have run : exec (.ventTimerExpiry h) s = .next (u.afterHeadRaise .ventTimeout act) := by
      refine congrArg Host.Outcome.next ((State.takeEvent_live live _).trans
        ((State.ventExpired_aborting runs aborting clean).trans ?_))
      exact State.raiseHead_clean (by rw [aborting]; decide) (by rw [aborting]; decide) clean
    have forced : (u.head h).butScan = _ := State.headRaised_forced aborting moves
    have spared : u.Spares (u.afterHeadRaise .ventTimeout act) h := by
      refine State.afterHeadRaise_unreached ?_
      have state := (Head.fields_of_butScan forced).1
      simp [Head.abortable, state, Head.forcedClosed]
    obtain ⟨scan, head⟩ := Head.exists_scan (spared.head.trans forced)
    have record := ((s.headRaised_raised h .ventTimeout).records .valve).trans
      (if_pos (show FaultClass.valve = Cause.ventTimeout.cls from rfl))
    refine ⟨u.afterHeadRaise .ventTimeout act, run, ?_, ?_, ?_, ?_, ?_, ?_, ?_, fun busy => ?_, ?_, ?_⟩
    · rw [head]; rfl
    · rw [head]; rfl
    · rw [head]; rfl
    · rw [head]; rfl
    · rw [head]; rfl
    · rw [head]; rfl
    · rw [State.afterHeadRaise_record FaultClass.valve_untouched ClassRecord.latched (fun _ => rfl) (fun _ => rfl), record]
    · obtain ⟨still, unsent⟩ := State.headRaised_unsent (by rw [aborting]; exact moves) aborting busy
      rw [(spared.busy still).2]
      exact unsent
    · rw [State.afterHeadRaise_record FaultClass.valve_untouched ClassRecord.lastCause (fun _ => rfl) (fun _ => rfl), record]
    · rw [State.afterHeadRaise_record FaultClass.valve_untouched ClassRecord.lastStation (fun _ => rfl) (fun _ => rfl),
        record]
      rfl
  · exact congrArg Host.Outcome.next ((State.takeEvent_live live _).trans (State.ventExpired_stopped stopped))
  · exact congrArg Host.Outcome.next (State.takeEvent_live live _)
  · refine congrArg Host.Outcome.next ((State.takeEvent_live live _).trans ?_)
    unfold State.heartbeatExpired
    dsimp only
    rw [if_pos ⟨Option.isSome_iff_ne_none.mpr runs, watching⟩]
    rfl
  · refine congrArg Host.Outcome.next ((State.takeEvent_live live _).trans ?_)
    unfold State.heartbeatExpired
    dsimp only
    rw [if_neg]
    simp [stopped]

end Sys2Proof.Machine

/-! PROOFS. Context and profile parity errors (R38, R40, R45, R70). -/

namespace Sys2Proof.Machine

section
set_option Elab.async false
variable {s t u : State} {h g : HeadId} {k : Cause}

/-! ### What keeps an urgent exchange posted (R97, R98) -/

theorem State.Posted.congr (p : s.Posted g) (e : t.scanner = s.scanner) : t.Posted g := by
  unfold State.Posted
  rw [e]
  exact p

theorem State.Posted.changeState (p : s.Posted g) (h : HeadId) (st : HeadState) : (s.changeState h st).Posted g := by
  have marked : ∀ u : State, u.Posted g → (u.markInFlight h fun x => { x with predates := true }).Posted g := by
    intro u q
    rcases q with waits | ⟨x, flight, head, urgent⟩
    · exact Or.inl waits
    · refine Or.inr ⟨if x.head = h then { x with predates := true } else x, ?_, ?_, ?_⟩
      · show u.scanner.inFlight.map _ = _
        rw [flight]
        rfl
      · split <;> exact head
      · split <;> exact urgent
  unfold State.changeState
  dsimp only
  split
  · exact marked _ (p.congr rfl)
  · exact p.congr rfl

/-- The choice of the next exchange, made with none in flight, sends the head that waits first. -/
theorem State.Posted.chooseNext (p : s.Posted g) (idle : s.scanner.inFlight = none) : s.chooseNext.Posted g := by
  rcases p with waits | ⟨x, flight, -, -⟩
  · unfold State.chooseNext
    cases queue : s.scanner.urgent with
    | nil => rw [queue] at waits; cases waits
    | cons f rest =>
      rw [queue] at waits
      rcases List.mem_cons.mp waits with first | later
      · subst first
        exact Or.inr (State.sendCommand_records _ _ true)
      · exact Or.inl later
  · rw [flight] at idle
    cases idle

theorem State.Posted.post (p : s.Posted g) (h : HeadId) : (s.post h).Posted g := by
  unfold State.post
  split
  · have queued : State.Posted { s with scanner := { s.scanner with urgent := s.scanner.urgent ++ [h] } } g :=
      p.imp_left fun waits => List.mem_append_left _ waits
    dsimp only
    split
    · next idle => exact queued.chooseNext (Option.isNone_iff_eq_none.mp idle)
    · exact queued
  · exact p

theorem State.Posted.updHead (p : s.Posted g) (h : HeadId) (f : Head → Head) : (s.updHead h f).Posted g := p.congr rfl

theorem State.Posted.releasePin (p : s.Posted g) (h : HeadId) : (s.releasePin h).Posted g := p.congr (by simp)

theorem State.Posted.enterForced (p : s.Posted g) (h : HeadId) : (s.enterForced h).Posted g :=
  State.Posted.post (State.Posted.updHead (p.changeState h _) h _) h

theorem State.Posted.enterLockout (p : s.Posted g) (h : HeadId) : (s.enterLockout h).Posted g :=
  State.Posted.post (State.Posted.updHead (p.changeState h _) h _) h

theorem State.Posted.enterAborting (p : s.Posted g) (h : HeadId) : (s.enterAborting h).Posted g :=
  State.Posted.post (State.Posted.updHead (State.Posted.updHead (State.Posted.releasePin
    (State.Posted.updHead (p.changeState h _) h _) h) h _) h _) h

theorem State.Posted.giveUpSeating (p : s.Posted g) (h : HeadId) (v : Verdict) (r : Option SkipReason) :
    (s.giveUpSeating h v r).Posted g :=
  State.Posted.updHead (State.Posted.changeState (p.releasePin h) h _) h _

theorem State.Posted.abortHead (p : s.Posted g) (h : HeadId) (r : SkipReason) (c : Option Cause) :
    (s.abortHead h r c).Posted g := by
  unfold State.abortHead
  split
  · exact (p.updHead h _).enterAborting h
  · exact (p.updHead h _).giveUpSeating h _ _
  · exact p

theorem State.addStop_scanner (s : State) (c : FaultClass) : (s.addStop c).scanner = s.scanner := by
  unfold State.addStop
  dsimp only
  split <;> rfl

theorem State.pushSnapshot_scanner (s : State) (h : HeadId) (c : Cause) : (s.pushSnapshot h c).scanner = s.scanner := by
  unfold State.pushSnapshot
  split <;> rfl

/-- With clean contexts the part abort takes back no exchange that waits or is in flight. -/
theorem State.Posted.safeAbort (p : s.Posted g) (clean : ∀ h, (s.head h).clean = true) (c : Option Cause) :
    (s.safeAbort c).Posted g := by
  rw [State.safeAbort_eq]
  generalize s.headOrder = heads
  induction heads generalizing s with
  | nil => exact p
  | cons h rest ih =>
    have step := State.safeAbortStep_clean c h (clean h)
    refine ih ?_ fun f => ?_
    · unfold State.safeAbortStep
      split
      · rw [if_pos (clean h)]
        exact p.abortHead h _ _
      · exact p
    · have head := step.2.2.2 f
      split at head
      · next same =>
        rw [Head.field_eq_of_butScan Head.clean (fun _ => rfl) head, Head.partAborted_clean, clean h]
      · rw [Head.field_eq_of_butScan Head.clean (fun _ => rfl) head, clean f]

theorem State.Posted.enterSafe (p : s.Posted g) (clean : ∀ h, (s.head h).clean = true) (c : Option Cause) :
    (s.enterSafe c).Posted g := by
  rw [State.enterSafe_eq]
  split
  · exact p.congr rfl
  · exact State.Posted.congr (s := s.safed.safeAbort c) (State.Posted.safeAbort (s := s.safed) (p.congr rfl) clean c) rfl

/-! ### The context as a parity error leaves it (R70) -/

/-- A context rewritten with fresh parity, under an action of TABLE. -/
def Head.parityRead (c : Head) (act : Action) : Head :=
  { c.rewritten with lastFault := some .contextParity, hold := c.hold || act == .hold }

/-- The record of a parity error, and the pin given back. -/
def Head.parityRecorded (c : Head) : Head :=
  match c.state with
  | .running => ({ c with pin := none } : Head).withRecord .aborted none c.pin
  | .seating => ({ c with pin := none } : Head).withRecord .skipped (some .headHold) c.pin
  | _ => c

/-- The context of a live head after a parity error, but for the Scanner's fields. -/
def Head.parityClosed (c : Head) (act : Action) : Head :=
  if c.state = .forced then (c.parityRead act).parityRecorded.lockedOut
  else (c.parityRead act).parityRecorded.forcedClosed

theorem Head.rewritten_volumes (c : Head) : c.rewritten.liquidVolume = 0 ∧ c.rewritten.syrupVolume = 0 := by
  have zero : ∀ k x, volumeOf k x 0 = 0 := by
    intro k x
    unfold volumeOf
    have small : k / (2 * k) = 0 := by
      rcases Nat.eq_zero_or_pos k with rfl | pos
      · rfl
      · exact Nat.div_eq_of_lt (by omega)
    rw [Nat.mul_zero, Nat.zero_mul, Nat.zero_add, small, Nat.min_zero]
  unfold Head.liquidVolume Head.syrupVolume
  rw [show c.rewritten.calib = c.calib from rfl]
  cases c.calib with
  | none => exact ⟨rfl, rfl⟩
  | some k => exact ⟨zero _ _, zero _ _⟩

theorem Head.parityRecorded_running {c : Head} (running : c.state = .running) :
    c.parityRecorded = ({ c with pin := none } : Head).withRecord .aborted none c.pin := by
  unfold Head.parityRecorded
  split
  · rfl
  · next e => rw [running] at e; cases e
  · next e _ => exact absurd running e

theorem Head.parityRecorded_seating {c : Head} (seating : c.state = .seating) :
    c.parityRecorded = ({ c with pin := none } : Head).withRecord .skipped (some .headHold) c.pin := by
  unfold Head.parityRecorded
  split
  · next e => rw [seating] at e; cases e
  · rfl
  · next _ e => exact absurd seating e

theorem Head.parityRecorded_other {c : Head} (running : c.state ≠ .running) (seating : c.state ≠ .seating) :
    c.parityRecorded = c := by
  unfold Head.parityRecorded
  split
  · next e => exact absurd e running
  · next e => exact absurd e seating
  · rfl

theorem State.parityRecord_head (s : State) (h : HeadId) :
    (s.parityRecord h).head h = (s.head h).parityRecorded := by
  unfold State.parityRecord
  dsimp only
  split
  · next running => rw [State.head_updHead, State.releasePin_head_self, Head.parityRecorded_running running]
  · next seating => rw [State.head_updHead, State.releasePin_head_self, Head.parityRecorded_seating seating]
  · next running seating => rw [Head.parityRecorded_other running seating]

theorem State.parityRead_head (s : State) (h : HeadId) :
    (s.parityRead h).head h = (s.head h).parityRead (s.record .table).action := s.parityRead_head_self h

/-- A parity error of a live head, before its part-level effects, as the parts read it. -/
structure State.ParityEntered (s t : State) (h : HeadId) : Prop where
  head    : (t.head h).butScan = ((s.head h).parityClosed (s.record .table).action).butScan
  faults  : t.faults = (s.parityLatched h).faults
  reports : t.reports = s.reports.create (s.faultReport .contextParity (some (s.station h)) none)
  other   : ∀ g, g ≠ h → s.Spares t g
  posted  : t.Posted h
  store   : t.store = ((s.parityRead h).parityRecord h).store

theorem State.parityRead_faults (s : State) (h : HeadId) : (s.parityRead h).faults = (s.parityLatched h).faults := rfl

theorem State.pushSnapshot_reports (s : State) (h : HeadId) (c : Cause) : (s.pushSnapshot h c).reports = s.reports := by
  unfold State.pushSnapshot
  split <;> rfl

theorem State.parityRead_reports (s : State) (h : HeadId) :
    (s.parityRead h).reports = s.reports.create (s.faultReport .contextParity (some (s.station h)) none) :=
  (State.pushSnapshot_reports _ h _).trans (s.latchReport_reports _ _ _)

theorem State.parityEntry_entered (s : State) (h : HeadId) : s.ParityEntered (s.parityEntry h) h := by
  let r : State := (s.parityRead h).parityRecord h
  have head : r.head h = ((s.head h).parityRead (s.record .table).action).parityRecorded := by
    rw [State.parityRecord_head, State.parityRead_head]
  have spares : ∀ g, g ≠ h → s.Spares r g := fun g ne =>
    (s.parityRead_spares ne).trans (State.parityRecord_other _ ne)
  have faults : r.faults = (s.parityLatched h).faults := by
    rw [State.parityRecord_faults, State.parityRead_faults]
  have reports : r.reports = s.reports.create (s.faultReport .contextParity (some (s.station h)) none) := by
    rw [State.parityRecord_reports, State.parityRead_reports]
  unfold State.parityEntry
  split
  · next forced =>
    refine ⟨?_, (State.enterLockout_faults _ h).trans faults, (State.enterLockout_reports _ h).trans reports,
      fun g ne => (spares g ne).trans (State.enterLockout_other _ ne), ?_, State.enterLockout_store _ h⟩
    · rw [State.enterLockout_self, Head.parityClosed, if_pos forced, ← head]
    · exact State.post_posted (s := r.locking h) (by rw [State.locking_head_self]; rfl)
  · next other =>
    refine ⟨?_, (State.enterForced_faults _ h).trans faults, (State.enterForced_reports _ h).trans reports,
      fun g ne => (spares g ne).trans (State.enterForced_other _ ne), ?_, State.enterForced_store _ h⟩
    · rw [State.enterForced_self, Head.parityClosed, if_neg other, ← head]
    · exact State.post_posted (s := r.forcing h) (by rw [State.forcing_head_self]; rfl)

theorem Head.parityClosed_state (c : Head) (act : Action) :
    (c.parityClosed act).state = if c.state = .forced then .lockout else .forced := by
  unfold Head.parityClosed
  split <;> rfl

theorem Head.parityRecorded_clean (c : Head) : c.parityRecorded.clean = c.clean := by
  unfold Head.parityRecorded
  split
  · rw [Head.withRecord_clean]
  · rw [Head.withRecord_clean]
  · rfl

theorem Head.parityClosed_clean (c : Head) (act : Action) : (c.parityClosed act).clean = true := by
  unfold Head.parityClosed
  split
  · exact Head.parityRecorded_clean _
  · exact Head.parityRecorded_clean _

theorem State.ParityEntered.state (e : s.ParityEntered t h) :
    (t.head h).state = if (s.head h).state = .forced then .lockout else .forced :=
  (Head.fields_of_butScan e.head).1.trans (Head.parityClosed_state _ _)

theorem State.ParityEntered.abortable (e : s.ParityEntered t h) : (t.head h).abortable = false := by
  unfold Head.abortable
  rw [e.state]
  split <;> rfl

theorem State.ParityEntered.clean (e : s.ParityEntered t h) (clean : ∀ g, g ≠ h → (s.head g).clean = true) (g : HeadId) :
    (t.head g).clean = true := by
  by_cases same : g = h
  · subst same
    exact (Head.field_eq_of_butScan Head.clean (fun _ => rfl) e.head).trans (Head.parityClosed_clean _ _)
  · exact (Head.field_eq_of_butScan Head.clean (fun _ => rfl) (e.other g same).head).trans (clean g same)

/-- An entry to FORCED by a parity error waits to be sent while an exchange is in flight (R107). -/
theorem State.parityEntry_unsent (other : (s.head h).state ≠ .forced) (busy : s.scanner.inFlight ≠ none) :
    (s.parityEntry h).scanner.inFlight ≠ none ∧ ((s.parityEntry h).head h).scan.forcedUnsent = true := by
  unfold State.parityEntry
  rw [if_neg other]
  refine State.enterForced_unsent ?_ h
  have same : ((s.parityRead h).parityRecord h).scanner = s.scanner := by
    have read : (s.parityRead h).scanner = s.scanner := State.pushSnapshot_scanner _ h _
    unfold State.parityRecord
    dsimp only
    split
    · exact (State.releasePin_scanner _ h).trans read
    · exact (State.releasePin_scanner _ h).trans read
    · exact read
  rwa [same]

/-! ### The part-level effects of a parity error -/

/-- The state on which the lockout count is looked at after a parity error. -/
def State.parityStopped (s : State) (h : HeadId) : State :=
  if (s.record .table).action = .stop then ((s.parityEntry h).addStop .table).enterSafe (some .contextParity)
  else s.parityEntry h

theorem State.contextParity_eq (off : (s.head h).state ≠ .off) (lockout : (s.head h).state ≠ .lockout) :
    s.contextParity h = (s.parityStopped h).checkLockout := State.contextParity_live off lockout

theorem State.parityStopped_spared (s : State) (h : HeadId) : (s.parityEntry h).Spares (s.parityStopped h) h := by
  have entered := s.parityEntry_entered h
  unfold State.parityStopped
  split
  · have joined := (s.parityEntry h).addStop_spares .table h
    exact joined.trans (State.enterSafe_unreached _ (joined.abortable.trans entered.abortable))
  · exact .refl _ h

/-- A parity error takes a live head to FORCED, or from FORCED to LOCKOUT, whatever else it brings about. -/
theorem State.contextParity_state (off : (s.head h).state ≠ .off) (lockout : (s.head h).state ≠ .lockout) :
    ((s.contextParity h).head h).state = if (s.head h).state = .forced then .lockout else .forced := by
  have entered := s.parityEntry_entered h
  have stopped := s.parityStopped_spared h
  rw [State.contextParity_eq off lockout,
    (State.checkLockout_unreached (stopped.abortable.trans entered.abortable)).alike.state, stopped.alike.state,
    entered.state]

/-- A raise of PROFILE_LOST takes a RUNNING head out of RUNNING, its context clean or not (R68, R70). -/
theorem State.raiseHead_profileLost (running : (s.head h).state = .running) :
    ((s.raiseHead h .profileLost).head h).abortable = false := by
  let act := (s.record Cause.profileLost.cls).action
  let taken : State := s.takeHeadRaise h .profileLost
  have after : ∀ u : State, (u.head h).abortable = false → ((u.afterHeadRaise .profileLost act).head h).abortable = false :=
    fun u n => (State.afterHeadRaise_unreached n).abortable.trans n
  have state : (taken.head h).state = .running := by rw [s.takeHeadRaise_state, running]
  unfold State.raiseHead
  rw [if_neg (by rw [running]; decide)]
  dsimp only
  refine after _ ?_
  unfold Head.abortable
  split
  · have moves : escalates .running .profileLost act = true := by unfold escalates; simp
    rw [State.headAction_state, state, HeadState.afterFault, if_pos moves]
    rfl
  · rw [State.contextParity_state (by rw [state]; decide) (by rw [state]; decide), if_neg (by rw [state]; decide)]
    rfl

theorem State.profileParity_left (running : (s.head h).state = .running) (j : SlotId) :
    ((s.profileParity h j).head h).abortable = false := by
  unfold State.profileParity
  have lost := State.raiseHead_profileLost (s := s.setSlot j { s.slot j with state := .corrupt }) (h := h) running
  exact (State.raisePart_unreached _ _ _ lost).abortable.trans lost

theorem Head.inPhase_of_left {c : Head} (left : c.abortable = false) (p : Phase) : c.inPhase p = false := by
  unfold Head.abortable at left
  unfold Head.inPhase
  rw [(Bool.or_eq_false_iff.mp left).1, Bool.false_and]

theorem Head.not_running_of_left {c : Head} (left : c.abortable = false) : c.state ≠ .running := by
  unfold Head.abortable at left
  exact beq_eq_false_iff_ne.mp (Bool.or_eq_false_iff.mp left).1

/-! ### The start test on a slot that is lost (R38, R40) -/

theorem State.startTest_corrupt {q : Pin} (pin : (s.head h).pin = some q) (corrupt : (s.slot q.slot).state = .corrupt)
    (θ : Option Nat) : s.startTest h θ = s.raiseHead h .profileLost := by
  unfold State.startTest
  dsimp only
  rw [pin]
  dsimp only
  rw [if_pos corrupt]

theorem State.startTest_misread {q : Pin} {i : Fin 12} (pin : (s.head h).pin = some q)
    (at_ : (s.head h).segIndex = i.val) (sound : (s.slot q.slot).state ≠ .corrupt)
    (bad : (s.slot q.slot).headerClean = false ∨ (s.slot q.slot).cells[i].clean = false) (θ : Option Nat) :
    s.startTest h θ = s.profileParity h q.slot := by
  unfold State.startTest
  dsimp only
  rw [pin]
  dsimp only
  rw [if_neg sound, dif_pos (by omega)]
  refine if_pos ?_
  rcases bad with header | cell
  · rw [header]; rfl
  · have same : (s.slot q.slot).cells[(s.head h).segIndex]'(by omega) = (s.slot q.slot).cells[i] := by
      simp only [at_]
      rfl
    rw [same, cell]
    simp

theorem State.pendingTest_left (running : (s.head h).state = .running) (pending : (s.head h).phase = some .pending)
    {θ : Option Nat} (left : ((s.startTest h θ).head h).abortable = false) : s.pendingTest h θ = s.startTest h θ := by
  unfold State.pendingTest
  rw [if_pos (by rw [Head.inPhase, running, pending]; rfl)]
  dsimp only
  rw [Head.inPhase_of_left left, if_neg (by decide)]

theorem State.afterEnd_left {q : Pin} {n : Nat} (running : (s.head h).state = .running) (pin : (s.head h).pin = some q)
    (count : (s.slot q.slot).segCount = some n) (more : (s.head h).segIndex < n) {θ : Nat}
    (left : ((s.startTest h (some θ)).head h).abortable = false) (header : Header) :
    s.afterEnd h header θ = s.startTest h (some θ) := by
  have goes : s.profileOver h = false := by
    unfold State.profileOver
    rw [pin]
    dsimp only
    rw [count]
    exact decide_eq_false (by simpa using more)
  unfold State.afterEnd
  rw [if_pos running, goes, if_neg (by decide)]
  dsimp only
  rw [if_neg (Head.not_running_of_left left)]

theorem Head.endSegment_ended (c : Head) (w : Work) (θ : Nat) : c.endSegment w.record.kind θ = c.ended w θ := by
  unfold Head.endSegment Head.ended SegKind.principal
  cases w.record.kind with
  | _ => rfl

theorem State.endSegment_eq (s : State) (h : HeadId) (w : Work) (θ : Nat) :
    s.endSegment h w θ = (s.setHead h ((s.head h).ended w θ)).afterEnd h w.header θ := by
  have first : (s.updHead h fun c => c.endSegment w.record.kind θ) = s.setHead h ((s.head h).ended w θ) :=
    congrArg (s.setHead h) (Head.endSegment_ended _ w θ)
  unfold State.endSegment
  rw [first]

end

end Sys2Proof.Machine

/-! PROOFS. Context and profile parity errors, settled (R38, R40, R45, R70). -/

namespace Sys2Proof.Machine

section
set_option Elab.async false
variable {s t u : State} {h g : HeadId} {k : Cause}

theorem State.headEvent_unclean (live : (s.head h).state ≠ .off) (unclean : (s.head h).clean = false) (f : State → State) :
    s.headEvent h f = s.contextParity h := by
  unfold State.headEvent
  rw [if_neg live, unclean, if_neg (by decide)]

/-! ### The lockout count through an entry to SAFE -/

theorem State.enterSafe_lockout (clean : ∀ g, (s.head g).clean = true) (c : Option Cause) (g : HeadId) :
    ((s.enterSafe c).head g).state = .lockout ↔ (s.head g).state = .lockout := by
  by_cases safe : s.faults.mode = .safe
  · rw [State.enterSafe_of_safe safe]
  rw [(Head.fields_of_butScan ((State.enterSafe_clean safe c clean).2.2 g)).1]
  cases live : (s.head g).abortable with
  | false => rw [Head.partAborted_of_not_abortable live]
  | true =>
    unfold Head.abortable at live
    rcases (Bool.or_eq_true_iff.mp live) with e | e
    · rw [Head.partAborted_running (beq_iff_eq.mp e), (Head.aborted_fields _ _).1, beq_iff_eq.mp e]
      decide
    · rw [Head.partAborted_seating (beq_iff_eq.mp e), Head.withRecord_state, beq_iff_eq.mp e]
      exact ⟨fun no => (by cases no), fun no => (by cases no)⟩

theorem State.enterSafe_lockoutCount (clean : ∀ g, (s.head g).clean = true) (c : Option Cause) :
    (s.enterSafe c).lockoutCount = s.lockoutCount :=
  State.countP_heads_congr fun g => by
    rw [Bool.eq_iff_iff, beq_iff_eq, beq_iff_eq, State.enterSafe_lockout clean]

theorem State.contextParity_stopped (off : (s.head h).state ≠ .off) (lockout : (s.head h).state ≠ .lockout)
    (below : s.lockoutCount + 1 < s.faults.lockoutLimit) (clean : ∀ g, g ≠ h → (s.head g).clean = true) :
    s.contextParity h = s.parityStopped h := by
  have entered := s.parityEntry_entered h
  rw [State.contextParity_eq off lockout]
  refine State.checkLockout_below ?_
  have limit : (s.parityStopped h).faults.lockoutLimit = s.faults.lockoutLimit := by
    have core := Keeps.parityCore (.refl s) h
    rw [State.parityCore_live off lockout] at core
    unfold State.parityStopped
    split at core
    · next stop => rw [if_pos stop]; exact (Keeps.enterSafe core _).lockoutLimit
    · next go => rw [if_neg go]; exact core.lockoutLimit
  have count : (s.parityStopped h).lockoutCount = (s.parityEntry h).lockoutCount := by
    unfold State.parityStopped
    split
    · rw [State.enterSafe_lockoutCount (State.addStop_clean (entered.clean clean) _)]
      exact State.lockoutCount_congr fun g => by rw [State.head_congr (State.addStop_heads _ _)]
    · rfl
  have few := State.lockoutCount_le_succ (s := s) (t := s.parityEntry h) (h := h) fun g ne =>
    (entered.other g ne).alike.state
  rw [limit, count]
  omega

/-! ### The records, the reports and the snapshots -/

theorem State.parityLatched_record (s : State) (h : HeadId) (c : FaultClass) :
    (s.parityLatched h).record c =
      if c = .table then
        { s.record c with latched := true, lastCause := some .contextParity, lastStation := some (s.station h) }
      else s.record c :=
  (State.pushSnapshot_record h .contextParity c).trans (s.latchReport_record .contextParity _ _ c)

theorem State.ParityEntered.record (e : s.ParityEntered t h) :
    t.record .table =
      { s.record .table with latched := true, lastCause := some .contextParity, lastStation := some (s.station h) } := by
  rw [State.record_congr (congrArg FaultUnit.records e.faults), State.parityLatched_record, if_pos rfl]

theorem State.ParityEntered.snapshots (e : s.ParityEntered t h) (room : s.faults.snapshots.length < 16) :
    t.faults.snapshots = (s.head h).snapshot (s.station h) .contextParity :: s.faults.snapshots := by
  rw [e.faults]
  exact (State.pushSnapshot_pushed (s := s.latchReport .contextParity (some (s.station h)) none) room h _).trans
    (by rw [State.latchReport_head]; rfl)

theorem State.ParityEntered.mode (e : s.ParityEntered t h) : t.faults.mode = s.faults.mode := by
  rw [e.faults]
  exact State.pushSnapshot_mode _ h _

theorem State.parityStopped_go (go : (s.record .table).action ≠ .stop) : s.parityStopped h = s.parityEntry h := if_neg go

theorem State.parityStopped_stop (stop : (s.record .table).action = .stop) :
    s.parityStopped h = ((s.parityEntry h).addStop .table).enterSafe (some .contextParity) := if_pos stop

theorem State.parityStopped_field {α : Type} (f : ClassRecord → α)
    (stops : ∀ r : ClassRecord, f { r with inStop := true } = f r)
    (marks : ∀ r : ClassRecord, f { r with condition := false } = f r) (clean : ∀ g, g ≠ h → (s.head g).clean = true) :
    f ((s.parityStopped h).record .table) = f ((s.parityEntry h).record .table) := by
  unfold State.parityStopped
  split
  · rw [State.enterSafe_records (State.addStop_clean ((s.parityEntry_entered h).clean clean) _),
      State.addStop_field f stops marks]
  · rfl

theorem State.parityStopped_snapshots (clean : ∀ g, g ≠ h → (s.head g).clean = true) :
    (s.parityStopped h).faults.snapshots = (s.parityEntry h).faults.snapshots := by
  unfold State.parityStopped
  split
  · rw [State.enterSafe_snapshots (State.addStop_clean ((s.parityEntry_entered h).clean clean) _),
      State.addStop_snapshots]
  · rfl

theorem State.parityStopped_posted (clean : ∀ g, g ≠ h → (s.head g).clean = true) : (s.parityStopped h).Posted h := by
  have entered := s.parityEntry_entered h
  unfold State.parityStopped
  split
  · exact (entered.posted.congr (State.addStop_scanner _ _)).enterSafe (State.addStop_clean (entered.clean clean) _) _
  · exact entered.posted

/-! ### The context, state by state -/

theorem Head.parityRead_withRecord {c : Head} (none_ : c.record = none) (act : Action) (v : Verdict)
    (skip : Option SkipReason) :
    ({ c.parityRead act with pin := none } : Head).withRecord v skip c.pin =
      { c.parityRead act with
        pin := none
        record := some
          { verdict := v, skip := skip, cycle := c.cycle, pin := c.pin, liquid := 0, syrup := 0, estimate := none
            observed := none, fault := some .contextParity, completed := 0 } } := by
  obtain ⟨liquid, syrup⟩ := c.rewritten_volumes
  have liquid' : ({ c.parityRead act with pin := none } : Head).liquidVolume = 0 := liquid
  have syrup' : ({ c.parityRead act with pin := none } : Head).syrupVolume = 0 := syrup
  have absent : ({ c.parityRead act with pin := none } : Head).record.isSome = false := by
    rw [Option.isSome_eq_false_iff, Option.isNone_iff_eq_none]
    exact none_
  unfold Head.withRecord
  rw [absent, if_neg (by decide), liquid', syrup']
  rfl

theorem State.parityStore_kept (running : (s.head h).state ≠ .running) (seating : (s.head h).state ≠ .seating) :
    ((s.parityRead h).parityRecord h).store = s.store := by
  have pins : ((s.parityRead h).head h).state.pins = false := by
    rw [State.parityRead_state]
    unfold HeadState.pins
    simp [running, seating]
  rw [State.parityRecord_unpinned pins]
  exact State.pushSnapshot_store _ h _

theorem State.parityStore_given {p : Pin} (from_ : (s.head h).state = .running ∨ (s.head h).state = .seating)
    (pin : (s.head h).pin = some p) (j : SlotId) :
    ((s.parityRead h).parityRecord h).slot j = if j = p.slot then (s.slot p.slot).release else s.slot j := by
  have pins : ((s.parityRead h).head h).state.pins = true := by
    rw [State.parityRead_state]
    rcases from_ with e | e
    · rw [e]; rfl
    · rw [e]; rfl
  have read : (s.parityRead h).store = s.store := State.pushSnapshot_store _ h _
  have held : ((s.parityRead h).head h).pin = some p := by rw [State.parityRead_head_self]; exact pin
  rw [State.slot_congr (State.parityRecord_alike pins).store, State.releasePin_slot held]
  rw [State.slot_congr read, State.slot_congr read]

/-- A head in LOCKOUT whose checked fields are rewritten (R45, R70). -/
theorem State.contextParity_locked (lockout : (s.head h).state = .lockout)
    (below : s.lockoutCount < s.faults.lockoutLimit) :
    s.contextParity h =
      if (s.head h).valves = .venting ∧ (s.head h).arm = none then
        s.setHead h { (s.head h).rewritten with valves := .venting }
      else (s.setHead h { (s.head h).rewritten with valves := .venting }).post h := by
  let u : State := s.setHead h { (s.head h).rewritten with valves := .venting }
  have core : s.parityCore h = if (s.head h).valves = .venting ∧ (s.head h).arm = none then u else u.post h := by
    unfold State.parityCore
    rw [lockout] <;> rfl
  have first : ∀ g, (u.head g).state = (s.head g).state := by
    intro g
    show ((s.setHead h _).head g).state = _
    by_cases e : g = h
    · subst e; rw [State.head_setHead]; rfl
    · rw [State.head_setHead_ne _ _ e]
  rw [State.contextParity_lockout lockout, core]
  refine State.checkLockout_below ?_
  split
  · rw [State.lockoutCount_congr first]
    exact below
  · rw [State.lockoutCount_congr (s := s) fun g => (Head.fields_of_butScan (State.post_butScan u h g)).1.trans (first g),
      (Keeps.post (.refl u) h).lockoutLimit]
    exact below

end

/-- Settles O45. -/
theorem parityErrorsAct : Obligations.ParityErrorsAct := by
  refine ⟨fun s h f live unclean => State.headEvent_unclean live unclean f, ?_, ?_⟩
  · intro s h below clean c t act station fresh record closing told
    have overrun : (c.calib.map (·.overrun)).getD 0 = (match c.calib with | some k => k.overrun | none => 0) := by
      cases c.calib with
      | _ => rfl
    have rewritten : ({ c.rewritten with valves := .venting } : Head) = fresh :=
      congrArg (fun n : Nat => ({ c.rewritten with valves := .venting, overrun := n } : Head)) overrun
    refine ⟨fun lockout => ?_, fun off lockout => ?_⟩
    · have run := State.contextParity_locked lockout (Nat.lt_of_succ_lt below)
      refine ⟨fun valves arm => ?_, fun changes => ?_⟩
      · rw [if_pos ⟨valves, arm⟩] at run
        exact run.trans (congrArg (s.setHead h) rewritten)
      · have moved : t = (s.setHead h fresh).post h := by
          rw [if_neg (by rintro ⟨valves, arm⟩; exact changes.elim (· valves) (· arm))] at run
          exact run.trans (congrArg (fun d => (s.setHead h d).post h) rewritten)
        have head : (t.head h).butScan = fresh.butScan := by
          rw [moved, State.post_butScan, State.head_setHead]
        have touched : s.Touches t h := by
          rw [moved]
          exact (State.updHead_touches s h fun _ => fresh).trans (State.post_touches _ h h)
        refine ⟨touched.onlyHead, ?_, ?_, congrArg (fun d : Head => { d with scan := c.scan }) head⟩
        · rw [moved]
          exact State.post_posted (by rw [State.head_setHead, ← rewritten]; simp [Head.enrolled, Head.rewritten, Head.withoutSegment, c, lockout])
        · rw [moved, State.post_store]
          rfl
    · have entered := s.parityEntry_entered h
      have run : t = s.parityStopped h := State.contextParity_stopped off lockout below clean
      have spared : (s.parityEntry h).Spares t h := by rw [run]; exact s.parityStopped_spared h
      have go : act ≠ .stop → t = s.parityEntry h := fun no => run.trans (State.parityStopped_go no)
      have closed : ({ c.parityRead act with valves := .venting, ventTimer := none } : Head) = closing :=
        congrArg (fun d : Head =>
          { d with ventTimer := none, lastFault := some .contextParity, hold := c.hold || decide (act = Action.hold) }) rewritten
      have head : ({ t.head h with scan := c.scan } : Head) = { c.parityClosed act with scan := c.scan } :=
        congrArg (fun d : Head => { d with scan := c.scan }) (spared.head.trans entered.head)
      have fell : c.state ≠ .forced → c.parityClosed act = (c.parityRead act).parityRecorded.forcedClosed := fun no =>
        if_neg no
      have recorded : ∀ (v : Verdict) (skip : Option SkipReason), c.record = none →
          c.parityClosed act =
            (({ c.parityRead act with pin := none } : Head).withRecord v skip c.pin).forcedClosed →
          ({ t.head h with scan := c.scan } : Head) =
            { closing with state := .forced, level := 2, pin := none, record := record v skip } := by
        intro v skip none_ e
        rw [head, e, Head.parityRead_withRecord none_, ← closed]
        rfl
      have plain : c.state ≠ .running → c.state ≠ .seating → (c.parityRead act).parityRecorded = c.parityRead act :=
        fun running seating => Head.parityRecorded_other running seating
      have latch : ∀ {α : Type} (f : ClassRecord → α), (∀ r : ClassRecord, f { r with inStop := true } = f r) →
          (∀ r : ClassRecord, f { r with condition := false } = f r) →
          f (t.record .table) = f ((s.parityEntry h).record .table) := fun f stops marks => by
        rw [run]; exact State.parityStopped_field f stops marks clean
      refine ⟨by rw [run]; exact State.parityStopped_posted clean, fun forced => ?_, fun other busy => ?_, fun waiting => ?_,
        fun _ running _ none_ => ?_, fun _ seating _ none_ => ?_, fun p from_ pin no => ?_,
        fun running seating no => ?_, fun no g ne => ?_, ?_, ?_, ?_, fun room => ?_, fun no => ?_, fun stop => ?_⟩
      · rw [head, Head.parityClosed, if_pos forced, plain (by rw [forced]; decide) (by rw [forced]; decide), ← closed]
        rfl
      · obtain ⟨still, unsent⟩ := State.parityEntry_unsent other busy
        rw [(spared.busy still).2]
        exact unsent
      · have no : c.state ≠ .forced ∧ c.state ≠ .running ∧ c.state ≠ .seating := by
          rcases waiting with e | e | e | e
          all_goals rw [e]; decide
        obtain ⟨forced, running, seating⟩ := no
        rw [head, fell forced, plain running seating, ← closed]
        rfl
      · exact recorded .aborted none none_
          ((fell (by rw [running]; decide)).trans (congrArg Head.forcedClosed (Head.parityRecorded_running running)))
      · exact recorded .skipped (some .headHold) none_
          ((fell (by rw [seating]; decide)).trans (congrArg Head.forcedClosed (Head.parityRecorded_seating seating)))
      · have slot : ∀ j, t.slot j = if j = p.slot then (s.slot p.slot).release else s.slot j := fun j => by
          rw [go no, State.slot_congr entered.store, State.parityStore_given from_ pin]
        refine ⟨?_, fun j ne => (slot j).trans (if_neg ne)⟩
        rw [slot, if_pos rfl]
        exact Slot.release_givesBack _
      · rw [go no, entered.store]
        exact State.parityStore_kept running seating
      · rw [go no]
        exact congrArg (fun d : Head => { d with scan := (s.head g).scan }) (entered.other g ne).head
      · rw [latch ClassRecord.latched (fun _ => rfl) (fun _ => rfl), entered.record]
      · rw [latch ClassRecord.lastCause (fun _ => rfl) (fun _ => rfl), entered.record]
      · rw [latch ClassRecord.lastStation (fun _ => rfl) (fun _ => rfl), entered.record]
        rfl
      · rw [run, State.parityStopped_snapshots clean, entered.snapshots room]
        rfl
      · rw [go no]
        exact ⟨entered.mode, entered.reports⟩
      · have clean' := State.addStop_clean (entered.clean clean) .table
        rw [run, State.parityStopped_stop stop]
        refine ⟨State.enterSafe_mode _ _, ?_, ?_⟩
        · rw [State.enterSafe_records clean', State.addStop_inStop, if_pos rfl]
        · rw [State.enterSafe_reports clean', State.addStop_mode, State.addStop_reports, entered.mode, entered.reports]
          rfl
  · intro s h q i running pin c u lost spoiled misread
    refine ⟨fun pending at_ θ => ⟨fun corrupt => ?_, fun bad => ?_⟩, fun w θ n count at_ more => ?_⟩
    · have test := State.startTest_corrupt pin corrupt θ
      rw [State.pendingTest_left running pending (by rw [test]; exact State.raiseHead_profileLost running), test]
    · have test := State.startTest_misread pin at_ bad.1 bad.2 θ
      rw [State.pendingTest_left running pending (by rw [test]; exact State.profileParity_left running _), test]
      rfl
    · let v : State := s.setHead h (c.ended w θ)
      have head : v.head h = c.ended w θ := State.head_setHead _ _ _
      have running' : (v.head h).state = .running := by rw [head]; exact running
      have pin' : (v.head h).pin = some q := by rw [head]; exact pin
      have at' : (v.head h).segIndex = i.val := by rw [head]; exact at_
      have after := State.afterEnd_left running' pin' (show (v.slot q.slot).segCount = some n from count)
        (by rw [at']; exact more) (θ := θ)
      rw [State.endSegment_eq]
      refine ⟨fun corrupt => ?_, fun bad => ?_⟩
      · have test := State.startTest_corrupt pin' (show (v.slot q.slot).state = .corrupt from corrupt) (some θ)
        exact (after (by rw [test]; exact State.raiseHead_profileLost running') _).trans test
      · have test := State.startTest_misread pin' at' bad.1 bad.2 (some θ)
        exact (after (by rw [test]; exact State.profileParity_left running' _) _).trans test

end Sys2Proof.Machine

/-! PROOFS. The start of a segment, and the arithmetic of volumes, verdicts and learning (R18, R20, R21, R26, R50, R51,
R77, R83 to R90). -/

namespace Sys2Proof.Machine

section
set_option Elab.async false
variable {z : ZoneMap} {c : Head} {w : Work} {k : Calib} {b : Bases} {θ : Nat} {s : State}

/-! ### The region of an angle (R18) -/

/-- The row of this number is valid and covers the angle. -/
def ZoneMap.CoversAt (z : ZoneMap) (i : Fin 8) (a : Nat) : Prop :=
  z.rows[i].valid = true ∧ z.rows[i].start ≤ a ∧ a < z.rows[i].stop

theorem ZoneMap.covers_iff (z : ZoneMap) (i : Fin 8) (a : Nat) : z.rows[i].covers a = true ↔ z.CoversAt i a := by
  unfold ZoneRow.covers ZoneMap.CoversAt
  simp only [Bool.and_eq_true, decide_eq_true_eq, and_assoc]

/-- An angle lies in the open arc or in the region of a row that covers it. -/
theorem ZoneMap.region_cases (z : ZoneMap) (a : Nat) :
    (z.region a = none ∧ ∀ i, ¬z.CoversAt i a) ∨ ∃ i, z.region a = some z.rows[i] ∧ z.CoversAt i a := by
  cases found : z.region a with
  | none =>
    refine Or.inl ⟨rfl, fun i covers => ?_⟩
    exact List.find?_eq_none.mp found _ (Vector.mem_toList_iff.mpr (Vector.getElem_mem i.isLt)) ((z.covers_iff i a).mpr covers)
  | some r =>
    obtain ⟨j, lt, row⟩ := List.getElem_of_mem (List.mem_of_find?_eq_some found)
    rw [Vector.length_toList] at lt
    rw [Vector.getElem_toList] at row
    refine Or.inr ⟨⟨j, lt⟩, congrArg some row.symm, (z.covers_iff ⟨j, lt⟩ a).mp ?_⟩
    have covers := List.find?_some found
    rw [← row] at covers
    exact covers

/-- Where the valid rows do not overlap, the region of an angle is the row that covers it. -/
theorem ZoneMap.region_covered (apart : ∀ i j a, z.CoversAt i a → z.CoversAt j a → i = j) {i : Fin 8} {a : Nat}
    (covers : z.CoversAt i a) : z.region a = some z.rows[i] := by
  rcases z.region_cases a with ⟨-, open_⟩ | ⟨j, found, covers'⟩
  · exact absurd covers (open_ i)
  · rw [found, apart j i a covers' covers]

theorem ZoneMap.permits_iff (apart : ∀ i j a, z.CoversAt i a → z.CoversAt j a → i = j) (a : Nat) (kind : SegKind) :
    z.permits a kind = true ↔
      ((∀ i, ¬z.CoversAt i a) → kind = .settle) ∧
        ∀ i, z.CoversAt i a → z.rows[i].permitted.getLsbD (kind.code - 1) = true := by
  unfold ZoneMap.permits
  rcases z.region_cases a with ⟨found, open_⟩ | ⟨i, found, covers⟩
  · rw [found]
    exact ⟨fun e => ⟨fun _ => beq_iff_eq.mp e, fun i at_ => absurd at_ (open_ i)⟩,
      fun e => beq_iff_eq.mpr (e.1 open_)⟩
  · rw [found]
    refine ⟨fun e => ⟨fun open_ => absurd covers (open_ i), fun j at_ => ?_⟩, fun e => e.2 i covers⟩
    rw [apart j i a at_ covers]
    exact e

theorem ZoneMap.guardMet_iff (apart : ∀ i j a, z.CoversAt i a → z.CoversAt j a → i = j) (a : Nat) :
    z.guardMet a = true ↔ ∀ i, z.CoversAt i a → z.rows[i].start + z.rows[i].guard ≤ a := by
  unfold ZoneMap.guardMet
  rcases z.region_cases a with ⟨found, open_⟩ | ⟨i, found, covers⟩
  · rw [found]
    exact ⟨fun _ i at_ => absurd at_ (open_ i), fun _ => rfl⟩
  · rw [found]
    refine ⟨fun e j at_ => ?_, fun e => decide_eq_true (e i covers)⟩
    rw [apart j i a at_ covers]
    exact of_decide_eq_true e

theorem ZoneMap.gapAt_le_iff (apart : ∀ i j a, z.CoversAt i a → z.CoversAt j a → i = j) (a n : Nat) :
    a + z.gapAt a ≤ n ↔
      (∀ i, z.CoversAt i a → a + z.rows[i].gap ≤ n) ∧ ((∀ i, ¬z.CoversAt i a) → a + z.baseGap ≤ n) := by
  unfold ZoneMap.gapAt
  rcases z.region_cases a with ⟨found, open_⟩ | ⟨i, found, covers⟩
  · rw [found]
    exact ⟨fun e => ⟨fun i at_ => absurd at_ (open_ i), fun _ => e⟩, fun e => e.2 open_⟩
  · rw [found]
    refine ⟨fun e => ⟨fun j at_ => ?_, fun open_ => absurd covers (open_ i)⟩, fun e => e.1 i covers⟩
    rw [apart j i a at_ covers]
    exact e

theorem ZoneMap.gapMet_iff (z : ZoneMap) (closed : Option (Nat × Valve)) (kind : SegKind) (n : Nat) :
    z.gapMet closed kind n = true ↔
      ∀ a x, closed = some (a, x) → kind.principal ≠ none → kind.principal ≠ some x → a + z.gapAt a ≤ n := by
  unfold ZoneMap.gapMet
  cases kind.principal with
  | none => exact ⟨fun _ _ _ _ no => absurd rfl no, fun _ => rfl⟩
  | some own =>
    cases closed with
    | none => exact ⟨fun _ _ _ e => (by cases e), fun _ => rfl⟩
    | some last =>
      obtain ⟨a, x⟩ := last
      show (own == x || decide (a + z.gapAt a ≤ n)) = true ↔ _
      rw [Bool.or_eq_true, beq_iff_eq, decide_eq_true_eq]
      refine ⟨fun e a' x' same _ other => ?_, fun e => ?_⟩
      · cases same
        exact e.resolve_left fun eq => other (congrArg some eq)
      · by_cases eq : own = x
        · exact Or.inl eq
        · exact Or.inr (e a x rfl (by simp) fun same => eq (Option.some.inj same))

theorem State.mayStart_iff (s : State) (c : Head) (kind : SegKind) (θ : Nat)
    (apart : ∀ i j a, s.zones.CoversAt i a → s.zones.CoversAt j a → i = j) :
    s.mayStart c kind θ = true ↔
      c.bases ≠ none ∧ ((∀ i, ¬s.zones.CoversAt i θ) → kind = .settle) ∧
        (∀ i, s.zones.CoversAt i θ →
          s.zones.rows[i].permitted.getLsbD (kind.code - 1) = true ∧
            s.zones.rows[i].start + s.zones.rows[i].guard ≤ θ) ∧
        ∀ a x, c.lastClosed = some (a, x) → kind.principal ≠ none → kind.principal ≠ some x →
          (∀ i, s.zones.CoversAt i a → a + s.zones.rows[i].gap ≤ θ) ∧
            ((∀ i, ¬s.zones.CoversAt i a) → a + s.zones.baseGap ≤ θ) := by
  have gap : s.zones.gapMet c.lastClosed kind θ = true ↔ _ := s.zones.gapMet_iff c.lastClosed kind θ
  unfold State.mayStart
  simp only [Bool.and_eq_true, ZoneMap.permits_iff apart, ZoneMap.guardMet_iff apart, gap,
    ZoneMap.gapAt_le_iff apart, Option.isSome_iff_ne_none]
  constructor
  · rintro ⟨⟨⟨⟨open_, permitted⟩, guard⟩, gaps⟩, bases⟩
    exact ⟨bases, open_, fun i at_ => ⟨permitted i at_, guard i at_⟩, gaps⟩
  · rintro ⟨bases, open_, rows, gaps⟩
    exact ⟨⟨⟨⟨open_, fun i at_ => (rows i at_).1⟩, fun i at_ => (rows i at_).2⟩, gaps⟩, bases⟩

/-! ### The cut arm (R84 to R87) -/

theorem Head.cutArm_syrup (bases : c.bases = some b) (calib : c.calib = some k) (kind : w.record.kind = .syrup) :
    c.cutArm w =
      some (⟨.syrup, armAt b.syrup (pulsesFor k.syrupK k.syrupTrim w.header.syrupTarget)⟩, none) := by
  unfold Head.cutArm
  rw [bases, calib]
  exact if_pos kind

theorem Head.cutArm_part (bases : c.bases = some b) (calib : c.calib = some k) (kind : w.record.kind ≠ .syrup)
    (part : w.record.param < 1000) :
    c.cutArm w =
      some
        (⟨.liquid, armAt b.liquid (pulsesFor k.liquidK k.liquidTrim (w.header.liquidTarget * w.record.param / 1000))⟩,
          none) := by
  unfold Head.cutArm
  rw [bases, calib]
  exact (if_neg kind).trans (if_pos part)

theorem Head.cutArm_final (bases : c.bases = some b) (calib : c.calib = some k) (kind : w.record.kind ≠ .syrup)
    (final : w.record.param = 1000) :
    c.cutArm w =
      if w.header.liquidTarget < c.liquidVolume + c.overrun then
        some (⟨.liquid, (c.lastObs.map (·.liquid)).getD b.liquid⟩, some (c.liquidVolume, c.overrun))
      else
        some
          (⟨.liquid, armAt b.liquid (pulsesFor k.liquidK k.liquidTrim (w.header.liquidTarget - c.overrun))⟩,
            some (w.header.liquidTarget - c.overrun, c.overrun)) := by
  have past : (w.header.liquidTarget : Int) - c.overrun < c.liquidVolume ↔
      w.header.liquidTarget < c.liquidVolume + c.overrun := by omega
  unfold Head.cutArm
  rw [bases, calib]
  refine (if_neg kind).trans ((if_neg (by omega)).trans ?_)
  simp only [past]

theorem Head.liquidVolume_of (calib : c.calib = some k) :
    c.liquidVolume = volumeOf k.liquidK k.liquidTrim c.liquidTotal := by
  unfold Head.liquidVolume
  rw [calib]

/-! ### The fields of a started segment (R51) -/

theorem Head.startSegment_uncut (ending : w.record.ending ≠ .volume) (θ : Nat) :
    (c.startSegment w θ).arm = none ∧ (c.startSegment w θ).meter = c.meter.started w.record.kind none := by
  unfold Head.startSegment
  rw [if_neg ending]
  exact ⟨rfl, rfl⟩

theorem Head.startSegment_cut (ending : w.record.ending = .volume) {arm : Arm} {final : Option (Nat × Nat)}
    (cut : c.cutArm w = some (arm, final)) (θ : Nat) :
    (c.startSegment w θ).arm = some arm ∧ (c.startSegment w θ).meter = c.meter.started w.record.kind final := by
  unfold Head.startSegment
  rw [if_pos ending, cut]
  exact ⟨rfl, rfl⟩

theorem MeterRecord.started_shared (m : MeterRecord) (kind : SegKind) (final : Option (Nat × Nat)) :
    (m.started kind final).productStarted = (m.productStarted || kind.product) ∧
      (m.started kind final).leakSum = m.leakSum ∧ (m.started kind final).leakRaised = m.leakRaised ∧
      (m.started kind final).finalDone = m.finalDone := by
  unfold MeterRecord.started
  cases final with
  | none => exact ⟨rfl, rfl, rfl, rfl⟩
  | some f => exact ⟨rfl, rfl, rfl, rfl⟩

theorem Head.startSegment_meter (c : Head) (w : Work) (θ : Nat) :
    ∃ final, (c.startSegment w θ).meter = c.meter.started w.record.kind final := ⟨_, rfl⟩

theorem SegKind.product_iff (kind : SegKind) : kind.product = true ↔ kind = .syrup ∨ kind = .fill ∨ kind = .trim := by
  cases kind with
  | _ => decide

theorem SegKind.fills_iff (kind : SegKind) : kind.fills = true ↔ kind = .fill ∨ kind = .trim := by
  cases kind with
  | _ => decide

/-! ### Volumes (R77) -/

/-- A quotient with a half added rounds to the nearest whole number, halves up. -/
theorem rounded_bounds (n k : Nat) (pos : 0 < k) :
    2 * k * ((n + k) / (2 * k)) ≤ n + k ∧ n + k < 2 * k * ((n + k) / (2 * k) + 1) :=
  ⟨Nat.mul_div_le _ _, Nat.lt_mul_div_succ _ (by omega)⟩

/-! ### Learning (R90) -/

theorem Head.learn_of {cut e : Nat} (final : c.meter.finalCut = some cut) (used : c.meter.estimateUsed = some e)
    (n vl : Nat) :
    c.learn n vl =
      if c.meter.finalDone = true ∧ plausible ((vl : Int) - cut) e = true then
        some (learned n ((vl : Int) - cut) e, ((vl : Int) - cut).toNat)
      else none := by
  unfold Head.learn
  rw [final, used]

theorem plausible_iff (o : Int) (e : Nat) : plausible o e = true ↔ 0 ≤ o ∧ o ≤ 2 * e + 50 := by
  unfold plausible
  rw [Bool.and_eq_true, decide_eq_true_eq, decide_eq_true_eq]

end

/-- Settles O50. -/
theorem segmentStartSetsCommand : Obligations.SegmentStartSetsCommand := by
  refine ⟨fun kind => ?_, ?_, ?_⟩
  · cases kind with
    | _ => rfl
  · intro s c kind θ covers apart
    exact s.mayStart_iff c kind θ apart
  intro c w θ b k bases calib d kind fills volume vs vl vm
  have notSyrup : fills → w.record.kind ≠ .syrup := by
    rintro (e | e)
    · rw [show w.record.kind = .fill from e]; decide
    · rw [show w.record.kind = .trim from e]; decide
  have liquid : c.liquidVolume = vm := Head.liquidVolume_of calib
  obtain ⟨final, meter⟩ := c.startSegment_meter w θ
  obtain ⟨started, leakSum, leakRaised, finalDone⟩ := c.meter.started_shared w.record.kind final
  have valves : d.valves = kind.pattern (min c.valves.l w.record.aperture) := rfl
  have ramp : d.rampPos = if kind.fills then some θ else none := rfl
  refine ⟨rfl, rfl, rfl, rfl, rfl, fun product => ?_, fun syrup no => ?_, by rw [meter, leakSum],
    by rw [meter, leakRaised], by rw [meter, finalDone], fun plain => ?_, fun liquids => ⟨?_, ?_⟩, fun no => ?_,
    fun e => by rw [valves, e]; rfl, fun e => by rw [valves, e]; rfl, fun e => by rw [valves, e]; rfl,
    fun e => by rw [valves, e]; rfl, fun e => by rw [valves, e]; rfl, fun no => (Head.startSegment_uncut no θ).1,
    fun ends syrup => (Head.startSegment_cut ends (Head.cutArm_syrup bases calib syrup) θ).1,
    fun ends liquids part =>
      (Head.startSegment_cut ends (Head.cutArm_part bases calib (notSyrup liquids) part) θ).1,
    fun ends liquids full short => ?_, fun o ends liquids full past last => ?_⟩
  · rw [meter, started, (SegKind.product_iff _).mpr product, Bool.or_true]
  · have dry : w.record.kind.product = false := by
      rw [Bool.eq_false_iff]
      exact fun e => ((SegKind.product_iff _).mp e).elim syrup no
    rw [meter, started, dry, Bool.or_false]
  · have bare : d.meter = c.meter.started w.record.kind none := by
      by_cases ends : w.record.ending = .volume
      · rcases plain with no | syrup | ⟨liquids, part⟩
        · exact absurd ends no
        · exact (Head.startSegment_cut ends (Head.cutArm_syrup bases calib syrup) θ).2
        · exact (Head.startSegment_cut ends (Head.cutArm_part bases calib (notSyrup liquids) part) θ).2
      · exact (Head.startSegment_uncut ends θ).2
    rw [bare]
    exact ⟨rfl, rfl⟩
  · rw [valves]
    rcases liquids with e | e
    · rw [e]; rfl
    · rw [e]; rfl
  · rw [ramp, if_pos ((SegKind.fills_iff _).mpr liquids)]
  · rw [ramp, if_neg fun e => no ((SegKind.fills_iff _).mp e)]
  · have cut := Head.cutArm_final bases calib (notSyrup liquids) full
    rw [liquid, if_neg (show ¬w.header.liquidTarget < vm + c.overrun from Nat.not_lt.mpr short)] at cut
    obtain ⟨arm, meter⟩ := Head.startSegment_cut ends cut θ
    exact ⟨arm, congrArg MeterRecord.finalCut meter, congrArg MeterRecord.estimateUsed meter⟩
  · have cut := Head.cutArm_final bases calib (notSyrup liquids) full
    rw [liquid, if_pos (show w.header.liquidTarget < vm + c.overrun from past), last] at cut
    obtain ⟨arm, meter⟩ := Head.startSegment_cut ends cut θ
    exact ⟨arm, congrArg MeterRecord.finalCut meter, congrArg MeterRecord.estimateUsed meter⟩

/-- Settles O51. -/
theorem volumeVerdictLearning : Obligations.VolumeVerdictLearning := by
  refine ⟨fun k p v d trim pos e posd => ?_, ?_, ?_⟩
  · have trimmed : (10000 + trim).toNat = d := by rw [e]; exact Int.toNat_natCast d
    refine ⟨⟨(2 * p * d + k) / (2 * k), ?_, rounded_bounds (2 * p * d) k pos⟩, ?_⟩
    · unfold volumeOf
      rw [trimmed]
    · unfold pulsesFor
      dsimp only
      rw [trimmed]
      exact rounded_bounds (2 * v * k) d posd
  · intro h vl vs total off
    have ratio : off ↔ 0 < h.ratio ∧
        (vl + vs = 0 ∨ h.ratioTol * (vl + vs) < ((1000 * vs : Int) - (h.ratio * (vl + vs : Nat) : Int)).natAbs) := by
      show (0 < h.ratio ∧ (vl + vs = 0 ∨ _ ∨ _)) ↔ _
      refine and_congr_right fun _ => or_congr_right ?_
      have spread : (h.ratio + h.ratioTol) * (vl + vs) = h.ratio * (vl + vs) + h.ratioTol * (vl + vs) :=
        Nat.add_mul _ _ _
      have cast : (h.ratio * (vl + vs : Nat) : Int) = ((h.ratio * (vl + vs) : Nat) : Int) := by push_cast; rfl
      rw [spread, cast]
      show (h.ratio * (vl + vs) + h.ratioTol * (vl + vs) < 1000 * vs ∨
        1000 * vs + h.ratioTol * (vl + vs) < h.ratio * (vl + vs)) ↔ _
      generalize h.ratio * (vl + vs) = r
      generalize h.ratioTol * (vl + vs) = n
      omega
    unfold verdictOf
    dsimp only
    refine ⟨fun low => if_pos low, fun enough high => ?_, fun enough few bad => ?_, fun enough few good => ?_⟩
    · rw [if_neg (Nat.not_lt.mpr enough), if_pos high]
    · rw [if_neg (Nat.not_lt.mpr enough), if_neg (Nat.not_lt.mpr few), if_pos (ratio.mp bad)]
    · rw [if_neg (Nat.not_lt.mpr enough), if_neg (Nat.not_lt.mpr few), if_neg fun bad => good (ratio.mpr bad)]
  · intro c w vl cut e final used o
    rw [Head.learn_of final used]
    refine ⟨fun done low high => ?_, fun no => if_neg fun ⟨done, fits⟩ => ?_⟩
    · rw [if_pos ⟨done, (plausible_iff _ _).mpr ⟨low, high⟩⟩]
      have clamp : learned w ((vl : Int) - cut) e = (max 0 (min 500 ((e : Int) + (o - e).tdiv (2 ^ w)))).toNat := by
        unfold learned
        rw [show ((2 ^ w : Nat) : Int) = 2 ^ w by push_cast; rfl]
        show min 500 ((e : Int) + (o - e).tdiv (2 ^ w)).toNat = _
        generalize (e : Int) + (o - e).tdiv (2 ^ w) = x
        omega
      rw [clamp]
    · obtain ⟨low, high⟩ := (plausible_iff _ _).mp fits
      rcases no with e | e | e
      · rw [e] at done; cases done
      · exact absurd e (by simpa [o] using low)
      · exact absurd e (by simpa [o] using high)

end Sys2Proof.Machine

/-! PROOFS. The crossings of the infeed, of Θs and of Θd, and the emission of a record (R46, R47, R49, R60, R61). -/

namespace Sys2Proof.Machine

section
set_option Elab.async false
variable {s t : State} {h g : HeadId} {pos : Pos}

/-! ### The infeed crossing (R44, R46, R47) -/

/-- A context whose last fault of the cycle is cleared at the infeed (R44). -/
def Head.cleared (c : Head) : Head := { c with lastFault := none }

theorem State.infeedCrossing_still (still : (s.head h).state ≠ .seating ∧ (s.head h).state ≠ .running ∧
      (s.head h).state ≠ .done ∧ (s.head h).state ≠ .emptyPass) (pos : Pos) :
    s.infeedCrossing h pos = s.atInfeed h := by
  obtain ⟨seating, running, done, empty⟩ := still
  unfold State.infeedCrossing
  split
  · next e => exact absurd e seating
  · next e => exact absurd e running
  · next e => exact absurd e done
  · next e => exact absurd e empty
  · rfl

theorem State.infeedCrossing_riding (riding : (s.head h).state = .seating ∨ (s.head h).state = .running ∨
      (s.head h).state = .done ∨ (s.head h).state = .emptyPass) (pos : Pos) :
    s.infeedCrossing h pos = ((s.seatWindowEnd h).dischargeCrossing h pos).atInfeed h := by
  unfold State.infeedCrossing
  split
  · rfl
  · rfl
  · rfl
  · rfl
  · next seating running done empty =>
    rcases riding with e | e | e | e
    · exact absurd e seating
    · exact absurd e running
    · exact absurd e done
    · exact absurd e empty

theorem State.atInfeed_outside (outside : s.faults.mode ≠ .production) :
    s.atInfeed h = s.setHead h (s.head h).cleared := if_neg outside

theorem State.atInfeed_idle (production : s.faults.mode = .production) (idle : (s.head h).state = .idle) :
    s.atInfeed h = (s.setHead h (s.head h).cleared).beginCycle h := by
  have state : ((s.setHead h (s.head h).cleared).head h).state = .idle := by rw [State.head_setHead]; exact idle
  unfold State.atInfeed
  refine (if_pos production).trans ?_
  split
  · rfl
  · next e => exact absurd (e.symm.trans state) (by decide)
  · next e => exact absurd (e.symm.trans state) (by decide)
  · next e => exact absurd (e.symm.trans state) (by decide)
  · next e _ _ _ => exact absurd state e

theorem State.atInfeed_closing (production : s.faults.mode = .production)
    (closing : (s.head h).state = .aborting ∨ (s.head h).state = .forced ∨ (s.head h).state = .lockout) :
    s.atInfeed h =
      s.setHead h
        ((s.head h).cleared.passInfeed (if (s.head h).state = .lockout then .locked else .skipped)) := by
  have first : ((s.setHead h (s.head h).cleared).head h) = (s.head h).cleared := State.head_setHead _ _ _
  have again : ∀ d : Head, (s.setHead h (s.head h).cleared).setHead h d = s.setHead h d := fun d => by
    have heads : ((s.setHead h (s.head h).cleared).setHead h d).heads = (s.setHead h d).heads :=
      State.heads_ext fun g => by
        by_cases e : g = h
        · subst e; rw [State.head_setHead, State.head_setHead]
        · rw [State.head_setHead_ne _ _ e, State.head_setHead_ne _ _ e, State.head_setHead_ne _ _ e]
    show { s with heads := _ } = { s with heads := _ }
    exact congrArg (fun v => ({ s with heads := v } : State)) heads
  have passed : ∀ v, ((s.setHead h (s.head h).cleared).updHead h fun c => c.passInfeed v) =
      s.setHead h ((s.head h).cleared.passInfeed v) := fun v => by
    show (s.setHead h (s.head h).cleared).setHead h _ = _
    rw [again, first]
  have state : ((s.setHead h (s.head h).cleared).head h).state = (s.head h).state := by rw [first]; rfl
  unfold State.atInfeed
  refine (if_pos production).trans ?_
  rcases closing with e | e | e
  · rw [if_neg (by rw [e]; decide), ← passed]
    split
    · next x => exact absurd (x.symm.trans (state.trans e)) (by decide)
    · rfl
    · rfl
    · next x => exact absurd (x.symm.trans (state.trans e)) (by decide)
    · next _ x _ _ => exact absurd (state.trans e) x
  · rw [if_neg (by rw [e]; decide), ← passed]
    split
    · next x => exact absurd (x.symm.trans (state.trans e)) (by decide)
    · rfl
    · rfl
    · next x => exact absurd (x.symm.trans (state.trans e)) (by decide)
    · next _ _ x _ => exact absurd (state.trans e) x
  · rw [if_pos e, ← passed]
    split
    · next x => exact absurd (x.symm.trans (state.trans e)) (by decide)
    · next x => exact absurd (x.symm.trans (state.trans e)) (by decide)
    · next x => exact absurd (x.symm.trans (state.trans e)) (by decide)
    · rfl
    · next _ _ _ x => exact absurd (state.trans e) x

theorem Head.passInfeed_pending {c : Head} (pending : c.record ≠ none) (v : Verdict) :
    c.passInfeed v = { c with cycle := (c.cycle + 1) % 65536 } := by
  unfold Head.passInfeed
  exact if_pos (Option.isSome_iff_ne_none.mpr pending)

/-- No pulses make no volume, whatever the calibration. -/
theorem volumeOf_zero (k : Nat) (trim : Int) : volumeOf k trim 0 = 0 := by
  unfold volumeOf
  have small : k / (2 * k) = 0 := by
    rcases Nat.eq_zero_or_pos k with rfl | pos
    · rfl
    · exact Nat.div_eq_of_lt (by omega)
  rw [Nat.mul_zero, Nat.zero_mul, Nat.zero_add, small, Nat.min_zero]

theorem Head.volumes_zero {c : Head} (liquid : c.liquidTotal = 0) (syrup : c.syrupTotal = 0) :
    c.liquidVolume = 0 ∧ c.syrupVolume = 0 := by
  unfold Head.liquidVolume Head.syrupVolume
  rw [liquid, syrup]
  cases c.calib with
  | none => exact ⟨rfl, rfl⟩
  | some k => exact ⟨volumeOf_zero _ _, volumeOf_zero _ _⟩

theorem Head.passInfeed_new {c : Head} (none_ : c.record = none) (v : Verdict) :
    c.passInfeed v =
      { c with
        cycle := (c.cycle + 1) % 65536, meter := .blank, bases := none, liquidTotal := 0, syrupTotal := 0
        record := some
          { verdict := v, skip := none, cycle := (c.cycle + 1) % 65536, pin := none, liquid := 0, syrup := 0
            estimate := none, observed := none, fault := c.lastFault, completed := c.segIndex } } := by
  let d : Head := ({ c with cycle := (c.cycle + 1) % 65536 } : Head).beginMetering
  obtain ⟨liquid, syrup⟩ := Head.volumes_zero (c := d) rfl rfl
  have absent : c.record.isSome = false := by rw [none_]; rfl
  unfold Head.passInfeed
  refine (if_neg (by rw [absent]; decide)).trans ?_
  show d.withRecord v none none = _
  unfold Head.withRecord
  rw [show d.record.isSome = false from absent, if_neg (by decide), liquid, syrup]
  rfl

/-! ### The start of a cycle (R36, R46) -/

/-- The context of a head that begins a cycle, before it seats or skips. -/
def Head.begun (c : Head) : Head := c.cleared.beginCycle

/-- A head that has begun a cycle, before it seats or skips. -/
def State.begun (s : State) (h : HeadId) : State := (s.setHead h (s.head h).cleared).updHead h Head.beginCycle

theorem State.begun_head (s : State) (h : HeadId) : (s.begun h).head h = (s.head h).begun := by
  unfold State.begun
  rw [State.head_updHead, State.head_setHead]
  rfl

theorem State.begun_head_ne (s : State) (ne : g ≠ h) : (s.begun h).head g = s.head g := by
  unfold State.begun
  rw [State.head_updHead_ne _ _ ne, State.head_setHead_ne _ _ ne]

theorem State.begun_skipReason (s : State) (h : HeadId) :
    (s.begun h).skipReason h =
      if s.startsBarred then some .hold
      else if (s.head h).hold then some .headHold
      else if (s.head h).withdraw then some .withdraw
      else none := by
  unfold State.skipReason
  rw [State.begun_head]
  rfl

theorem State.beginCycle_skips {r : SkipReason} (e : (s.begun h).skipReason h = some r) :
    (s.setHead h (s.head h).cleared).beginCycle h = (s.begun h).skipCycle h r := by
  unfold State.beginCycle
  dsimp only
  split
  · next x =>
    cases x.symm.trans e
    rfl
  · next x => cases x.symm.trans e

theorem State.pinClaim_none (bare : s.activeSlot = none) : s.pinClaim = none := by
  unfold State.pinClaim
  split
  · next x => cases x.symm.trans bare
  · rfl

/-- The pin that a slot hands to a head (R36). -/
def State.pinOf (s : State) (j : SlotId) : Pin := ⟨j, (s.slot j).gen, (s.slot j).profile.getD 0⟩

theorem State.pinClaim_some {j : SlotId} (active : s.activeSlot = some j) :
    s.pinClaim = some (s.pinOf j, s.setSlot j { s.slot j with users := (s.slot j).users + 1 }) := by
  unfold State.pinClaim
  split
  · next x =>
    cases x.symm.trans active
    rfl
  · next x => cases x.symm.trans active

theorem State.beginCycle_bare (e : (s.begun h).skipReason h = none) (bare : s.activeSlot = none) :
    (s.setHead h (s.head h).cleared).beginCycle h = (s.begun h).skipCycle h .noProfile := by
  have claim : (s.begun h).pinClaim = none := State.pinClaim_none bare
  unfold State.beginCycle
  dsimp only
  split
  · next x => cases x.symm.trans e
  · split
    · next x => cases x.symm.trans claim
    · rfl

/-- A head that has begun a cycle seats on a slot. -/
def State.seated (s : State) (h : HeadId) (j : SlotId) : State :=
  (((s.begun h).setSlot j { s.slot j with users := (s.slot j).users + 1 }).changeState h .seating).updHead h fun c =>
    { c with pin := some (s.pinOf j) }

theorem State.beginCycle_seats {j : SlotId} (e : (s.begun h).skipReason h = none) (active : s.activeSlot = some j) :
    (s.setHead h (s.head h).cleared).beginCycle h = s.seated h j := by
  have claim : (s.begun h).pinClaim =
      some (s.pinOf j, (s.begun h).setSlot j { s.slot j with users := (s.slot j).users + 1 }) :=
    State.pinClaim_some active
  unfold State.beginCycle
  dsimp only
  split
  · next x => cases x.symm.trans e
  · split
    · next x =>
      cases x.symm.trans claim
      rfl
    · next x => cases x.symm.trans claim

theorem State.skipCycle_head (s : State) (h : HeadId) (r : SkipReason) :
    (s.skipCycle h r).head h =
      ({ s.head h with state := .emptyPass, level := 0 } : Head).withRecord .skipped (some r) none := by
  unfold State.skipCycle
  rw [State.head_updHead, State.changeState_head_self]
  rfl

/-- A head that skips the cycle it has begun records it, with nothing dispensed (R46, R59). -/
theorem Head.begun_skips {c : Head} (none_ : c.record = none) (r : SkipReason) :
    ({ c.begun with state := .emptyPass, level := 0 } : Head).withRecord .skipped (some r) none =
      { c.begun with
        state := .emptyPass, level := 0
        record := some
          { verdict := .skipped, skip := some r, cycle := (c.cycle + 1) % 65536, pin := none, liquid := 0, syrup := 0
            estimate := none, observed := none, fault := none, completed := 0 } } := by
  let d : Head := { c.begun with state := .emptyPass, level := 0 }
  obtain ⟨liquid, syrup⟩ := Head.volumes_zero (c := d) rfl rfl
  have absent : d.record.isSome = false := by
    rw [show d.record = c.record from rfl, none_]
    rfl
  show d.withRecord .skipped (some r) none = _
  unfold Head.withRecord
  rw [absent, if_neg (by decide), liquid, syrup]
  rfl

/-- What an infeed crossing of an idle head in PRODUCTION leaves of everything else. -/
theorem State.begun_others {u : State} (turn : ∃ st f, u = ((s.begun h).changeState h st).updHead h f) :
    (∀ g, g ≠ h → u.head g = s.head g) ∧ u.faults = s.faults ∧ u.reports = s.reports ∧ u.discharge = s.discharge ∧
      u.store = s.store := by
  obtain ⟨st, f, rfl⟩ := turn
  refine ⟨fun g ne => ?_, ?_, ?_, ?_, ?_⟩
  · rw [State.head_updHead_ne _ _ ne, State.changeState_head_ne _ _ ne, State.begun_head_ne _ ne]
  · exact (State.changeState_faults _ h st).trans rfl
  · exact (State.changeState_reports _ h st).trans rfl
  · exact (State.changeState_discharge _ h st).trans rfl
  · exact (State.changeState_store _ h st).trans rfl

theorem State.seated_others (s : State) (h : HeadId) (j : SlotId) :
    (∀ g, g ≠ h → (s.seated h j).head g = s.head g) ∧ (s.seated h j).faults = s.faults ∧
      (s.seated h j).reports = s.reports ∧ (s.seated h j).discharge = s.discharge := by
  refine ⟨fun g ne => ?_, (State.changeState_faults _ h _).trans rfl, (State.changeState_reports _ h _).trans rfl,
    (State.changeState_discharge _ h _).trans rfl⟩
  unfold State.seated
  rw [State.head_updHead_ne _ _ ne, State.changeState_head_ne _ _ ne]
  exact s.begun_head_ne ne

theorem State.seated_head (s : State) (h : HeadId) (j : SlotId) :
    (s.seated h j).head h = { (s.head h).begun with state := .seating, level := 0, pin := some (s.pinOf j) } := by
  have slot : ((s.begun h).setSlot j { s.slot j with users := (s.slot j).users + 1 }).head h = (s.head h).begun :=
    s.begun_head h
  unfold State.seated
  rw [State.head_updHead, State.changeState_head_self, slot]
  rfl

/-- An idle head at its infeed in PRODUCTION skips its cycle or seats. -/
theorem State.atInfeed_begins (production : s.faults.mode = .production) (idle : (s.head h).state = .idle) :
    (∃ r, s.atInfeed h = (s.begun h).skipCycle h r) ∨ ∃ j, s.atInfeed h = s.seated h j := by
  have begins := State.atInfeed_idle production idle
  cases e : (s.begun h).skipReason h with
  | some r => exact Or.inl ⟨r, begins.trans (State.beginCycle_skips e)⟩
  | none =>
    cases active : s.activeSlot with
    | none => exact Or.inl ⟨_, begins.trans (State.beginCycle_bare e active)⟩
    | some j => exact Or.inr ⟨j, begins.trans (State.beginCycle_seats e active)⟩

theorem State.seated_slot (s : State) (h : HeadId) (j i : SlotId) :
    (s.seated h j).slot i = if i = j then { s.slot j with users := (s.slot j).users + 1 } else s.slot i := by
  unfold State.seated
  rw [State.updHead_slot, State.changeState_slot, State.slot_setSlot_eq]
  rfl

end

/-- Settles O46. -/
theorem infeedBeginsCycle : Obligations.InfeedBeginsCycle := by
  intro s h pos idle none_ c t d barred skipped
  have run : t = s.atInfeed h :=
    State.infeedCrossing_still (by rw [idle]; decide) pos
  by_cases production : s.faults.mode = .production
  · have begins : t = (s.setHead h (s.head h).cleared).beginCycle h := run.trans (State.atInfeed_idle production idle)
    have reason := s.begun_skipReason h
    have skips : ∀ r, t = (s.begun h).skipCycle h r →
        d = { c.begun with
          state := .emptyPass, level := 0
          record := some
            { verdict := .skipped, skip := some r, cycle := (c.cycle + 1) % 65536, pin := none, liquid := 0, syrup := 0
              estimate := none, observed := none, fault := none, completed := 0 } } := fun r e => by
      show t.head h = _
      rw [e, State.skipCycle_head, State.begun_head]
      exact Head.begun_skips none_ r
    have bar : s.startsBarred = true ↔ barred := s.startsBarred_iff
    have cases_ : (∃ r, t = (s.begun h).skipCycle h r) ∨ ∃ j, t = s.seated h j := by
      rw [run]
      exact State.atInfeed_begins production idle
    have others : (∀ g, g ≠ h → t.head g = s.head g) ∧ t.faults = s.faults ∧ t.reports = s.reports ∧
        t.discharge = s.discharge := by
      rcases cases_ with ⟨r, e⟩ | ⟨j, e⟩
      · obtain ⟨heads, faults, reports, discharge, -⟩ := State.begun_others (s := s) (h := h) (u := t) ⟨_, _, e⟩
        exact ⟨heads, faults, reports, discharge⟩
      · rw [e]
        exact s.seated_others h j
    obtain ⟨heads, faults, reports, discharge⟩ := others
    refine ⟨heads, faults, reports, discharge, fun no => absurd production no, fun _ unpinned _ => ?_⟩
    have shared : ∃ (st : HeadState) (p : Option Pin) (r : Option DoseRecord),
        d = { c.begun with state := st, level := 0, pin := p, record := r } := by
      rcases cases_ with ⟨r, e⟩ | ⟨j, e⟩
      · exact ⟨_, c.pin, _, skips r e⟩
      · exact ⟨.seating, _, c.record, (congrArg (State.head · h) e).trans (s.seated_head h j)⟩
    have skip : ∀ r, t = (s.begun h).skipCycle h r → skipped r := fun r e => by
      have head := skips r e
      obtain ⟨-, -, -, -, store⟩ := State.begun_others (s := s) (h := h) (u := t) ⟨_, _, e⟩
      refine ⟨by rw [head], by rw [head]; exact unpinned, store, _, congrArg Head.record head, rfl, rfl, rfl, rfl, rfl,
        rfl, rfl, rfl⟩
    have free : ¬barred → c.hold = false → c.withdraw = false → (s.begun h).skipReason h = none :=
      fun no hold withdraw => by
        rw [reason, if_neg (mt bar.mp no), hold, withdraw]
        rfl
    obtain ⟨st, p, r, head⟩ := shared
    refine ⟨by rw [head]; rfl, by rw [head]; rfl, by rw [head]; rfl, by rw [head]; rfl, by rw [head]; rfl,
      by rw [head]; rfl, by rw [head]; rfl, by rw [head]; rfl, by rw [head]; rfl, by rw [head]; rfl,
      by rw [head]; rfl, by rw [head]; rfl, by rw [head], by rw [head]; rfl, by rw [head]; rfl, fun yes => ?_,
      fun no hold => ?_, fun no hold withdraw => ?_, fun no hold withdraw bare => ?_,
      fun j q no hold withdraw one active profile => ?_⟩
    · exact skip .hold (begins.trans (State.beginCycle_skips (reason.trans (if_pos (bar.mpr yes)))))
    · refine skip .headHold (begins.trans (State.beginCycle_skips (reason.trans ?_)))
      rw [if_neg (mt bar.mp no), show (s.head h).hold = true from hold]
      rfl
    · refine skip .withdraw (begins.trans (State.beginCycle_skips (reason.trans ?_)))
      rw [if_neg (mt bar.mp no), show (s.head h).hold = false from hold, show (s.head h).withdraw = true from withdraw]
      rfl
    · exact skip .noProfile (begins.trans (State.beginCycle_bare (free no hold withdraw)
        (s.activeSlot_eq_none.mpr bare)))
    · have seats : t = s.seated h j :=
        begins.trans (State.beginCycle_seats (free no hold withdraw) (State.activeSlot_eq_some one active))
      have seated : d = _ := (congrArg (State.head · h) seats).trans (s.seated_head h j)
      refine ⟨by rw [seated], by rw [seated]; exact none_, ?_, ?_, fun i ne => ?_⟩
      · rw [seated]
        show some (s.pinOf j) = _
        unfold State.pinOf
        rw [profile]
        rfl
      · rw [seats, State.seated_slot, if_pos rfl]
      · rw [seats, State.seated_slot, if_neg ne]
  · have cleared : t = s.setHead h c.cleared := run.trans (State.atInfeed_outside production)
    refine ⟨fun g ne => by rw [cleared, State.head_setHead_ne _ _ ne], by rw [cleared]; rfl, by rw [cleared]; rfl,
      by rw [cleared]; rfl, fun _ => ⟨?_, by rw [cleared]; rfl⟩, fun yes => absurd yes production⟩
    show t.head h = _
    rw [cleared, State.head_setHead]
    rfl

end Sys2Proof.Machine

/-! PROOFS. The discharge crossing, the emission of a record, and what follows them (R47, R60, R61, R117, R163, R166). -/

namespace Sys2Proof.Machine

section
set_option Elab.async false
variable {s t u : State} {h g : HeadId} {pos : Pos} {r : DoseRecord} {k : Cause}

/-! ### Emission (R60, R117, R163, R166) -/

theorem State.emit_none (none_ : (s.head h).record = none) (pos : Pos) : s.emit h pos = s := by
  unfold State.emit
  split
  · next e => cases e.symm.trans none_
  · rfl

theorem State.emit_some (some_ : (s.head h).record = some r) (pos : Pos) :
    s.emit h pos = (s.createDose r (s.station h) pos).updHead h fun c => { c with record := none } := by
  unfold State.emit
  split
  · next e =>
    cases e.symm.trans some_
    rfl
  · next e => cases e.symm.trans some_

theorem State.createDose_silent (zero : s.reports.prioOf .dose = 0) (r : DoseRecord) (station : Nat) (pos : Pos) :
    s.createDose r station pos = s := if_pos zero

theorem State.takeOwn_absent (absent : s.discharge.master = false) (d : DoseReport) : s.takeOwn d = s :=
  dif_neg fun both => by
    rw [absent] at both
    cases both.1

theorem State.takeOwn_master (master : s.discharge.master = true) (a : Fin 15) (own : a.val = s.management.address)
    (d : DoseReport) :
    s.takeOwn d = s.takeDose a d.seq d.station d.record.cycle d.record.verdict d.pos := by
  obtain ⟨n, lt⟩ := a
  subst own
  exact dif_pos ⟨master, lt⟩

/-- The queue once a DOSE report has been created, where the tracker does not take it. -/
def ReportQueue.dosed (q : ReportQueue) (r : DoseRecord) (station : Nat) (pos : Pos) : ReportQueue :=
  if q.prioOf .dose = 0 then q
  else
    ({ q with doseSeq := (q.doseSeq + 1) % 65536 } : ReportQueue).place
      { prio := q.prioOf .dose, body := .dose ⟨r, station, pos, q.doseSeq⟩ }

/-- The dose sequence is counted up as a DOSE report is created (R166). -/
def State.numbered (s : State) : State :=
  { s with reports := { s.reports with doseSeq := (s.reports.doseSeq + 1) % 65536 } }

/-- A report is placed in the queue. -/
def State.placed (s : State) (r : Report) : State := { s with reports := s.reports.place r }

theorem State.createDose_eq (some_ : s.reports.prioOf .dose ≠ 0) (r : DoseRecord) (station : Nat) (pos : Pos) :
    s.createDose r station pos =
      if s.arbiter.trackerFirst then
        (s.numbered.takeOwn ⟨r, station, pos, s.reports.doseSeq⟩).placed
          ⟨s.reports.prioOf .dose, .dose ⟨r, station, pos, s.reports.doseSeq⟩⟩
      else
        (s.numbered.placed ⟨s.reports.prioOf .dose, .dose ⟨r, station, pos, s.reports.doseSeq⟩⟩).takeOwn
          ⟨r, station, pos, s.reports.doseSeq⟩ := if_neg some_

theorem State.createDose_quiet (absent : s.discharge.master = false) (r : DoseRecord) (station : Nat) (pos : Pos) :
    s.createDose r station pos = { s with reports := s.reports.dosed r station pos } := by
  unfold ReportQueue.dosed
  by_cases zero : s.reports.prioOf .dose = 0
  · rw [State.createDose_silent zero, if_pos zero]
  · rw [State.createDose_eq zero, if_neg zero, State.takeOwn_absent (s := s.numbered) absent,
      State.takeOwn_absent (s := s.numbered.placed _) absent, ite_self]
    rfl

/-- Where the tracker takes no report, emission leaves all but the report queue and the record as it was. -/
theorem State.emit_quiet (absent : s.discharge.master = false) (some_ : (s.head h).record = some r) (pos : Pos) :
    s.emit h pos =
      ({ s with reports := s.reports.dosed r (s.station h) pos } : State).setHead h { s.head h with record := none } := by
  rw [State.emit_some some_, State.createDose_quiet absent]
  rfl

/-! ### The crossing of Θs (R49) -/

theorem State.seatWindowEnd_other (no : (s.head h).state ≠ .seating) : s.seatWindowEnd h = s := if_neg no

theorem State.seatWindowEnd_seating (seating : (s.head h).state = .seating) :
    s.seatWindowEnd h = s.giveUpSeating h .empty none := if_pos seating

/-! ### The crossing of Θd, state by state (R61) -/

theorem State.dischargeCrossing_rides (rides : (s.head h).state = .done ∨ (s.head h).state = .emptyPass) (pos : Pos) :
    s.dischargeCrossing h pos = s.rideOut h pos := by
  unfold State.dischargeCrossing
  rcases rides with e | e
  · rw [e]
  · rw [e]

theorem State.dischargeCrossing_closing
    (closing : (s.head h).state = .aborting ∨ (s.head h).state = .forced ∨ (s.head h).state = .lockout) (pos : Pos) :
    s.dischargeCrossing h pos = s.emit h pos := by
  unfold State.dischargeCrossing
  rcases closing with e | e | e
  · rw [e]
  · rw [e]
  · rw [e]

theorem State.dischargeCrossing_seating (seating : (s.head h).state = .seating) (pos : Pos) :
    s.dischargeCrossing h pos = (s.seatWindowEnd h).rideOut h pos := by
  unfold State.dischargeCrossing
  rw [seating]

theorem State.dischargeCrossing_running (running : (s.head h).state = .running) (pos : Pos) :
    s.dischargeCrossing h pos = s.forcedDischarge h pos := by
  unfold State.dischargeCrossing
  rw [running]

theorem State.dischargeCrossing_away (away : (s.head h).state = .idle ∨ (s.head h).state = .off) (pos : Pos) :
    s.dischargeCrossing h pos = s := by
  unfold State.dischargeCrossing
  rcases away with e | e
  · rw [e]
  · rw [e]

/-! ### A head found RUNNING at its discharge (R61) -/

/-- The context of a head found RUNNING at its discharge, before its record is emitted, but for the Scanner's fields. -/
def Head.dischargeForced (c : Head) (act : Action) : Head :=
  (({ c with lastFault := some .deadlineDischarge, hold := c.hold || act == .hold, pin := none } : Head).forcedClosed
    ).withRecord .aborted none c.pin

/-- The state of a RUNNING head at its discharge once the fault is taken and the snapshot pushed. -/
def State.dischargeRaised (s : State) (h : HeadId) : State :=
  ((s.takeHeadRaise h .deadlineDischarge).pushSnapshot h .deadlineDischarge).updHead h fun c =>
    { c with hold := c.hold || (s.record .deadline).action == .hold }

theorem State.dischargeRaised_head (s : State) (h : HeadId) :
    (s.dischargeRaised h).head h =
      { s.head h with
        lastFault := some .deadlineDischarge, hold := (s.head h).hold || (s.record .deadline).action == .hold } := by
  unfold State.dischargeRaised
  rw [State.head_updHead, State.pushSnapshot_head, State.takeHeadRaise_head]

/-- A head taken from RUNNING to FORCED at its discharge, with its record made and not yet emitted. -/
def State.dischargeForced (s : State) (h : HeadId) : State :=
  (((s.dischargeRaised h).releasePin h).enterForced h).updHead h fun c => c.withRecord .aborted none (s.head h).pin

/-- What taking a RUNNING head to FORCED at its discharge leaves as the raise found it. -/
theorem State.dischargeForced_kept (s : State) (h : HeadId) :
    (s.dischargeForced h).faults = (s.dischargeRaised h).faults ∧
      (s.dischargeForced h).reports = (s.dischargeRaised h).reports := by
  unfold State.dischargeForced
  rw [State.updHead_faults, State.updHead_reports, State.enterForced_faults, State.enterForced_reports,
    State.releasePin_faults, State.releasePin_reports]
  exact ⟨rfl, rfl⟩

theorem State.dischargeRaised_kept (s : State) (h : HeadId) :
    (s.dischargeRaised h).faults = ((s.takeHeadRaise h .deadlineDischarge).pushSnapshot h .deadlineDischarge).faults ∧
      (s.dischargeRaised h).reports = s.reports.create (s.faultReport .deadlineDischarge (some (s.station h)) none) ∧
      (s.dischargeRaised h).scanner = s.scanner := by
  have reports := State.pushSnapshot_reports (s.takeHeadRaise h .deadlineDischarge) h .deadlineDischarge
  have scanner := State.pushSnapshot_scanner (s.takeHeadRaise h .deadlineDischarge) h .deadlineDischarge
  exact ⟨rfl, reports.trans (s.latchReport_reports .deadlineDischarge (some (s.station h)) none), scanner⟩

theorem State.forcedDischarge_eq (s : State) (h : HeadId) (pos : Pos) :
    s.forcedDischarge h pos =
      ((s.dischargeForced h).emit h pos).afterHeadRaise .deadlineDischarge (s.record .deadline).action := by
  have pin : ((s.dischargeRaised h).head h).pin = (s.head h).pin := by rw [State.dischargeRaised_head]
  unfold State.dischargeForced
  rw [← pin]
  rfl

theorem Head.withRecord_congr {c d : Head} (e : c.butScan = d.butScan) (v : Verdict) (skip : Option SkipReason)
    (p : Option Pin) : (c.withRecord v skip p).butScan = (d.withRecord v skip p).butScan := by
  rw [← Head.withRecord_butScan c, e, Head.withRecord_butScan d]

theorem State.dischargeForced_head (s : State) (h : HeadId) :
    ((s.dischargeForced h).head h).butScan = ((s.head h).dischargeForced (s.record .deadline).action).butScan := by
  unfold State.dischargeForced
  rw [State.head_updHead]
  refine Head.withRecord_congr ((State.enterForced_self _ h).trans ?_) _ _ _
  rw [State.releasePin_head_self, State.dischargeRaised_head]

theorem State.dischargeForced_other (s : State) (ne : g ≠ h) : s.Spares (s.dischargeForced h) g := by
  have raised : s.Spares (s.dischargeRaised h) g :=
    ((s.takeHeadRaise_spares .deadlineDischarge ne).trans (State.pushSnapshot_spares _ g h _)).trans
      (State.updHead_spares _ ne _)
  have released : (s.dischargeRaised h).Spares ((s.dischargeRaised h).releasePin h) g := State.releasePin_spares _ ne
  have forced := State.enterForced_other ((s.dischargeRaised h).releasePin h) ne
  exact ((raised.trans released).trans forced).trans (State.updHead_spares _ ne _)

theorem State.dischargeForced_faults (s : State) (h : HeadId) :
    (s.dischargeForced h).faults =
      ((s.takeHeadRaise h .deadlineDischarge).pushSnapshot h .deadlineDischarge).faults :=
  (s.dischargeForced_kept h).1.trans (s.dischargeRaised_kept h).1

theorem State.dischargeForced_reports (s : State) (h : HeadId) :
    (s.dischargeForced h).reports =
      s.reports.create (s.faultReport .deadlineDischarge (some (s.station h)) none) :=
  (s.dischargeForced_kept h).2.trans (s.dischargeRaised_kept h).2.1

theorem State.dischargeForced_record (s : State) (h : HeadId) (c : FaultClass) :
    (s.dischargeForced h).record c =
      if c = .deadline then
        { s.record c with latched := true, lastCause := some .deadlineDischarge, lastStation := some (s.station h) }
      else s.record c := by
  rw [State.record_congr (congrArg FaultUnit.records (s.dischargeForced_faults h)), State.pushSnapshot_record]
  exact s.latchReport_record .deadlineDischarge (some (s.station h)) none c

theorem State.dischargeForced_unsent (busy : s.scanner.inFlight ≠ none) (h : HeadId) :
    (s.dischargeForced h).scanner.inFlight ≠ none ∧ ((s.dischargeForced h).head h).scan.forcedUnsent = true := by
  have scanner : ((s.dischargeRaised h).releasePin h).scanner = s.scanner :=
    (State.releasePin_scanner (s.dischargeRaised h) h).trans (s.dischargeRaised_kept h).2.2
  obtain ⟨still, unsent⟩ := State.enterForced_unsent (s := (s.dischargeRaised h).releasePin h) (by rwa [scanner]) h
  have kept : ∀ (c : Head) v r p, (c.withRecord v r p).scan = c.scan := fun c v r p => by
    unfold Head.withRecord
    split <;> rfl
  unfold State.dischargeForced
  rw [State.updHead_scanner, State.head_updHead, kept]
  exact ⟨still, unsent⟩

theorem Head.dischargeForced_fields (c : Head) (act : Action) :
    (c.dischargeForced act).state = .forced ∧ (c.dischargeForced act).level = 2 ∧
      (c.dischargeForced act).valves = .venting ∧ (c.dischargeForced act).arm = none ∧
      (c.dischargeForced act).pin = none ∧ (c.dischargeForced act).withdraw = c.withdraw ∧
      (c.dischargeForced act).clean = c.clean := by
  unfold Head.dischargeForced
  rw [Head.withRecord_state, Head.withRecord_level, Head.withRecord_valves, Head.withRecord_arm, Head.withRecord_pin,
    Head.withRecord_withdraw, Head.withRecord_clean]
  exact ⟨rfl, rfl, rfl, rfl, rfl, rfl, rfl⟩

theorem Head.dischargeForced_record (c : Head) (act : Action) : ∃ r, (c.dischargeForced act).record = some r := by
  unfold Head.dischargeForced Head.withRecord
  split
  · next e => exact Option.isSome_iff_exists.mp e
  · exact ⟨_, rfl⟩

theorem Head.dischargeForced_new {c : Head} (none_ : c.record = none) (act : Action) :
    (c.dischargeForced act).record =
      some
        { verdict := .aborted, skip := none, cycle := c.cycle, pin := c.pin, liquid := c.liquidVolume
          syrup := c.syrupVolume, estimate := c.meter.estimateUsed, observed := none, fault := some .deadlineDischarge
          completed := c.segIndex } := by
  unfold Head.dischargeForced
  rw [Head.withRecord_new]
  · rfl
  · exact none_

theorem State.dischargeForced_fields (s : State) (h : HeadId) :
    ((s.dischargeForced h).head h).state = .forced ∧ ((s.dischargeForced h).head h).record ≠ none := by
  have head := s.dischargeForced_head h
  obtain ⟨r, record⟩ := (s.head h).dischargeForced_record (s.record .deadline).action
  refine ⟨(Head.fields_of_butScan head).1.trans (Head.dischargeForced_fields _ _).1, ?_⟩
  rw [(Head.fields_of_butScan head).2.2.2.2.2.2.2, record]
  exact Option.some_ne_none r

theorem Head.abortable_of_forced {c : Head} (forced : c.state = .forced) : c.abortable = false := by
  unfold Head.abortable
  rw [forced]
  rfl

/-- Emission leaves a head that is neither RUNNING nor SEATING in its state, without a record. -/
theorem State.emit_self (left : (s.head h).abortable = false) (pos : Pos) :
    ((s.emit h pos).head h).butScan = ({ s.head h with record := none } : Head).butScan ∧
      (s.scanner.inFlight ≠ none →
        (s.emit h pos).scanner.inFlight ≠ none ∧ ((s.emit h pos).head h).scan = (s.head h).scan) := by
  cases e : (s.head h).record with
  | none =>
    rw [State.emit_none e]
    refine ⟨?_, fun busy => ⟨busy, rfl⟩⟩
    rw [← e]
  | some r =>
    have spared := State.createDose_unreached left r (s.station h) pos
    rw [State.emit_some e, State.head_updHead]
    exact ⟨congrArg (fun c : Head => { c with record := none }) spared.head,
      fun busy => ⟨(spared.busy busy).1, by rw [(spared.busy busy).2]⟩⟩

theorem State.emit_state (left : (s.head h).abortable = false) (pos : Pos) :
    ((s.emit h pos).head h).state = (s.head h).state :=
  (Head.fields_of_butScan (State.emit_self left pos).1).1

/-- A head found RUNNING at its discharge, once all is done, but for the Scanner's fields. -/
theorem State.forcedDischarge_self (s : State) (h : HeadId) (pos : Pos) :
    ((s.forcedDischarge h pos).head h).butScan =
        ({ (s.head h).dischargeForced (s.record .deadline).action with record := none } : Head).butScan ∧
      (s.scanner.inFlight ≠ none → ((s.forcedDischarge h pos).head h).scan.forcedUnsent = true) := by
  have forced := (s.dischargeForced_fields h).1
  obtain ⟨emitted, busy⟩ := State.emit_self (Head.abortable_of_forced forced) pos
  have state : (((s.dischargeForced h).emit h pos).head h).state = .forced :=
    (State.emit_state (Head.abortable_of_forced forced) pos).trans forced
  have after := State.afterHeadRaise_unreached (k := .deadlineDischarge) (act := (s.record .deadline).action)
    (Head.abortable_of_forced state)
  rw [State.forcedDischarge_eq]
  refine ⟨after.head.trans (emitted.trans ?_), fun flight => ?_⟩
  · exact congrArg (fun c : Head => { c with record := none }) (s.dischargeForced_head h)
  · obtain ⟨still, unsent⟩ := State.dischargeForced_unsent flight h
    obtain ⟨still', scan⟩ := busy still
    rw [(after.busy still').2, scan, unsent]

/-! ### What follows a crossing of Θd (R47) -/

theorem State.rideOut_state (s : State) (h : HeadId) (pos : Pos) :
    ((s.rideOut h pos).head h).state = .off ∨ ((s.rideOut h pos).head h).state = .idle := by
  unfold State.rideOut
  dsimp only
  split
  · rw [State.enterOff_head, if_pos rfl]
    exact Or.inl rfl
  · rw [State.changeState_head_self]
    exact Or.inr rfl

/-- After its discharge crossing a head is not on its way to one. -/
theorem State.dischargeCrossing_still (s : State) (h : HeadId) (pos : Pos) :
    ((s.dischargeCrossing h pos).head h).state ≠ .seating ∧ ((s.dischargeCrossing h pos).head h).state ≠ .running ∧
      ((s.dischargeCrossing h pos).head h).state ≠ .done ∧ ((s.dischargeCrossing h pos).head h).state ≠ .emptyPass := by
  have ridden : ∀ u : State, ((u.rideOut h pos).head h).state ≠ .seating ∧ ((u.rideOut h pos).head h).state ≠ .running ∧
      ((u.rideOut h pos).head h).state ≠ .done ∧ ((u.rideOut h pos).head h).state ≠ .emptyPass := fun u => by
    rcases u.rideOut_state h pos with e | e
    · rw [e]; decide
    · rw [e]; decide
  have left : ∀ c : Head, c.state = .aborting ∨ c.state = .forced ∨ c.state = .lockout → c.abortable = false := by
    rintro c (e | e | e)
    all_goals
      unfold Head.abortable
      rw [e]
      rfl
  cases e : (s.head h).state with
  | done => rw [State.dischargeCrossing_rides (Or.inl e)]; exact ridden s
  | emptyPass => rw [State.dischargeCrossing_rides (Or.inr e)]; exact ridden s
  | seating => rw [State.dischargeCrossing_seating e]; exact ridden _
  | running =>
    rw [State.dischargeCrossing_running e, (Head.fields_of_butScan (s.forcedDischarge_self h pos).1).1,
      (Head.dischargeForced_fields _ _).1]
    decide
  | idle => rw [State.dischargeCrossing_away (Or.inl e), e]; decide
  | off => rw [State.dischargeCrossing_away (Or.inr e), e]; decide
  | aborting =>
    rw [State.dischargeCrossing_closing (Or.inl e), State.emit_state (left _ (Or.inl e)), e]
    decide
  | forced =>
    rw [State.dischargeCrossing_closing (Or.inr (Or.inl e)), State.emit_state (left _ (Or.inr (Or.inl e))), e]
    decide
  | lockout =>
    rw [State.dischargeCrossing_closing (Or.inr (Or.inr e)), State.emit_state (left _ (Or.inr (Or.inr e))), e]
    decide

end

/-- Settles O48. -/
theorem crossingsByState : Obligations.CrossingsByState := by
  refine ⟨?_, ?_⟩
  · intro s h pos c closing riding passed
    have still : closing → s.infeedCrossing h pos = s.atInfeed h := fun e => by
      refine State.infeedCrossing_still ?_ pos
      rcases e with e | e | e
      all_goals
        rw [show (s.head h).state = _ from e]
        decide
    refine ⟨fun e => State.dischargeCrossing_closing e pos, fun e => ?_, fun e outside => ?_,
      fun e production pending => ?_, fun e production none_ => ?_, fun e => ?_, fun none_ => State.emit_none none_ pos,
      fun r some_ => State.emit_some some_ pos⟩
    · rw [State.dischargeCrossing_seating e, State.dischargeCrossing_rides (Or.inr (State.seatWindowEnd_state e))]
    · rw [still e]
      exact State.atInfeed_outside outside
    · rw [still e, State.atInfeed_closing production e, Head.passInfeed_pending (c := (s.head h).cleared) pending]
      rfl
    · rw [still e, State.atInfeed_closing production e, Head.passInfeed_new (c := (s.head h).cleared) none_]
      rfl
    · rw [State.infeedCrossing_riding e, State.infeedCrossing_still (State.dischargeCrossing_still _ h pos)]
  · intro s r station pos t numbered place
    refine ⟨fun zero => State.createDose_silent zero r station pos, fun some_ absent => ?_,
      fun a some_ master own => ?_⟩
    · refine (State.createDose_quiet absent r station pos).trans ?_
      unfold ReportQueue.dosed
      rw [if_neg some_]
    · refine (State.createDose_eq some_ r station pos).trans ?_
      rw [State.takeOwn_master (s := s.numbered) master a own,
        State.takeOwn_master (s := s.numbered.placed _) master a own]
      rfl

end Sys2Proof.Machine

/-! PROOFS. The angles of a head with no segment of its own, and what its discharge reports (R15 to R17, R60, R61). -/

namespace Sys2Proof.Machine

section
set_option Elab.async false
variable {s t u : State} {h g : HeadId} {pos : Pos} {r : DoseRecord} {k : Cause} {a : Nat}

/-! ### The boundaries of a head that is not RUNNING (R15, R16) -/

theorem Head.inPhase_of_not_running {c : Head} (no : c.state ≠ .running) (p : Phase) : c.inPhase p = false := by
  unfold Head.inPhase
  rw [beq_eq_false_iff_ne.mpr no, Bool.false_and]

theorem State.pendingTest_still (no : (s.head h).state ≠ .running) (θ : Option Nat) : s.pendingTest h θ = s := by
  unfold State.pendingTest
  rw [Head.inPhase_of_not_running no, if_neg (by decide)]

theorem State.takeBoundary_absent (s : State) (h : HeadId) (a : Nat) (f : State → State) :
    s.takeBoundary h a false f = s := rfl

theorem State.takeBoundary_event (live : (s.head h).state ≠ .off) (clean : (s.head h).clean = true) (a : Nat)
    (f : State → State) (after : ((f s).head h).state ≠ .running) : s.takeBoundary h a true f = f s := by
  unfold State.takeBoundary State.headEvent
  rw [if_pos rfl, if_neg live, if_pos clean]
  exact State.pendingTest_still after _

theorem State.regionCrossing_still (no : (s.head h).state ≠ .running) (a : Nat) : s.regionCrossing h a = s := by
  unfold State.regionCrossing
  rw [Head.inPhase_of_not_running no, if_neg (by decide)]

theorem Head.noBoundaries {c : Head} (no : c.state ≠ .running) (s : State) (a : Nat) :
    c.angleEndAt a = false ∧ s.deadlineAt c a = false ∧ s.startPointAt c a = false ∧ c.rampPointAt a = false := by
  unfold Head.angleEndAt State.deadlineAt State.startPointAt Head.rampPointAt
  dsimp only
  rw [Head.inPhase_of_not_running no, Head.inPhase_of_not_running no, beq_eq_false_iff_ne.mpr no]
  exact ⟨rfl, rfl, rfl, rfl⟩

/-- A head that is not RUNNING meets Θs, Θd and the infeed alone. -/
theorem State.takeAngle_still (live : (s.head h).state ≠ .off) (no : (s.head h).state ≠ .running)
    (clean : (s.head h).clean = true) (a : Nat) (pos : Pos) :
    s.takeAngle h a pos =
      ((s.takeBoundary h a (setAngleAt s.zones.seatEnd a) fun s => s.seatWindowEnd h).takeBoundary h a
        (setAngleAt
          (s.takeBoundary h a (setAngleAt s.zones.seatEnd a) fun s => s.seatWindowEnd h).zones.dischargeAngle a)
        fun s => s.dischargeCrossing h pos).takeBoundary h a (a == 0) fun s => s.infeedCrossing h pos := by
  have region : ∀ b, s.takeBoundary h a b (fun s => s.regionCrossing h a) = s := by
    intro b
    cases b with
    | false => rfl
    | true =>
      have still := State.regionCrossing_still no a
      rw [State.takeBoundary_event live clean a _ (by rw [still]; exact no), still]
  obtain ⟨angle, deadline, start, ramp⟩ := Head.noBoundaries no s a
  unfold State.takeAngle
  dsimp only
  rw [region, angle, deadline, start, ramp]
  rfl

theorem State.giveUpSeating_keeps (s : State) (h : HeadId) (v : Verdict) (k : Option SkipReason) :
    s.Keeps (s.giveUpSeating h v k) := Keeps.giveUpSeating (.refl s) h v k

theorem setAngleAt_iff (item a : Nat) : setAngleAt item a = true ↔ item ≠ 0 ∧ item = a := by
  unfold setAngleAt
  rw [Bool.and_eq_true, bne_iff_ne, beq_iff_eq]

/-- The state of a head after its infeed is not RUNNING where it was not before. -/
theorem State.atInfeed_not_running (still : (s.head h).state ≠ .seating ∧ (s.head h).state ≠ .running ∧
      (s.head h).state ≠ .done ∧ (s.head h).state ≠ .emptyPass) : ((s.atInfeed h).head h).state ≠ .running := by
  obtain ⟨seating, running, done, empty⟩ := still
  have same : ∀ d : Head, d.state = (s.head h).state → s.atInfeed h = s.setHead h d →
      ((s.atInfeed h).head h).state ≠ .running := fun d state e => by
    rw [e, State.head_setHead, state]
    exact running
  by_cases production : s.faults.mode = .production
  · by_cases idle : (s.head h).state = .idle
    · rcases State.atInfeed_begins production idle with ⟨r, e⟩ | ⟨j, e⟩
      · rw [e, State.skipCycle_head, Head.withRecord_state]
        exact fun no => by cases no
      · rw [e, State.seated_head]
        exact fun no => by cases no
    · by_cases closing : (s.head h).state = .aborting ∨ (s.head h).state = .forced ∨ (s.head h).state = .lockout
      · exact same ((s.head h).cleared.passInfeed _) (Head.passInfeed_alike (s.head h).cleared _).state
          (State.atInfeed_closing production closing)
      · refine same (s.head h).cleared rfl ?_
        have first : ((s.setHead h (s.head h).cleared).head h).state = (s.head h).state := by
          rw [State.head_setHead]; rfl
        unfold State.atInfeed
        refine (if_pos production).trans ?_
        split
        · next e => exact absurd (first.symm.trans e) idle
        · next e => exact absurd (Or.inl (first.symm.trans e)) closing
        · next e => exact absurd (Or.inr (Or.inl (first.symm.trans e))) closing
        · next e => exact absurd (Or.inr (Or.inr (first.symm.trans e))) closing
        · rfl
  · exact same (s.head h).cleared rfl (State.atInfeed_outside production)

theorem State.infeedCrossing_not_running (s : State) (h : HeadId) (pos : Pos) :
    ((s.infeedCrossing h pos).head h).state ≠ .running := by
  by_cases riding : (s.head h).state = .seating ∨ (s.head h).state = .running ∨ (s.head h).state = .done ∨
      (s.head h).state = .emptyPass
  · rw [State.infeedCrossing_riding riding]
    exact State.atInfeed_not_running (State.dischargeCrossing_still _ h pos)
  · have still : (s.head h).state ≠ .seating ∧ (s.head h).state ≠ .running ∧ (s.head h).state ≠ .done ∧
        (s.head h).state ≠ .emptyPass := by
      simpa only [not_or] using riding
    rw [State.infeedCrossing_still still]
    exact State.atInfeed_not_running still

/-- The angles of a head with no segment of its own (R15 to R17). -/
theorem State.takeAngle_idle (clean : (s.head h).clean = true) (live : (s.head h).state ≠ .off)
    (no : (s.head h).state ≠ .running) (seat : s.zones.seatEnd ≠ 0) (before : s.zones.seatEnd < s.zones.dischargeAngle)
    (a : Nat) (pos : Pos) :
    s.takeAngle h a pos =
      if a = 0 then s.infeedCrossing h pos
      else if a = s.zones.seatEnd then s.seatWindowEnd h
      else if a = s.zones.dischargeAngle then s.dischargeCrossing h pos
      else s := by
  have left : ((s.seatWindowEnd h).head h).state ≠ .running := by
    by_cases seating : (s.head h).state = .seating
    · rw [State.seatWindowEnd_state seating]
      decide
    · rw [State.seatWindowEnd_other seating]
      exact no
  have zones : (s.seatWindowEnd h).zones = s.zones := (Keeps.seatWindowEnd (.refl s) h).zones
  have at_ : ∀ item, setAngleAt item a = decide (item ≠ 0 ∧ item = a) := fun item => by
    rw [Bool.eq_iff_iff, decide_eq_true_iff]
    exact setAngleAt_iff item a
  rw [State.takeAngle_still live no clean]
  by_cases zero : a = 0
  · subst zero
    have absent : ∀ item, setAngleAt item 0 = false := fun item => by
      rw [Bool.eq_false_iff]
      exact fun e => absurd ((setAngleAt_iff item 0).mp e).2 ((setAngleAt_iff item 0).mp e).1
    rw [absent, State.takeBoundary_absent, absent, State.takeBoundary_absent, if_pos rfl]
    exact State.takeBoundary_event live clean 0 _ (State.infeedCrossing_not_running s h pos)
  have infeed : (a == 0) = false := beq_eq_false_iff_ne.mpr zero
  rw [infeed, State.takeBoundary_absent, if_neg zero]
  by_cases first : a = s.zones.seatEnd
  · have seats : setAngleAt s.zones.seatEnd a = true := (setAngleAt_iff _ _).mpr ⟨seat, first.symm⟩
    have later : setAngleAt s.zones.dischargeAngle a = false := by
      rw [Bool.eq_false_iff]
      intro e
      have := ((setAngleAt_iff _ _).mp e).2
      omega
    rw [seats, State.takeBoundary_event live clean a (fun s => s.seatWindowEnd h) left, zones, later, State.takeBoundary_absent, if_pos first]
  · have seats : setAngleAt s.zones.seatEnd a = false := by
      rw [Bool.eq_false_iff]
      exact fun e => first ((setAngleAt_iff _ _).mp e).2.symm
    rw [seats, State.takeBoundary_absent, if_neg first]
    by_cases last : a = s.zones.dischargeAngle
    · have leaves : setAngleAt s.zones.dischargeAngle a = true := (setAngleAt_iff _ _).mpr ⟨by omega, last.symm⟩
      rw [leaves, State.takeBoundary_event live clean a (fun s => s.dischargeCrossing h pos) (State.dischargeCrossing_still s h pos).2.1, if_pos last]
    · have leaves : setAngleAt s.zones.dischargeAngle a = false := by
        rw [Bool.eq_false_iff]
        exact fun e => last ((setAngleAt_iff _ _).mp e).2.symm
      rw [leaves, State.takeBoundary_absent, if_neg last]

/-! ### The classes through an emission -/

/-- The DEADLINE class is the cause of no raise of the tracker, and no parity error touches it. -/
theorem FaultClass.deadline_untouched : ¬FaultClass.deadline.parityTouched := by simp [FaultClass.parityTouched]

theorem State.takeDose_record {c : FaultClass} (untouched : ¬c.parityTouched)
    (gap : c ≠ Cause.rejectGap.cls) (late : c ≠ Cause.rejectLate.cls) (full : c ≠ Cause.rejectFull.cls) (a : Fin 15)
    (seq station cycle : Nat) (v : Verdict) (pos : Pos) : (s.takeDose a seq station cycle v pos).record c = s.record c := by
  have raised : ∀ (u : State) (k : Cause) (x y : Option Nat), c ≠ k.cls → (u.raisePart k x y).record c = u.record c :=
    fun u k x y ne => (State.raisePart_record untouched k x y).trans (if_neg ne)
  have scheduled : ∀ (u : State) (e : RejectEntry), (u.schedule e).record c = u.record c := by
    intro u e
    unfold State.schedule
    split
    · exact raised _ _ _ _ late
    · split
      · exact raised _ _ _ _ full
      · rfl
  unfold State.takeDose
  split
  · rfl
  · dsimp only
    have told : (if s.discharge.gap a seq then s.raisePart .rejectGap (some station) none else s).record c =
        s.record c := by
      split
      · exact raised _ _ _ _ gap
      · rfl
    split
    · exact (scheduled _ _).trans told
    · exact told

theorem State.createDose_record {c : FaultClass} (untouched : ¬c.parityTouched)
    (gap : c ≠ Cause.rejectGap.cls) (late : c ≠ Cause.rejectLate.cls) (full : c ≠ Cause.rejectFull.cls)
    (r : DoseRecord) (station : Nat) (pos : Pos) : (s.createDose r station pos).record c = s.record c := by
  have own : ∀ (u : State) (d : DoseReport), (u.takeOwn d).record c = u.record c := by
    intro u d
    unfold State.takeOwn
    split
    · exact State.takeDose_record untouched gap late full _ _ _ _ _ _
    · rfl
  by_cases zero : s.reports.prioOf .dose = 0
  · rw [State.createDose_silent zero]
  · rw [State.createDose_eq zero]
    split
    · exact own s.numbered _
    · exact own (s.numbered.placed _) _

theorem State.emit_record_deadline (s : State) (h : HeadId) (pos : Pos) :
    (s.emit h pos).record .deadline = s.record .deadline := by
  cases e : (s.head h).record with
  | none => rw [State.emit_none e]
  | some r =>
    rw [State.emit_some e]
    exact State.createDose_record FaultClass.deadline_untouched (by decide) (by decide) (by decide) r _ pos

/-- Under STOP the class of a head-scoped raise joins the stop-cause set, whatever the contexts. -/
theorem State.afterHeadRaise_joins (untouched : ¬k.cls.parityTouched) :
    ((s.afterHeadRaise k .stop).record k.cls).inStop = true := by
  rw [State.afterHeadRaise_eq, State.checkLockout_record untouched, State.headStopped_stop,
    State.enterSafe_record untouched, State.addStop_inStop, if_pos rfl]

/-! ### The report queue through a discharge -/

theorem ReportQueue.create_doseSeq (q : ReportQueue) (b : ReportBody) : (q.create b).doseSeq = q.doseSeq := by
  unfold ReportQueue.create
  split
  · rfl
  · exact ReportQueue.place_doseSeq _ _

theorem ReportQueue.create_prioOf (q : ReportQueue) (b : ReportBody) (kind : ReportKind) :
    (q.create b).prioOf kind = q.prioOf kind := by
  unfold ReportQueue.prioOf ReportQueue.create
  split
  · rfl
  · simp only [ReportQueue.place_prios]

theorem ReportQueue.dosed_create (q : ReportQueue) (b : ReportBody) (r : DoseRecord) (station : Nat) (pos : Pos) :
    (q.create b).dosed r station pos =
      if q.prioOf .dose = 0 then q.create b
      else
        ({ q.create b with doseSeq := (q.doseSeq + 1) % 65536 } : ReportQueue).place
          { prio := q.prioOf .dose, body := .dose ⟨r, station, pos, q.doseSeq⟩ } := by
  unfold ReportQueue.dosed
  rw [ReportQueue.create_prioOf, ReportQueue.create_doseSeq]

/-! ### A ride out (R61) -/

/-- Where the tracker takes no report, a ride out emits the record and leaves the head in IDLE, or OFF under a
withdraw. -/
theorem State.rideOut_quiet (absent : s.discharge.master = false) (some_ : (s.head h).record = some r) (pos : Pos) :
    ((s.rideOut h pos).head h).record = none ∧
      ((s.rideOut h pos).head h).state = (if (s.head h).withdraw then .off else .idle) ∧
      (∀ g, g ≠ h → (s.rideOut h pos).head g = s.head g) ∧ (s.rideOut h pos).faults = s.faults ∧
      (s.rideOut h pos).store = s.store ∧ (s.rideOut h pos).reports = s.reports.dosed r (s.station h) pos := by
  let u : State := ({ s with reports := s.reports.dosed r (s.station h) pos } : State).setHead h
    { s.head h with record := none }
  have emitted : s.emit h pos = u := State.emit_quiet absent some_ pos
  have head : u.head h = { s.head h with record := none } := State.head_setHead _ _ _
  have other : ∀ g, g ≠ h → u.head g = s.head g := fun g ne => State.head_setHead_ne _ _ ne
  unfold State.rideOut
  dsimp only
  rw [emitted, head]
  cases withdraw : (s.head h).withdraw with
  | true =>
    rw [if_pos rfl]
    refine ⟨?_, ?_, fun g ne => ?_, ?_, ?_, ?_⟩
    · rw [State.enterOff_head, if_pos rfl]; rfl
    · rw [State.enterOff_head, if_pos rfl]; rfl
    · rw [State.enterOff_head, if_neg ne, other g ne]
    · rw [State.enterOff_faults]; rfl
    · rw [State.enterOff_store]; rfl
    · rw [State.enterOff_reports]; rfl
  | false =>
    rw [if_neg (by decide)]
    refine ⟨?_, ?_, fun g ne => ?_, ?_, ?_, ?_⟩
    · rw [State.changeState_head_self, head]
    · rw [State.changeState_head_self]; rfl
    · rw [State.changeState_head_ne _ _ ne, other g ne]
    · rw [State.changeState_faults]; rfl
    · rw [State.changeState_store]; rfl
    · rw [State.changeState_reports]; rfl

/-! ### The reports of a forced discharge -/

theorem State.dischargeForced_keeps (s : State) (h : HeadId) : s.Keeps (s.dischargeForced h) := by
  have raised : s.Keeps (s.dischargeRaised h) :=
    Keeps.updHead (Keeps.pushSnapshot (Keeps.updHead (Keeps.latchReport (.refl s) _ _ _) h _) h _) h _
  exact Keeps.updHead (Keeps.enterForced (Keeps.releasePin raised h) h) h _

theorem State.dischargeForced_mode (s : State) (h : HeadId) :
    (s.dischargeForced h).faults.mode = s.faults.mode := by
  rw [s.dischargeForced_faults, State.pushSnapshot_mode]
  rfl

theorem State.dischargeForced_limit (s : State) (h : HeadId) :
    (s.dischargeForced h).faults.lockoutLimit = s.faults.lockoutLimit := (s.dischargeForced_keeps h).lockoutLimit

/-- The record that a RUNNING head emits at its discharge. -/
def Head.dischargeRecord (c : Head) : DoseRecord :=
  { verdict := .aborted, skip := none, cycle := c.cycle, pin := c.pin, liquid := c.liquidVolume
    syrup := c.syrupVolume, estimate := c.meter.estimateUsed, observed := none, fault := some .deadlineDischarge
    completed := c.segIndex }

/-- The FAULT report of a discharge found RUNNING, then its DOSE report. -/
def State.dischargeReports (s : State) (h : HeadId) (pos : Pos) : ReportQueue :=
  (s.reports.create (s.faultReport .deadlineDischarge (some (s.station h)) none)).dosed
    (s.head h).dischargeRecord (s.station h) pos

/-- A state with another report queue. -/
def State.withReports (s : State) (q : ReportQueue) : State := { s with reports := q }

theorem State.withReports_head (s : State) (q : ReportQueue) (g : HeadId) : (s.withReports q).head g = s.head g := rfl

theorem State.withReports_setHead (s : State) (q : ReportQueue) (h : HeadId) (c : Head) :
    ((s.withReports q).setHead h c).reports = q ∧ ((s.withReports q).setHead h c).faults = s.faults := ⟨rfl, rfl⟩

/-- Where the tracker takes no report, the emission that ends a discharge found RUNNING. -/
theorem State.dischargeEmitted (none_ : (s.head h).record = none) (absent : s.discharge.master = false) (pos : Pos) :
    (s.dischargeForced h).emit h pos =
      ((s.dischargeForced h).withReports (s.dischargeReports h pos)).setHead h
        { (s.dischargeForced h).head h with record := none } := by
  have record : ((s.dischargeForced h).head h).record = some (s.head h).dischargeRecord :=
    ((Head.fields_of_butScan (s.dischargeForced_head h)).2.2.2.2.2.2.2).trans (Head.dischargeForced_new none_ _)
  have master : (s.dischargeForced h).discharge.master = false := by rw [(s.dischargeForced_keeps h).master, absent]
  have station : (s.dischargeForced h).station h = s.station h := by
    unfold State.station
    rw [(s.dischargeForced_keeps h).management]
  rw [State.emit_quiet master record, station, s.dischargeForced_reports]
  rfl

theorem State.dischargeEmitted_clean (clean : ∀ g, (s.head g).clean = true) (pos : Pos) (none_ : (s.head h).record = none)
    (absent : s.discharge.master = false) (g : HeadId) :
    (((s.dischargeForced h).emit h pos).head g).clean = true := by
  have kept : ∀ c : Head, ({ c with record := none } : Head).clean = c.clean := fun _ => rfl
  rw [State.dischargeEmitted none_ absent]
  by_cases e : g = h
  · subst e
    rw [State.head_setHead, kept, Head.field_eq_of_butScan Head.clean (fun _ => rfl) (s.dischargeForced_head g),
      (Head.dischargeForced_fields _ _).2.2.2.2.2.2, clean g]
  · rw [State.head_setHead_ne _ _ e, State.withReports_head]
    exact (Head.field_eq_of_butScan Head.clean (fun _ => rfl) (s.dischargeForced_other e).head).trans (clean g)

theorem State.dischargeEmitted_count (running : (s.head h).state = .running) (pos : Pos)
    (none_ : (s.head h).record = none) (absent : s.discharge.master = false) :
    ((s.dischargeForced h).emit h pos).lockoutCount = s.lockoutCount := by
  have forced := (s.dischargeForced_fields h).1
  refine State.lockoutCount_eq (h := h) (fun g ne => ?_) (by rw [running]; decide) ?_
  · rw [State.dischargeEmitted none_ absent, State.head_setHead_ne _ _ ne, State.withReports_head]
    exact (s.dischargeForced_other ne).alike.state
  · rw [State.emit_state (Head.abortable_of_forced forced), forced]
    decide

/-- With clean contexts and room below the limit, the part-level effects of a head-scoped raise report an entry to SAFE
and no more. -/
theorem State.afterHeadRaise_reports (clean : ∀ g, (s.head g).clean = true)
    (below : s.lockoutCount < s.faults.lockoutLimit) (k : Cause) (act : Action) :
    (s.afterHeadRaise k act).reports =
      if act = .stop ∧ s.faults.mode ≠ .safe then s.reports.create (.mode s.faults.mode .safe (some k.cls))
      else s.reports := by
  by_cases stop : act = .stop
  · have joined := State.addStop_clean clean k.cls
    have below' : (s.headStopped k .stop).lockoutCount < (s.headStopped k .stop).faults.lockoutLimit := by
      rw [State.headStopped_stop, State.enterSafe_lockoutCount joined, (Keeps.enterSafe (.refl _) _).lockoutLimit,
        State.addStop_limit]
      rwa [State.lockoutCount_congr (s := s) fun g => by rw [State.head_congr (State.addStop_heads s _)]]
    rw [stop, State.afterHeadRaise_eq, State.checkLockout_below below', State.headStopped_stop,
      State.enterSafe_reports joined, State.addStop_mode, State.addStop_reports]
    by_cases safe : s.faults.mode = .safe
    · rw [if_pos safe, if_neg fun both => both.2 safe]
    · rw [if_neg safe, if_pos ⟨rfl, safe⟩]
      rfl
  · rw [State.afterHeadRaise_quiet stop below, if_neg fun both => stop both.1]

/-- A RUNNING head at its discharge with clean contexts on a part that takes no report: the FAULT report, the DOSE
report, and the MODE report of an entry to SAFE. -/
theorem State.forcedDischarge_quiet (running : (s.head h).state = .running) (none_ : (s.head h).record = none)
    (absent : s.discharge.master = false) (below : s.lockoutCount < s.faults.lockoutLimit)
    (clean : ∀ g, (s.head g).clean = true) (pos : Pos) :
    (s.forcedDischarge h pos).reports =
        (if (s.record .deadline).action = .stop ∧ s.faults.mode ≠ .safe then
          (s.dischargeReports h pos).create (.mode s.faults.mode .safe (some .deadline))
        else s.dischargeReports h pos) ∧
      (s.forcedDischarge h pos).faults.snapshots = (s.dischargeForced h).faults.snapshots := by
  have cleared := State.dischargeEmitted_clean clean pos none_ absent (h := h)
  have emitted := State.dischargeEmitted none_ absent pos
  have count := State.dischargeEmitted_count running pos none_ absent
  obtain ⟨reports, faults⟩ := State.withReports_setHead (s.dischargeForced h) (s.dischargeReports h pos) h
    { (s.dischargeForced h).head h with record := none }
  rw [← emitted] at reports faults
  have few : ((s.dischargeForced h).emit h pos).lockoutCount < ((s.dischargeForced h).emit h pos).faults.lockoutLimit := by
    rw [count, faults, s.dischargeForced_limit]
    exact below
  rw [s.forcedDischarge_eq]
  refine ⟨?_, by rw [State.afterHeadRaise_snapshots cleared, faults]⟩
  rw [State.afterHeadRaise_reports cleared few, reports, faults, s.dischargeForced_mode]
  exact if_congr Iff.rfl rfl rfl

end

/-- Settles O47. -/
theorem seatEndAndDischarge : Obligations.SeatEndAndDischarge := by
  intro s h pos c v t
  refine ⟨fun p seating pin none_ => ?_, fun no => State.seatWindowEnd_other no,
    fun idle => State.dischargeCrossing_away (Or.inl idle) pos,
    fun a clean live no seat before => State.takeAngle_idle clean live no seat before a pos, fun r rides some_ absent => ?_,
    fun p running pin one => ?_, fun p running pin none_ absent below clean => ?_⟩
  · have run : v = s.giveUpSeating h .empty none := State.seatWindowEnd_seating seating
    have head := State.giveUpSeating_self s h .empty none
    rw [run, head]
    refine ⟨Head.withRecord_state _ _ _ _, Head.withRecord_pin _ _ _ _, ?_, ?_, fun g ne => ?_,
      State.giveUpSeating_faults _ _ _ _, State.giveUpSeating_reports _ _ _ _⟩
    · rw [State.giveUpSeating_slot pin, if_pos rfl]
      exact Slot.release_givesBack _
    · rw [show (s.head h).pin = some p from pin]
      exact Head.withRecord_record (c := { s.head h with pin := none, state := .emptyPass, level := 0 }) none_ _ _ _
    · rw [State.giveUpSeating_head, if_neg ne]
  · have run : t = s.rideOut h pos := State.dischargeCrossing_rides rides pos
    obtain ⟨record, state, heads, faults, store, reports⟩ := State.rideOut_quiet absent some_ pos
    rw [run]
    refine ⟨record, state, heads, faults, store, fun zero => ?_, fun kept => ?_⟩
    · rw [reports]
      exact if_pos zero
    · rw [reports]
      exact if_neg kept
  · have run : t = s.forcedDischarge h pos := State.dischargeCrossing_running running pos
    obtain ⟨self, unsent⟩ := s.forcedDischarge_self h pos
    obtain ⟨scan, head⟩ := Head.exists_scan self
    obtain ⟨state, level, valves, arm, pin', withdraw, -⟩ := c.dischargeForced_fields (s.record .deadline).action
    have class_ : ∀ {α : Type} (f : ClassRecord → α), (∀ r : ClassRecord, f { r with inStop := true } = f r) →
        (∀ r : ClassRecord, f { r with condition := false } = f r) →
        f (t.record .deadline) = f ((s.dischargeForced h).record .deadline) := fun f stops marks => by
      rw [run, State.forcedDischarge_eq, State.afterHeadRaise_record FaultClass.deadline_untouched f stops marks,
        State.emit_record_deadline]
    have latch := (s.dischargeForced_record h .deadline).trans (if_pos rfl)
    refine ⟨?_, ?_, ?_, ?_, ?_, ?_, ?_, ?_, ?_, fun busy => ?_, fun stop => ?_⟩
    · rw [run, head]; exact state
    · rw [run, head]; exact level
    · rw [run, head]; exact valves
    · rw [run, head]; exact arm
    · rw [run, head]; exact pin'
    · rw [run, head]
    · rw [class_ ClassRecord.latched (fun _ => rfl) (fun _ => rfl), latch]
    · rw [class_ ClassRecord.lastCause (fun _ => rfl) (fun _ => rfl), latch]
    · rw [run, head]; exact withdraw
    · rw [run]; exact unsent busy
    · rw [run, State.forcedDischarge_eq, stop]
      exact ⟨State.afterHeadRaise_stop_mode _ _,
        State.afterHeadRaise_joins (k := .deadlineDischarge) FaultClass.deadline_untouched⟩
  · intro act station told dosed
    have run : t = s.forcedDischarge h pos := State.dischargeCrossing_running running pos
    obtain ⟨reports, snapshots⟩ := State.forcedDischarge_quiet running none_ absent below clean pos
    rw [run]
    refine ⟨reports.trans ?_, fun room => snapshots.trans ?_⟩
    · unfold State.dischargeReports
      rw [ReportQueue.dosed_create, Head.dischargeRecord, show (s.head h).pin = some p from pin]
      rfl
    · have pushed := State.pushSnapshot_pushed (s := s.takeHeadRaise h .deadlineDischarge) room h .deadlineDischarge
      rw [s.dischargeForced_faults, pushed, State.takeHeadRaise_head]
      rfl

end Sys2Proof.Machine

/-! PROOFS. What follows the end of a segment (R56, R57), and what a raise leaves of a head that stays RUNNING. -/

namespace Sys2Proof.Machine

section
set_option Elab.async false
variable {s t u : State} {h g : HeadId} {k : Cause} {θ : Nat}

/-! ### A head that is RUNNING after a raise -/

/-- From `s` to `t`: a head RUNNING in `t` was RUNNING in `s`, in the same phase. -/
def State.Rides (s t : State) (h : HeadId) : Prop :=
  (t.head h).state = .running → (s.head h).state = .running ∧ (t.head h).phase = (s.head h).phase

theorem State.Rides.of_butScan (e : (t.head h).butScan = (s.head h).butScan) : s.Rides t h := fun running =>
  ⟨(Head.fields_of_butScan e).1.symm.trans running, (Head.fields_of_butScan e).2.2.2.2.2.1⟩

theorem State.Rides.of_left (left : (t.head h).state ≠ .running) : s.Rides t h := fun running => absurd running left

theorem State.Rides.refl (s : State) (h : HeadId) : s.Rides s h := fun running => ⟨running, rfl⟩

theorem State.Rides.trans (a : s.Rides t h) (b : t.Rides u h) : s.Rides u h := fun running =>
  have second := b running
  have first := a second.1
  ⟨first.1, second.2.trans first.2⟩

theorem State.abortHead_left (s : State) (h : HeadId) (r : SkipReason) (c : Option Cause) :
    ((s.abortHead h r c).head h).state ≠ .running := by
  have self := (s.abortHead_head h h r c).trans (if_pos rfl)
  rw [(Head.fields_of_butScan self).1]
  exact Head.not_running_of_left (Head.partAborted_not_abortable _ _ _ _)

theorem State.parityCore_left (off : (s.head h).state ≠ .off) (lockout : (s.head h).state ≠ .lockout) :
    ((s.parityCore h).head h).state ≠ .running := by
  have entered := (s.parityEntry_entered h).state
  rw [State.parityCore_live off lockout]
  split
  · rw [State.head_congr (State.addStop_heads _ _), entered]
    split <;> decide
  · rw [entered]
    split <;> decide

theorem State.safeAbortStep_rides (s : State) (c : Option Cause) (g h : HeadId) : s.Rides (s.safeAbortStep c g) h := by
  unfold State.safeAbortStep
  split
  · next abortable =>
    by_cases e : h = g
    · subst e
      split
      · exact .of_left (s.abortHead_left h _ _)
      · refine .of_left (State.parityCore_left (fun off => ?_) fun lockout => ?_)
        · unfold Head.abortable at abortable
          rw [off] at abortable
          cases abortable
        · unfold Head.abortable at abortable
          rw [lockout] at abortable
          cases abortable
    · split
      · exact .of_butScan (s.abortHead_other e _ _).head
      · exact .of_butScan (s.parityCore_other e).head
  · exact .refl s h

theorem State.enterSafe_rides (s : State) (c : Option Cause) (h : HeadId) : s.Rides (s.enterSafe c) h := by
  have fold : ∀ (heads : List HeadId) (u : State), u.Rides (heads.foldl (State.safeAbortStep c) u) h := by
    intro heads
    induction heads with
    | nil => exact fun u => .refl u h
    | cons g rest ih => exact fun u => (u.safeAbortStep_rides c g h).trans (ih _)
  have abort : s.Rides (s.safed.safeAbort c) h := by
    rw [State.safeAbort_eq]
    exact State.Rides.trans (t := s.safed) (.of_butScan rfl) (fold s.safed.headOrder s.safed)
  rw [State.enterSafe_eq]
  split
  · exact .of_butScan rfl
  · exact abort

theorem State.addStop_rides (s : State) (c : FaultClass) (h : HeadId) : s.Rides (s.addStop c) h :=
  .of_butScan (s.addStop_spares c h).head

theorem State.checkLockout_rides (s : State) (h : HeadId) : s.Rides s.checkLockout h := by
  rcases s.checkLockout_cases with e | e
  · rw [e]
    exact .refl s h
  · rw [e]
    have marked : s.Rides s.lockoutMarked h := .of_butScan rfl
    exact (marked.trans (State.addStop_rides _ _ h)).trans (State.enterSafe_rides _ _ h)

theorem State.afterHeadRaise_rides (s : State) (k : Cause) (act : Action) (h : HeadId) :
    s.Rides (s.afterHeadRaise k act) h := by
  rw [State.afterHeadRaise_eq]
  refine State.Rides.trans ?_ (State.checkLockout_rides _ h)
  unfold State.headStopped
  split
  · exact (s.addStop_rides _ h).trans (State.enterSafe_rides _ _ h)
  · exact .refl s h

theorem State.headAction_rides (s : State) (h : HeadId) (k : Cause) (act : Action) : s.Rides (s.headAction h k act) h := by
  cases moves : escalates (s.head h).state k act with
  | true =>
    refine .of_left ?_
    rw [State.headAction_state]
    exact (HeadState.afterFault_moved moves).1
  | false =>
    rw [State.headAction_eq, moves, if_neg (by decide)]
    intro running
    rw [State.holding_head] at running ⊢
    exact ⟨running, rfl⟩

/-- A head that a raise leaves RUNNING is in the phase it was in, its context clean or not. -/
theorem State.raiseHead_rides (s : State) (h : HeadId) (k : Cause) : s.Rides (s.raiseHead h k) h := by
  by_cases out : (s.head h).state = .off ∨ (s.head h).state = .lockout
  · rw [State.raiseHead_discarded out]
    exact .refl s h
  · obtain ⟨off, lockout⟩ := not_or.mp out
    have taken : s.Rides (s.takeHeadRaise h k) h := fun running => by
      rw [State.takeHeadRaise_head] at running ⊢
      exact ⟨running, rfl⟩
    unfold State.raiseHead
    rw [if_neg out]
    dsimp only
    refine State.Rides.trans (taken.trans ?_) (State.afterHeadRaise_rides _ _ _ h)
    split
    · exact State.headAction_rides _ h k _
    · refine .of_left ?_
      rw [State.contextParity_state (by rwa [s.takeHeadRaise_state]) (by rwa [s.takeHeadRaise_state])]
      split <;> decide

/-! ### The end of the last segment (R57) -/

/-- The context of a head whose last segment has ended, with its verdict, its record and what it has learned. -/
def Head.judged (c : Head) (header : Header) (weight : Nat) : Head :=
  ({ c with valves := .rest, arm := none } : Head).judge header weight

theorem Head.judge_new {c : Head} (none_ : c.record = none) (header : Header) (weight : Nat) :
    c.judge header weight =
      { c with
        overrun := match c.learn weight c.liquidVolume with | some (e, _) => e | none => c.overrun
        record := some
          { verdict := verdictOf header c.liquidVolume c.syrupVolume, skip := none, cycle := c.cycle, pin := c.pin
            liquid := c.liquidVolume, syrup := c.syrupVolume, estimate := c.meter.estimateUsed
            observed := (c.learn weight c.liquidVolume).map (·.2), fault := c.lastFault, completed := c.segIndex } } := by
  have absent : c.record.isSome = false := by rw [none_]; rfl
  have fresh : c.record.isNone = true := by rw [none_]; rfl
  have recorded : ∀ v, c.withRecord v none c.pin =
      { c with
        record := some
          { verdict := v, skip := none, cycle := c.cycle, pin := c.pin, liquid := c.liquidVolume, syrup := c.syrupVolume
            estimate := c.meter.estimateUsed, observed := none, fault := c.lastFault, completed := c.segIndex } } :=
    fun v => if_neg (by rw [absent]; decide)
  unfold Head.judge
  dsimp only
  rw [fresh, recorded]
  cases c.learn weight c.liquidVolume with
  | none => rfl
  | some lesson => rfl

theorem State.finishCycle_touches (s : State) (h : HeadId) (header : Header) : s.Touches (s.finishCycle h header) h :=
  (((((s.updHead_touches h _).trans (State.updHead_touches _ h _)).trans (State.releasePin_touches _ h)).trans
    (State.changeState_touches _ h .done)).trans (State.updHead_touches _ h _)).trans (State.post_touches _ h h)

/-- A head whose cycle is finished, before its urgent exchange is posted. -/
def State.finished (s : State) (h : HeadId) (header : Header) : State :=
  (((s.setHead h ((s.head h).judged header s.meterUnit.weight)).releasePin h).changeState h .done).updHead h
    Head.withoutSegment

theorem State.setHead_setHead (s : State) (h : HeadId) (c d : Head) : (s.setHead h c).setHead h d = s.setHead h d := by
  have heads : ((s.setHead h c).setHead h d).heads = (s.setHead h d).heads :=
    State.heads_ext fun g => by
      by_cases e : g = h
      · subst e; rw [State.head_setHead, State.head_setHead]
      · rw [State.head_setHead_ne _ _ e, State.head_setHead_ne _ _ e, State.head_setHead_ne _ _ e]
  exact congrArg (fun v => ({ s with heads := v } : State)) heads

theorem State.finishCycle_eq (s : State) (h : HeadId) (header : Header) :
    s.finishCycle h header = (s.finished h header).post h := by
  have both : ((s.updHead h fun c => { c with valves := .rest, arm := none }).updHead h fun c =>
      c.judge header s.meterUnit.weight) = s.setHead h ((s.head h).judged header s.meterUnit.weight) := by
    show (s.setHead h _).setHead h _ = _
    rw [State.setHead_setHead, State.head_updHead]
    rfl
  unfold State.finished
  rw [← both]
  rfl

theorem State.finished_head (s : State) (h : HeadId) (header : Header) :
    (s.finished h header).head h =
      ({ (s.head h).judged header s.meterUnit.weight with pin := none, state := .done, level := 0 } : Head
        ).withoutSegment := by
  unfold State.finished
  rw [State.head_updHead, State.changeState_head_self, State.releasePin_head_self, State.head_setHead]
  rfl

theorem State.finished_slot {p : Pin} (pin : (s.head h).pin = some p) (header : Header) (j : SlotId) :
    (s.finished h header).slot j = if j = p.slot then (s.slot p.slot).release else s.slot j := by
  have judged : ((s.setHead h ((s.head h).judged header s.meterUnit.weight)).head h).pin = some p := by
    rw [State.head_setHead]
    exact (Head.judge_alike _ _ _).pin.trans pin
  unfold State.finished
  rw [State.updHead_slot, State.changeState_slot, State.releasePin_slot judged]
  rfl

/-! ### The start of the next segment (R50, R51) -/

theorem State.startTest_read {q : Pin} {i : Fin 12} (pin : (s.head h).pin = some q)
    (at_ : (s.head h).segIndex = i.val) (sound : (s.slot q.slot).state ≠ .corrupt)
    (header : (s.slot q.slot).headerClean = true) (cell : (s.slot q.slot).cells[i].clean = true) :
    s.startTest h none = s ∧
      s.startTest h (some θ) =
        if s.mayStart (s.head h) (s.slot q.slot).cells[i].record.kind θ then
          s.setHead h
            ((s.head h).startSegment
              { header := (s.slot q.slot).header, record := (s.slot q.slot).cells[i].record } θ)
        else s := by
  have same : (s.slot q.slot).cells[(s.head h).segIndex]'(by omega) = (s.slot q.slot).cells[i] := by
    simp only [at_]
    rfl
  have fine : ¬((!(s.slot q.slot).headerClean || !(s.slot q.slot).cells[i].clean) = true) := by
    rw [header, cell]
    decide
  unfold State.startTest
  dsimp only
  rw [pin]
  dsimp only
  rw [if_neg sound, if_neg sound, dif_pos (by omega), dif_pos (by omega), same, if_neg fine, if_neg fine]
  exact ⟨rfl, rfl⟩

theorem Head.startSegment_phase (c : Head) (w : Work) (θ : Nat) :
    (c.startSegment w θ).phase = some .active ∧ (c.startSegment w θ).state = c.state := ⟨rfl, rfl⟩

/-- A head that has started a segment posts an urgent exchange. -/
theorem State.started_posts (running : (s.head h).state = .running) (w : Work) (θ : Nat) :
    s.OnlyHead ((s.setHead h ((s.head h).startSegment w θ)).post h) h ∧
      ((s.setHead h ((s.head h).startSegment w θ)).post h).Posted h ∧
      ((s.setHead h ((s.head h).startSegment w θ)).post h).store = s.store ∧
      (((s.setHead h ((s.head h).startSegment w θ)).post h).head h).butScan =
        ((s.head h).startSegment w θ).butScan := by
  have touched : s.Touches (s.setHead h ((s.head h).startSegment w θ)) h :=
    s.updHead_touches h fun _ => (s.head h).startSegment w θ
  refine ⟨(touched.trans (State.post_touches _ h h)).onlyHead, State.post_posted ?_, State.post_store _ h, ?_⟩
  · rw [State.head_setHead, Head.enrolled, (Head.startSegment_phase _ w θ).2, running]
    rfl
  · rw [State.post_butScan, State.head_setHead]

/-! ### What follows the index advance -/

theorem State.afterEnd_over {q : Pin} {n : Nat} (running : (s.head h).state = .running) (pin : (s.head h).pin = some q)
    (count : (s.slot q.slot).segCount = some n) (last : n ≤ (s.head h).segIndex) (header : Header) (θ : Nat) :
    s.afterEnd h header θ = s.finishCycle h header := by
  have done : s.profileOver h = true := by
    unfold State.profileOver
    rw [pin]
    dsimp only
    rw [count]
    exact decide_eq_true last
  unfold State.afterEnd
  rw [if_pos running, done, if_pos rfl]

theorem State.afterEnd_other (no : (s.head h).state ≠ .running) (header : Header) (θ : Nat) :
    s.afterEnd h header θ = s := if_neg no

theorem State.afterEnd_next {q : Pin} {n : Nat} (running : (s.head h).state = .running)
    (pin : (s.head h).pin = some q) (count : (s.slot q.slot).segCount = some n) (more : (s.head h).segIndex < n)
    (header : Header) (θ : Nat) (rides : ((s.startTest h (some θ)).head h).state = .running) :
    s.afterEnd h header θ =
      (if ((s.startTest h (some θ)).head h).inPhase .active then s.startTest h (some θ)
        else (s.startTest h (some θ)).updHead h fun c => { c with valves := .rest }).post h := by
  have goes : s.profileOver h = false := by
    unfold State.profileOver
    rw [pin]
    dsimp only
    rw [count]
    exact decide_eq_false (by simpa using more)
  unfold State.afterEnd
  rw [if_pos running, goes, if_neg (by decide)]
  dsimp only
  rw [if_pos rides]

/-- The steps of a segment end after the index advance (R56, R57). -/
theorem State.afterEnd_goesOn (pending : (s.head h).state = .running → (s.head h).phase = some .pending)
    (header : Header) (θ : Nat) : s.GoesOn (s.afterEnd h header θ) h header θ := by
  unfold State.GoesOn
  intro c d q n k running pin count calib none_
  refine ⟨fun last => ?_, fun i at_ more sound clean cell => ?_⟩
  · intro vl vs lesson
    have run : s.afterEnd h header θ = s.finishCycle h header := State.afterEnd_over running pin count last header θ
    have store : ∀ j, (s.afterEnd h header θ).slot j =
        if j = q.slot then (s.slot q.slot).release else s.slot j := fun j => by
      rw [run, State.finishCycle_eq, State.slot_congr (State.post_store _ h), State.finished_slot pin]
    refine ⟨?_, ?_, ?_, fun j ne => (store j).trans (if_neg ne), ?_⟩
    · rw [run]
      exact (s.finishCycle_touches h header).onlyHead
    · rw [run, State.finishCycle_eq]
      exact State.post_posted (by rw [State.finished_head]; rfl)
    · rw [store, if_pos rfl]
      exact Slot.release_givesBack _
    · have head : d.butScan = ((s.finished h header).head h).butScan := by
        show ((s.afterEnd h header θ).head h).butScan = _
        rw [run, State.finishCycle_eq, State.post_butScan]
      refine (congrArg (fun x : Head => { x with scan := c.scan }) head).trans ?_
      have liquid : c.liquidVolume = vl := Head.liquidVolume_of calib
      have syrup : c.syrupVolume = vs := by unfold Head.syrupVolume; rw [calib]
      have judged := Head.judge_new (c := { c with valves := .rest, arm := none }) none_ header s.meterUnit.weight
      rw [show ({ c with valves := .rest, arm := none } : Head).liquidVolume = vl from liquid,
        show ({ c with valves := .rest, arm := none } : Head).syrupVolume = vs from syrup] at judged
      rw [State.finished_head, Head.judged, judged, ← pin]
      rfl
  · intro record
    obtain ⟨-, test⟩ := State.startTest_read (θ := θ) pin at_ sound clean cell
    have phase : c.phase = some .pending := pending running
    have more' : (s.head h).segIndex < n := lt_of_eq_of_lt at_ more
    have go : s.mayStart c record.kind θ = true →
        s.afterEnd h header θ =
          (s.setHead h (c.startSegment { header := (s.slot q.slot).header, record := record } θ)).post h := fun may => by
      rw [if_pos may] at test
      have head := State.head_setHead s h (c.startSegment { header := (s.slot q.slot).header, record := record } θ)
      rw [State.afterEnd_next running pin count more' header θ (by rw [test, head]; exact running), test, head,
        Head.inPhase, (Head.startSegment_phase _ _ _).1, (Head.startSegment_phase _ _ _).2,
        show c.state = .running from running, if_pos (by decide)]
    have stay : s.mayStart c record.kind θ = false →
        s.afterEnd h header θ = (s.setHead h { c with valves := .rest }).post h := fun may => by
      rw [if_neg (by rw [may]; decide)] at test
      rw [State.afterEnd_next running pin count more' header θ (by rw [test]; exact running), test,
        if_neg (by rw [Head.inPhase, show (s.head h).phase = _ from phase]; simp)]
      rfl
    have rested : s.Touches (s.setHead h { c with valves := .rest }) h := s.updHead_touches h fun c => { c with valves := .rest }
    cases may : s.mayStart c record.kind θ with
    | true =>
      obtain ⟨only, posted, store, head⟩ := State.started_posts (s := s) (h := h) running
        { header := (s.slot q.slot).header, record := record } θ
      rw [← go may] at only posted store head
      exact ⟨only, posted, store, fun _ => congrArg (fun x : Head => { x with scan := c.scan }) head,
        fun no => by cases no⟩
    | false =>
      have run := stay may
      refine ⟨?_, ?_, ?_, fun no => (by cases no), fun _ => ?_⟩
      · rw [run]
        exact (rested.trans (State.post_touches _ h h)).onlyHead
      · rw [run]
        refine State.post_posted ?_
        rw [State.head_setHead, Head.enrolled, show c.state = .running from running]
        rfl
      · rw [run]
        exact State.post_store _ h
      · have head : d.butScan = ({ c with valves := .rest } : Head).butScan := by
          show ((s.afterEnd h header θ).head h).butScan = _
          rw [run, State.post_butScan, State.head_setHead]
        exact congrArg (fun x : Head => { x with scan := c.scan }) head

end
end Sys2Proof.Machine

/-! PROOFS. The boundaries a head crosses, and what it does at each (R15, R16, R18, R50 to R55). -/

namespace Sys2Proof.Machine

section
set_option Elab.async false
variable {s t u : State} {h g : HeadId} {k : Cause} {c : Head} {w : Work} {a θ : Nat}

/-! ### Which boundaries lie at an angle (R15) -/

theorem ZoneMap.boundary_iff (z : ZoneMap) {cpr a : Nat} (inside : a < cpr)
    (fits : ∀ i : Fin 8, z.rows[i].valid = true → z.rows[i].stop ≤ cpr) :
    z.boundary cpr a = true ↔
      ∃ i : Fin 8, z.rows[i].valid = true ∧
        (z.rows[i].start = a ∨ z.rows[i].stop = a ∨ (z.rows[i].stop = cpr ∧ a = 0)) := by
  unfold ZoneMap.boundary
  rw [ZoneMap.rows_any]
  refine exists_congr fun i => ?_
  rw [Bool.and_eq_true, Bool.or_eq_true, beq_iff_eq, beq_iff_eq]
  refine and_congr_right fun valid => or_congr_right ?_
  rcases Nat.lt_or_eq_of_le (fits i valid) with lt | eq
  · rw [Nat.mod_eq_of_lt lt]
    omega
  · rw [eq, Nat.mod_self]
    omega

theorem Head.angleEndAt_iff (c : Head) (a : Nat) :
    c.angleEndAt a = true ↔
      (c.state = .running ∧ c.phase = some .active) ∧ ∃ w θ, c.work = some w ∧ c.startAngle = some θ ∧
        w.record.ending = .angle ∧ w.record.param = a ∧ θ < a := by
  unfold Head.angleEndAt
  rw [Bool.and_eq_true, Head.inPhase_iff]
  refine and_congr_right fun _ => ?_
  cases c.work with
  | none => exact ⟨fun no => (by cases no), fun ⟨_, _, no, _⟩ => (by cases no)⟩
  | some w =>
    cases c.startAngle with
    | none => exact ⟨fun no => (by cases no), fun ⟨_, _, _, no, _⟩ => (by cases no)⟩
    | some θ =>
      simp only [Bool.and_eq_true, beq_iff_eq, decide_eq_true_eq, Option.some.injEq, and_assoc]
      exact ⟨fun ⟨ending, param, later⟩ => ⟨w, θ, rfl, rfl, ending, param, later⟩,
        fun ⟨_, _, e, e', rest⟩ => by subst e; subst e'; exact rest⟩

theorem State.deadline_iff (s : State) (c : Head) (a : Nat) :
    s.deadline c = some a ↔
      (∃ w, c.work = some w ∧ w.record.deadline = a) ∨
        (c.work = none ∧ ∃ (p : Pin) (i : Fin 12), c.pin = some p ∧ c.segIndex = i.val ∧
          (s.slot p.slot).cells[i].record.deadline = a) := by
  unfold State.deadline
  cases c.work with
  | some w => simp
  | none =>
    cases c.pin with
    | none => simp
    | some p =>
      dsimp only
      split
      · next lt =>
        simp only [Option.some.injEq]
        refine ⟨fun e => Or.inr ⟨trivial, p, ⟨c.segIndex, lt⟩, rfl, rfl, e⟩, ?_⟩
        rintro (⟨_, no, _⟩ | ⟨-, q, i, rfl, at_, e⟩)
        · cases no
        · rw [← e]
          simp only [at_]
          rfl
      · next out =>
        refine ⟨fun no => (by cases no), ?_⟩
        rintro (⟨_, no, _⟩ | ⟨-, q, i, -, at_, -⟩)
        · cases no
        · exact absurd (at_ ▸ i.isLt) out

theorem State.deadlineAt_iff (s : State) (c : Head) (a : Nat) :
    s.deadlineAt c a = true ↔
      c.state = .running ∧ c.phase ≠ none ∧ c.deadlineMet = false ∧ s.deadline c = some a := by
  unfold State.deadlineAt
  rw [Bool.and_eq_true, Bool.and_eq_true, Bool.and_eq_true, beq_iff_eq, beq_iff_eq, Option.isSome_iff_ne_none,
    Bool.not_eq_true', and_assoc, and_assoc]

theorem State.startPointAt_iff (s : State) (c : Head) (a : Nat)
    (apart : ∀ i j b, s.zones.CoversAt i b → s.zones.CoversAt j b → i = j) :
    s.startPointAt c a = true ↔
      c.state = .running ∧ c.phase = some .pending ∧
        ((∃ i, s.zones.CoversAt i ((a + s.tracker.cpr - 1) % s.tracker.cpr) ∧
            (a + s.tracker.cpr - 1) % s.tracker.cpr < s.zones.rows[i].start + s.zones.rows[i].guard ∧
            s.zones.rows[i].start + s.zones.rows[i].guard = a) ∨
          ∃ b x, c.lastClosed = some (b, x) ∧
            ((∃ i, s.zones.CoversAt i b ∧ b + s.zones.rows[i].gap = a) ∨
              ((∀ i, ¬s.zones.CoversAt i b) ∧ b + s.zones.baseGap = a))) := by
  unfold State.startPointAt
  dsimp only
  rw [Bool.and_eq_true, Head.inPhase_iff, Bool.or_eq_true, and_assoc]
  refine and_congr_right fun _ => and_congr_right fun _ => or_congr ?_ ?_
  · rcases s.zones.region_cases ((a + s.tracker.cpr - 1) % s.tracker.cpr) with ⟨found, open_⟩ | ⟨i, found, covers⟩
    · rw [found]
      exact ⟨fun no => (by cases no), fun ⟨i, at_, _⟩ => absurd at_ (open_ i)⟩
    · rw [found]
      simp only [Bool.and_eq_true, decide_eq_true_eq, beq_iff_eq]
      refine ⟨fun e => ⟨i, covers, e⟩, fun ⟨j, at_, e⟩ => ?_⟩
      rw [apart i j _ covers at_]
      exact e
  · cases c.lastClosed with
    | none => exact ⟨fun no => (by cases no), fun ⟨_, _, no, _⟩ => (by cases no)⟩
    | some last =>
      obtain ⟨b, x⟩ := last
      have gap : b + s.zones.gapAt b = a ↔
          (∃ i, s.zones.CoversAt i b ∧ b + s.zones.rows[i].gap = a) ∨
            ((∀ i, ¬s.zones.CoversAt i b) ∧ b + s.zones.baseGap = a) := by
        unfold ZoneMap.gapAt
        rcases s.zones.region_cases b with ⟨found, open_⟩ | ⟨i, found, covers⟩
        · rw [found]
          exact ⟨fun e => Or.inr ⟨open_, e⟩, fun e => e.elim (fun ⟨i, at_, _⟩ => absurd at_ (open_ i)) And.right⟩
        · rw [found]
          refine ⟨fun e => Or.inl ⟨i, covers, e⟩, ?_⟩
          rintro (⟨j, at_, e⟩ | ⟨open_, -⟩)
          · rw [apart i j b covers at_]
            exact e
          · exact absurd covers (open_ i)
      simp only [beq_iff_eq, gap, Option.some.injEq, Prod.mk.injEq]
      exact ⟨fun e => ⟨b, x, ⟨rfl, rfl⟩, e⟩, fun ⟨_, _, ⟨e, _⟩, rest⟩ => by subst e; exact rest⟩

theorem Head.rampPointAt_iff (c : Head) (a : Nat) :
    c.rampPointAt a = true ↔
      (c.state = .running ∧ c.phase = some .active) ∧ ∃ w r, c.work = some w ∧ c.rampPos = some r ∧
        (w.record.kind = .fill ∨ w.record.kind = .trim) ∧ c.valves.l < w.record.aperture ∧ r + w.record.interval = a := by
  unfold Head.rampPointAt
  rw [Bool.and_eq_true, Head.inPhase_iff]
  refine and_congr_right fun _ => ?_
  cases c.work with
  | none => exact ⟨fun no => (by cases no), fun ⟨_, _, no, _⟩ => (by cases no)⟩
  | some w =>
    cases c.rampPos with
    | none => exact ⟨fun no => (by cases no), fun ⟨_, _, _, no, _⟩ => (by cases no)⟩
    | some r =>
      simp only [Bool.and_eq_true, beq_iff_eq, decide_eq_true_eq, Option.some.injEq, SegKind.fills_iff, and_assoc]
      exact ⟨fun rest => ⟨w, r, rfl, rfl, rest⟩, fun ⟨_, _, e, e', rest⟩ => by subst e; subst e'; exact rest⟩

/-! ### The boundaries taken in order (R16) -/

theorem State.takeBoundary_zones (s : State) (h : HeadId) (a : Nat) (b : Bool) {f : State → State}
    (keeps : ∀ u : State, u.Keeps (f u)) : (s.takeBoundary h a b f).zones = s.zones :=
  (Keeps.takeBoundary (.refl s) h a b f fun u k => k.trans (keeps u)).zones

theorem setAngleAt_eq (item a : Nat) : setAngleAt item a = decide (item ≠ 0 ∧ item = a) := by
  rw [Bool.eq_iff_iff, decide_eq_true_iff]
  exact setAngleAt_iff item a

/-- The boundaries up to the ramp point do not touch the zone map, and neither does Θs: Θs and Θd lie where the map at
the arrival puts them. -/
theorem State.takeAngle_eq (s : State) (h : HeadId) (a : Nat) (pos : Pos) :
    let c := s.head h
    let own := fun (u : State) (present : State → Bool) =>
      present s && (u.head h).segIndex == c.segIndex && present u
    let u₁ := s.takeBoundary h a (s.zones.boundary s.tracker.cpr a) fun u => u.regionCrossing h a
    let u₂ := u₁.takeBoundary h a (own u₁ fun u => (u.head h).angleEndAt a) fun u => u.angleEnd h a
    let u₃ := u₂.takeBoundary h a (own u₂ fun u => u.deadlineAt (u.head h) a) fun u => u.deadlineCrossing h
    let u₄ := u₃.takeBoundary h a (own u₃ fun u => u.startPointAt (u.head h) a) id
    let u₅ := u₄.takeBoundary h a (own u₄ fun u => (u.head h).rampPointAt a) fun u => u.rampStep h a
    let u₆ := u₅.takeBoundary h a (decide (s.zones.seatEnd ≠ 0 ∧ s.zones.seatEnd = a)) fun u => u.seatWindowEnd h
    let u₇ := u₆.takeBoundary h a (decide (s.zones.dischargeAngle ≠ 0 ∧ s.zones.dischargeAngle = a)) fun u =>
      u.dischargeCrossing h pos
    s.takeAngle h a pos = u₇.takeBoundary h a (decide (a = 0)) fun u => u.infeedCrossing h pos := by
  intro c own u₁ u₂ u₃ u₄ u₅ u₆ u₇
  have z₁ : u₁.zones = s.zones := State.takeBoundary_zones s h a _ fun u => Keeps.regionCrossing (.refl u) h a
  have z₂ : u₂.zones = u₁.zones := State.takeBoundary_zones u₁ h a _ fun u => Keeps.angleEnd (.refl u) h a
  have z₃ : u₃.zones = u₂.zones := State.takeBoundary_zones u₂ h a _ fun u => Keeps.deadlineCrossing (.refl u) h
  have z₄ : u₄.zones = u₃.zones := State.takeBoundary_zones u₃ h a _ fun u => .refl u
  have z₅ : u₅.zones = u₄.zones := State.takeBoundary_zones u₄ h a _ fun u => Keeps.rampStep (.refl u) h a
  have z₆ : u₆.zones = u₅.zones := State.takeBoundary_zones u₅ h a _ fun u => Keeps.seatWindowEnd (.refl u) h
  have upTo₅ : u₅.zones = s.zones := z₅.trans (z₄.trans (z₃.trans (z₂.trans z₁)))
  have seat : (u₅.takeBoundary h a (setAngleAt u₅.zones.seatEnd a) fun s => s.seatWindowEnd h) = u₆ := by
    rw [setAngleAt_eq, upTo₅]
  have leave : (u₆.takeBoundary h a (setAngleAt u₆.zones.dischargeAngle a) fun s => s.dischargeCrossing h pos) = u₇ := by
    rw [setAngleAt_eq, z₆, upTo₅]
  have zero : (a == 0) = decide (a = 0) := rfl
  rw [← leave, ← seat, ← zero]
  rfl

/-! ### A segment that the region does not permit (R55) -/

theorem State.regionCrossing_idle (no : ¬((s.head h).state = .running ∧ (s.head h).phase = some .active)) (a : Nat) :
    s.regionCrossing h a = s := by
  unfold State.regionCrossing
  exact if_neg fun e => no ((Head.inPhase_iff _ _).mp e)

theorem State.regionCrossing_active (active : (s.head h).state = .running ∧ (s.head h).phase = some .active)
    (work : (s.head h).work = some w) (a : Nat) :
    s.regionCrossing h a = if s.zones.permits a w.record.kind then s else s.zoneCut h w a := by
  unfold State.regionCrossing
  rw [if_pos ((Head.inPhase_iff _ _).mpr active)]
  split
  · next e =>
    cases e.symm.trans work
    rfl
  · next e => cases e.symm.trans work

/-- A head that has ended its segment, before the steps after the index advance. -/
theorem State.ended_eq (s : State) (h : HeadId) (w : Work) (θ : Nat) :
    (s.updHead h fun c => c.endSegment w.record.kind θ) = s.setHead h ((s.head h).ended w θ) :=
  congrArg (s.setHead h) (Head.endSegment_ended _ w θ)

theorem State.zoneCut_eq (s : State) (h : HeadId) (w : Work) (θ : Nat) :
    s.zoneCut h w θ =
      (if w.record.kind.product then (s.setHead h ((s.head h).ended w θ)).raiseHead h .zoneCut
        else s.setHead h ((s.head h).ended w θ)).afterEnd h w.header θ := by
  unfold State.zoneCut
  rw [State.ended_eq]

theorem State.angleEnd_eq (work : (s.head h).work = some w) (a : Nat) :
    s.angleEnd h a = (s.setHead h ((s.head h).ended w a)).afterEnd h w.header a := by
  unfold State.angleEnd
  split
  · next e =>
    cases e.symm.trans work
    exact s.endSegment_eq h w a
  · next e => cases e.symm.trans work

theorem State.rampStep_eq (work : (s.head h).work = some w) (a : Nat) :
    s.rampStep h a = s.setHead h
      { s.head h with
        valves := { (s.head h).valves with l := min ((s.head h).valves.l + w.record.step) w.record.aperture }
        rampPos := some a } := by
  unfold State.rampStep
  split
  · next e =>
    cases e.symm.trans work
    rfl
  · next e => cases e.symm.trans work

theorem State.ended_pending (s : State) (h : HeadId) (w : Work) (θ : Nat) :
    ((s.setHead h ((s.head h).ended w θ)).head h).phase = some .pending := by
  rw [State.head_setHead]
  rfl

/-- A head whose raise left it RUNNING still waits for its next segment. -/
theorem State.raised_pending (pending : (s.head h).phase = some .pending) (k : Cause)
    (running : ((s.raiseHead h k).head h).state = .running) : ((s.raiseHead h k).head h).phase = some .pending :=
  (s.raiseHead_rides h k running).2.trans pending

theorem State.headEvent_off (off : (s.head h).state = .off) (f : State → State) : s.headEvent h f = s := if_pos off

theorem State.headEvent_taken (live : (s.head h).state ≠ .off) (clean : (s.head h).clean = true) (f : State → State) :
    s.headEvent h f = f s := (if_neg live).trans (if_pos clean)

theorem State.pendingTest_idle (no : ¬((s.head h).state = .running ∧ (s.head h).phase = some .pending))
    (θ : Option Nat) : s.pendingTest h θ = s := by
  unfold State.pendingTest
  exact if_neg fun e => no ((Head.inPhase_iff _ _).mp e)

/-- The start test of a head whose next segment is read without a parity error (R50, R51). -/
theorem State.pendingTest_read {q : Pin} {i : Fin 12} (running : (s.head h).state = .running)
    (pending : (s.head h).phase = some .pending) (pin : (s.head h).pin = some q) (at_ : (s.head h).segIndex = i.val)
    (sound : (s.slot q.slot).state ≠ .corrupt) (header : (s.slot q.slot).headerClean = true)
    (cell : (s.slot q.slot).cells[i].clean = true) :
    s.pendingTest h none = s ∧
      s.pendingTest h (some θ) =
        if s.mayStart (s.head h) (s.slot q.slot).cells[i].record.kind θ then
          (s.setHead h
            ((s.head h).startSegment
              { header := (s.slot q.slot).header, record := (s.slot q.slot).cells[i].record } θ)).post h
        else s := by
  obtain ⟨blind, seen⟩ := State.startTest_read (θ := θ) pin at_ sound header cell
  have waits : (s.head h).inPhase .pending = true := (Head.inPhase_iff _ _).mpr ⟨running, pending⟩
  have idle : (s.head h).inPhase .active = false := by
    rw [Bool.eq_false_iff]
    intro e
    have := ((Head.inPhase_iff _ _).mp e).2
    rw [pending] at this
    cases this
  unfold State.pendingTest
  rw [if_pos waits, if_pos waits]
  dsimp only
  rw [blind, seen, idle]
  refine ⟨rfl, ?_⟩
  split
  · have started := Head.startSegment_phase (s.head h)
      { header := (s.slot q.slot).header, record := (s.slot q.slot).cells[i].record } θ
    rw [if_pos]
    rw [State.head_setHead, Head.inPhase_iff]
    exact ⟨started.2.trans running, started.1⟩
  · rw [idle]
    rfl

end

/-- Settles O49. -/
theorem runningHeadTakesAngle : Obligations.RunningHeadTakesAngle := by
  intro s h a c cpr row covers apart active behind
  refine ⟨fun inside fits => s.zones.boundary_iff inside fits, c.angleEndAt_iff a, ?_,
    fun apart => s.startPointAt_iff c a apart, c.rampPointAt_iff a, fun pos => s.takeAngle_eq h a pos,
    fun f => ⟨fun off => State.headEvent_off off f, fun live clean => State.headEvent_taken live clean f⟩,
    fun θ no => State.pendingTest_idle no θ, fun q i running pending pin at_ sound header cell => ?_,
    fun no => State.regionCrossing_idle no a, rfl, fun w act work => ?_⟩
  · rw [s.deadlineAt_iff, s.deadline_iff]
  · intro record
    refine ⟨(State.pendingTest_read (θ := 0) running pending pin at_ sound header cell).1, ?_⟩
    intro θ t
    have test : t = _ := (State.pendingTest_read running pending pin at_ sound header cell).2
    refine ⟨fun no => test.trans (if_neg (by rw [show s.mayStart _ _ _ = false from no]; decide)), fun may => ?_⟩
    obtain ⟨only, posted, store, head⟩ := State.started_posts (s := s) (h := h) running
      { header := (s.slot q.slot).header, record := record } θ
    rw [test.trans (if_pos may)]
    exact ⟨only, posted, store, congrArg (fun x : Head => { x with scan := c.scan }) head⟩
  · intro permitted product cut faulted t
    have crossing := State.regionCrossing_active act work a
    have product_ : w.record.kind.product = true ↔ product := SegKind.product_iff _
    have permits : apart → (s.zones.permits a w.record.kind = true ↔ permitted) := fun apart =>
      (ZoneMap.permits_iff apart a w.record.kind).trans and_comm
    have cuts : apart → ¬permitted → t = s.zoneCut h w a := fun apart no =>
      crossing.trans (if_neg (mt (permits apart).mp no))
    refine ⟨fun apart yes => crossing.trans (if_pos ((permits apart).mpr yes)), fun apart no dry => ?_,
      fun apart no wet => ?_, ?_, State.rampStep_eq work a⟩
    · have run : t = cut.afterEnd h w.header a := by
        rw [cuts apart no, State.zoneCut_eq, if_neg (mt product_.mp dry)]
      rw [run]
      exact State.afterEnd_goesOn (fun _ => s.ended_pending h w a) w.header a
    · have run : t = faulted.afterEnd h w.header a := by
        rw [cuts apart no, State.zoneCut_eq, if_pos (product_.mpr wet)]
      refine ⟨fun _ => ?_, fun left => run.trans (State.afterEnd_other left _ _)⟩
      rw [run]
      exact State.afterEnd_goesOn (State.raised_pending (s.ended_pending h w a) .zoneCut) w.header a
    · rw [State.angleEnd_eq work]
      exact State.afterEnd_goesOn (fun _ => s.ended_pending h w a) w.header a

end Sys2Proof.Machine

/-! PROOFS. The outcomes of an exchange and the choice of the next one (R95, R97, R99, R102 to R109). -/

namespace Sys2Proof.Machine

section
set_option Elab.async false
variable {s t : State} {h g : HeadId} {x : InFlight} {f : Frame}

/-! ### A COMMAND sent (R95, R99, R107) -/

theorem Head.startsTracking_iff (c : Head) :
    c.startsTracking = true ↔ c.state ≠ .lockout ∧ (c.scan.forcedUnsent = true ∨ c.scan.lastSent ≠ some c.valves) := by
  unfold Head.startsTracking
  rw [Bool.and_eq_true, Bool.or_eq_true, bne_iff_ne, bne_iff_ne]

theorem Head.rampDone_iff (c : Head) :
    c.rampDone = true ↔ c.valves.l = 0 ∨ ∃ w, c.work = some w ∧ c.valves.l = w.record.aperture := by
  unfold Head.rampDone
  rw [Bool.or_eq_true, beq_iff_eq]
  refine or_congr_right ?_
  cases c.work with
  | none => exact ⟨fun no => (by cases no), fun ⟨_, no, _⟩ => (by cases no)⟩
  | some w => exact beq_iff_eq.trans ⟨fun e => ⟨w, rfl, e⟩, fun ⟨_, e, l⟩ => by cases e; exact l⟩

/-- The in-flight record of a COMMAND sent to a head (R95). -/
def State.flight (s : State) (h : HeadId) (urgent : Bool) : InFlight :=
  { head := h, seq := ((s.head h).scan.seq + 1) % 16, valves := (s.head h).valves, arm := (s.head h).arm
    rampDone := (s.head h).rampDone, predates := false, discard := false, urgent := urgent
    timer := s.scanner.replyTimeout }

/-- Sending from a state whose scanner differs in its queue or its scan position alone sends what the state does. -/
theorem State.sendCommand_sends (s : State) (r : Scanner) (timeout : r.replyTimeout = s.scanner.replyTimeout)
    (window : r.confirmWindow = s.scanner.confirmWindow) (h : HeadId) (urgent : Bool) :
    (({ s with scanner := r } : State).sendCommand h urgent).scanner = { r with inFlight := some (s.flight h urgent) } ∧
      s.SendsTo (({ s with scanner := r } : State).sendCommand h urgent) h urgent (s.flight h urgent) := by
  let t : State := ({ s with scanner := r } : State).sendCommand h urgent
  have head : t.head h = (s.head h).sent s.scanner.confirmWindow := by
    rw [← window]
    exact State.head_setHead { s with scanner := r } h ((s.head h).sent r.confirmWindow)
  have confirm : (t.head h).scan.confirm =
      if (s.head h).startsTracking then some s.scanner.confirmWindow else (s.head h).scan.confirm := by rw [head]; rfl
  have flight : t.scanner = { r with inFlight := some (s.flight h urgent) } := by
    show { r with inFlight := _ } = _
    unfold State.flight
    rw [← timeout]
    rfl
  refine ⟨flight, rfl, rfl, rfl, rfl, rfl, rfl, rfl, rfl, Head.rampDone_iff _, rfl, fun starts => ?_, fun no => ?_, ?_,
    fun g ne => ?_, rfl⟩
  · exact confirm.trans (if_pos ((Head.startsTracking_iff _).mpr starts))
  · exact confirm.trans (if_neg (mt (Head.startsTracking_iff _).mp no))
  · have sent : t.head h = { s.head h with
        scan := { (s.head h).scan with
          seq := ((s.head h).scan.seq + 1) % 16, lastSent := some (s.head h).valves
          confirm := (t.head h).scan.confirm, forcedUnsent := false } } := by
      rw [confirm, head]
      rfl
    exact sent
  · exact State.head_setHead_ne { s with scanner := r } _ ne

/-! ### The next choice (R97) -/

/-- How far a head stands behind the scan position, wrapping. -/
def scanDistance (p h : HeadId) : Nat := (h.val + 47 - p.val) % 48

theorem mem_scanOrder (p : Option HeadId) (h : HeadId) : h ∈ scanOrder p := by
  unfold scanOrder
  cases p with
  | none => exact mem_allHeads h
  | some p =>
    rw [List.mem_append, List.mem_filter, List.mem_filter]
    rcases Nat.lt_or_ge p.val h.val with lt | le
    · exact Or.inl ⟨mem_allHeads h, decide_eq_true lt⟩
    · exact Or.inr ⟨mem_allHeads h, decide_eq_true le⟩

theorem allHeads_sorted : allHeads.Pairwise (· < ·) := List.pairwise_lt_finRange 48

/-- The scan goes from the position upwards and wraps. -/
theorem scanOrder_sorted (p : HeadId) :
    (scanOrder (some p)).Pairwise fun a b => scanDistance p a ≤ scanDistance p b := by
  have ahead : ∀ a : HeadId, p < a → scanDistance p a = a.val - p.val - 1 := fun a lt => by
    have := a.isLt
    have : p.val < a.val := lt
    unfold scanDistance
    omega
  have behind : ∀ a : HeadId, a ≤ p → scanDistance p a = a.val + 47 - p.val := fun a le => by
    have := p.isLt
    have : a.val ≤ p.val := le
    unfold scanDistance
    omega
  have above : ∀ a : HeadId, a ∈ allHeads.filter (fun h => p < h) → p < a := fun a mem =>
    of_decide_eq_true (List.mem_filter.mp mem).2
  have below : ∀ a : HeadId, a ∈ allHeads.filter (fun h => h ≤ p) → a ≤ p := fun a mem =>
    of_decide_eq_true (List.mem_filter.mp mem).2
  refine List.pairwise_append.mpr ⟨?_, ?_, fun a ina b inb => ?_⟩
  · refine (allHeads_sorted.filter _).imp_of_mem fun {a b} ina inb lt => ?_
    rw [ahead a (above a ina), ahead b (above b inb)]
    have : a.val < b.val := lt
    omega
  · refine (allHeads_sorted.filter _).imp_of_mem fun {a b} ina inb lt => ?_
    rw [behind a (below a ina), behind b (below b inb)]
    have : a.val < b.val := lt
    omega
  · rw [ahead a (above a ina), behind b (below b inb)]
    have := a.isLt
    have : p.val < a.val := above a ina
    omega

/-- In a list sorted by a relation, what `find?` finds stands before every other element that would do. -/
theorem List.find?_first {α : Type} {r : α → α → Prop} {p : α → Bool} {l : List α} {a b : α} (sorted : l.Pairwise r)
    (found : l.find? p = some a) (mem : b ∈ l) (fits : p b = true) : b = a ∨ r a b := by
  obtain ⟨-, before, after, rfl, none_⟩ := List.find?_eq_some_iff_append.mp found
  rcases List.mem_append.mp mem with early | late
  · have := none_ b early
    rw [fits] at this
    cases this
  · rcases List.mem_cons.mp late with e | later
    · exact Or.inl e
    · exact Or.inr ((List.pairwise_cons.mp (List.pairwise_append.mp sorted).2.1).1 b later)

theorem State.chooseNext_urgent {rest : List HeadId} (queue : s.scanner.urgent = h :: rest) :
    s.chooseNext = ({ s with scanner := { s.scanner with urgent := rest } } : State).sendCommand h true := by
  unfold State.chooseNext
  split
  · next e =>
    cases e.symm.trans queue
    rfl
  · next e => cases e.symm.trans queue

theorem State.chooseNext_none (queue : s.scanner.urgent = [])
    (found : (scanOrder s.scanner.scanPos).find? (fun h => (s.head h).enrolled) = none) : s.chooseNext = s := by
  unfold State.chooseNext
  split
  · next e => cases e.symm.trans queue
  · split
    · next e => cases e.symm.trans found
    · rfl

theorem State.chooseNext_scan (queue : s.scanner.urgent = [])
    (found : (scanOrder s.scanner.scanPos).find? (fun h => (s.head h).enrolled) = some h) :
    s.chooseNext = ({ s with scanner := { s.scanner with scanPos := some h } } : State).sendCommand h false := by
  unfold State.chooseNext
  split
  · next e => cases e.symm.trans queue
  · split
    · next e =>
      cases e.symm.trans found
      rfl
    · next e => cases e.symm.trans found

/-! ### How an exchange ends (R102, R103, R105, R109) -/

/-- The exchange in flight is over. -/
def State.unflown (s : State) : State := { s with scanner := { s.scanner with inFlight := none } }

theorem State.endExchange_busy (busy : s.scanner.inFlight = some x) (f : Option Frame) :
    s.endExchange f = (s.judgeExchange x f).unflown.chooseNext := by
  unfold State.endExchange
  split
  · next e =>
    cases e.symm.trans busy
    rfl
  · next e => cases e.symm.trans busy

theorem State.judgeExchange_expired (kept : x.discard = false) : s.judgeExchange x none = s.missExchange x.head := by
  unfold State.judgeExchange
  rw [kept, if_neg (by decide)]

theorem State.judgeExchange_foreign (kept : x.discard = false) (foreign : x.answeredBy f = false) :
    s.judgeExchange x (some f) = s.missExchange x.head := by
  unfold State.judgeExchange
  rw [kept, if_neg (by decide)]
  dsimp only
  rw [foreign, if_neg (by decide)]

theorem State.judgeExchange_good (kept : x.discard = false) (good : x.answeredBy f = true) :
    s.judgeExchange x (some f) = s.goodExchange x (statusAt f) := by
  unfold State.judgeExchange
  rw [kept, if_neg (by decide)]
  dsimp only
  rw [if_pos good]

theorem InFlight.answeredBy_foreign (foreign : statusOk f = false ∨ byteAt f 0 ≠ BitVec.ofNat 8 x.head.val ∨
    (byteAt f 1).toNat ≠ x.seq) : x.answeredBy f = false := by
  have own : (byteAt f 0).toNat = x.head.val → byteAt f 0 = BitVec.ofNat 8 x.head.val := fun e => by
    rw [← e, BitVec.ofNat_toNat, BitVec.setWidth_eq]
  rw [Bool.eq_false_iff]
  intro good
  unfold InFlight.answeredBy at good
  rw [Bool.and_eq_true, Bool.and_eq_true, beq_iff_eq, beq_iff_eq] at good
  obtain ⟨⟨ok, head⟩, seq⟩ := good
  rcases foreign with e | e | e
  · rw [e] at ok
    cases ok
  · exact e (own head)
  · exact e seq

theorem State.missExchange_lockout (lockout : (s.head h).state = .lockout) : s.missExchange h = s :=
  if_pos (Or.inr lockout)

theorem State.missExchange_below (off : (s.head h).state ≠ .off) (lockout : (s.head h).state ≠ .lockout)
    (below : (s.head h).scan.miss + 1 < s.scanner.missLimit) :
    s.missExchange h =
      s.setHead h { s.head h with scan := { (s.head h).scan with miss := (s.head h).scan.miss + 1 } } :=
  (if_neg (not_or.mpr ⟨off, lockout⟩)).trans (if_neg (Nat.not_le.mpr below))

theorem State.missExchange_limit (off : (s.head h).state ≠ .off) (lockout : (s.head h).state ≠ .lockout)
    (limit : s.scanner.missLimit ≤ (s.head h).scan.miss + 1) :
    s.missExchange h =
      (s.setHead h { s.head h with scan := { (s.head h).scan with miss := 0 } }).raiseHead h .commMisses :=
  (if_neg (not_or.mpr ⟨off, lockout⟩)).trans (if_pos limit)

/-! ### The commands that end an exchange -/

theorem exec_status_early (f : Frame) (s : State) : exec (.status ⟨f, true⟩) s = .next s := by
  refine congrArg Host.Outcome.next ?_
  show s.takeEvent (fun s => s.receive ⟨f, true⟩) = s
  unfold State.takeEvent
  exact ite_self s

theorem exec_status_live (live : s.held = false) (f : Frame) :
    exec (.status ⟨f, false⟩) s = .next (s.endExchange (some f)) :=
  congrArg Host.Outcome.next (State.takeEvent_live live _)

theorem exec_replyTimer_live (live : s.held = false) : exec .replyTimerExpiry s = .next (s.endExchange none) :=
  congrArg Host.Outcome.next (State.takeEvent_live live _)

end

/-- Settles O40. -/
theorem exchangeOutcomes : Obligations.ExchangeOutcomes := by
  refine ⟨fun s => ⟨fun h rest queue => ?_, fun queue off => ?_, fun queue live => ?_⟩, fun s live => ?_⟩
  · rw [State.chooseNext_urgent queue]
    exact ⟨_, State.sendCommand_sends s { s.scanner with urgent := rest } rfl rfl h true⟩
  · refine State.chooseNext_none queue (List.find?_eq_none.mpr fun h _ enrolled => ?_)
    exact (Head.enrolled_iff _).mp enrolled (off h)
  · obtain ⟨g, on⟩ := live
    obtain ⟨h, found⟩ := Option.isSome_iff_exists.mp
      (List.find?_isSome (p := fun h => (s.head h).enrolled) |>.mpr
        ⟨g, mem_scanOrder s.scanner.scanPos g, (Head.enrolled_iff (s.head g)).mpr on⟩)
    rw [State.chooseNext_scan queue found]
    obtain ⟨flight, sends⟩ := State.sendCommand_sends s { s.scanner with scanPos := some h } rfl rfl h false
    refine ⟨h, s.flight h false, (Head.enrolled_iff (s.head h)).mp (List.find?_some (p := fun h => (s.head h).enrolled) found), flight, sends, fun f onf => ?_⟩
    have fits := (Head.enrolled_iff (s.head f)).mpr onf
    refine ⟨fun none_ => ?_, fun p some_ => ?_⟩
    · rw [none_] at found
      rcases List.find?_first allHeads_sorted found (mem_allHeads f) fits with e | lt
      · exact le_of_eq e.symm
      · exact le_of_lt lt
    · rw [some_] at found
      rcases List.find?_first (scanOrder_sorted p) found (mem_scanOrder _ f) fits with e | le
      · rw [e]
      · exact le
  · intro idle
    refine ⟨fun f => exec_status_early f s, fun none_ => ⟨fun f => ?_, ?_⟩, ?_⟩
    · obtain ⟨bytes, early⟩ := f
      cases early with
      | true => exact exec_status_early bytes s
      | false => rw [exec_status_live live, State.endExchange_none none_]
    · rw [exec_replyTimer_live live, State.endExchange_none none_]
    · intro x busy c foreign missed silent
      have frame : ∀ f u, s.judgeExchange x (some f) = u →
          exec (.status ⟨f, false⟩) s = .next (idle u).chooseNext := fun f u e => by
        rw [exec_status_live live, State.endExchange_busy busy, e]
        rfl
      have expiry : ∀ u, s.judgeExchange x none = u → exec .replyTimerExpiry s = .next (idle u).chooseNext :=
        fun u e => by
          rw [exec_replyTimer_live live, State.endExchange_busy busy, e]
          rfl
      have missing : ∀ u, x.discard = false → s.missExchange x.head = u →
          (∀ f, foreign f → exec (.status ⟨f, false⟩) s = .next (idle u).chooseNext) ∧
            exec .replyTimerExpiry s = .next (idle u).chooseNext := fun u kept e =>
        ⟨fun f other => frame f u ((State.judgeExchange_foreign kept (InFlight.answeredBy_foreign other)).trans e),
          expiry u ((State.judgeExchange_expired kept).trans e)⟩
      exact ⟨fun discard => ⟨fun f => frame f s (State.judgeExchange_discard discard s _),
          expiry s (State.judgeExchange_discard discard s _)⟩,
        fun kept off lockout below => missing missed kept (State.missExchange_below off lockout below),
        fun kept off lockout limit => missing silent kept (State.missExchange_limit off lockout limit),
        fun kept lockout => missing s kept (State.missExchange_lockout lockout)⟩

end Sys2Proof.Machine

/-! PROOFS. How a good STATUS is metered, and what its head does with it (R48, R53, R60, R63, R64, R80 to R83, R93, R95,
R104 to R109). -/

namespace Sys2Proof.Machine

section
set_option Elab.async false
variable {s t u : State} {h g : HeadId} {x : InFlight} {o : Obs} {arm : Option Arm} {c : Head}

theorem State.setHead_self (s : State) (h : HeadId) : s.setHead h (s.head h) = s := s.updHead_id h

theorem State.setHead_updHead (s : State) (h : HeadId) (c : Head) (f : Head → Head) :
    (s.setHead h c).updHead h f = s.setHead h (f c) := by
  show (s.setHead h c).setHead h _ = _
  rw [State.setHead_setHead, State.head_setHead]

theorem State.setHead_raiseMetered (s : State) (h : HeadId) (m : Metered) :
    s.raiseMetered h m =
      if s.arbiter.leakFirst then (s.raiseHeadIf m.leak h .meterLeak).raiseJumps h m
      else (s.raiseJumps h m).raiseHeadIf m.leak h .meterLeak := rfl

/-! ### The confirmation of the valves (R108) -/

theorem InFlight.expected_eq (x : InFlight) (cut : Bool) :
    x.expected cut =
      match x.arm with
      | some a => if cut then (if a.meter = .liquid then { x.valves with l := 0 } else { x.valves with s := false })
        else x.valves
      | none => x.valves := by
  unfold InFlight.expected
  cases x.arm with
  | none => rfl
  | some a =>
    cases cut with
    | false => rfl
    | true =>
      cases e : a.meter with
      | liquid => simp [e]
      | syrup => simp [e]

theorem InFlight.confirms_iff (x : InFlight) (o : Obs) :
    x.confirms o = true ↔
      o.valves.g = (x.expected o.cut).g ∧ o.valves.s = (x.expected o.cut).s ∧ o.valves.v = (x.expected o.cut).v ∧
        (if x.rampDone then o.valves.l = (x.expected o.cut).l else (o.valves.l = 0 ↔ (x.expected o.cut).l = 0)) := by
  have zero : ((o.valves.l == 0) == ((x.expected o.cut).l == 0)) = true ↔
      (o.valves.l = 0 ↔ (x.expected o.cut).l = 0) := by
    rw [beq_iff_eq, Bool.eq_iff_iff, beq_iff_eq, beq_iff_eq]
  unfold InFlight.confirms
  dsimp only
  rw [Bool.and_eq_true, Bool.and_eq_true, Bool.and_eq_true, beq_iff_eq, beq_iff_eq, beq_iff_eq, and_assoc, and_assoc]
  cases x.rampDone with
  | true => rw [if_pos rfl, if_pos rfl, beq_iff_eq]
  | false => rw [if_neg (by decide), if_neg (by decide), zero]

theorem Head.confirmStep_idle (idle : c.scan.confirm = none ∨ c.state = .lockout) (x : InFlight) (o : Obs) :
    c.confirmStep x o = (c, false) := by
  unfold Head.confirmStep
  split
  · next n e =>
    rcases idle with none_ | lockout
    · cases e.symm.trans none_
    · exact if_pos lockout
  · rfl

theorem Head.confirmStep_awaited {n : Nat} (awaited : c.scan.confirm = some n) (lockout : c.state ≠ .lockout)
    (x : InFlight) (o : Obs) :
    c.confirmStep x o =
      if x.confirms o then ({ c with scan := { c.scan with confirm := none } }, false)
      else if 1 < n then ({ c with scan := { c.scan with confirm := some (n - 1) } }, false)
      else ({ c with scan := { c.scan with confirm := none } }, true) := by
  unfold Head.confirmStep
  split
  · next e =>
    cases e.symm.trans awaited
    exact if_neg lockout
  · next e => cases e.symm.trans awaited

/-! ### The metering of a STATUS (R80 to R83) -/

/-- An increment at most the step limit, and 0 for one above it (R81). -/
def admitted (limit n : Nat) : Nat := if n ≤ limit then n else 0

theorem Head.accumulates_iff (c : Head) :
    c.accumulates = true ↔ c.bases ≠ none ∧ (c.state = .running ∨ c.record ≠ none) := by
  unfold Head.accumulates
  rw [Bool.and_eq_true, Bool.or_eq_true, Option.isSome_iff_ne_none, beq_iff_eq, Option.isSome_iff_ne_none]

theorem Head.shouldBeDry_iff (c : Head) :
    c.shouldBeDry = true ↔ c.state = .idle ∨ c.state = .seating ∨ c.state = .emptyPass ∨ c.state = .done ∨
      (c.state = .running ∧ c.meter.productStarted = false) := by
  unfold Head.shouldBeDry
  cases c.state with
  | _ => simp

theorem Head.metered_first (none_ : c.lastObs = none) (m : MeterUnit) (o : Obs) :
    c.metered m o = ⟨c, false, false, false⟩ := by
  unfold Head.metered
  split
  · rfl
  · next e => cases e.symm.trans none_

/-- The context of a head whose STATUS has been counted. -/
def Head.counted (c : Head) (m : MeterUnit) (liquid syrup : Nat) : Head :=
  ((c.addTotals (admitted m.stepLimit liquid) (admitted m.stepLimit syrup)).addLeak m.leakLimit
    (decide (liquid ≤ m.stepLimit) || decide (syrup ≤ m.stepLimit))
    (admitted m.stepLimit liquid + admitted m.stepLimit syrup)).1

/-- The leak sum crosses the leak limit for the first time (R83). -/
def Head.leaks (c : Head) (m : MeterUnit) (liquid syrup : Nat) : Bool :=
  (c.shouldBeDry && (decide (liquid ≤ m.stepLimit) || decide (syrup ≤ m.stepLimit))) &&
    (decide (m.leakLimit <
      min 65535 (c.meter.leakSum + (admitted m.stepLimit liquid + admitted m.stepLimit syrup))) &&
        !c.meter.leakRaised)

theorem Head.addTotals_meter (c : Head) (a b : Nat) :
    (c.addTotals a b).shouldBeDry = c.shouldBeDry ∧ (c.addTotals a b).meter = c.meter := by
  unfold Head.addTotals
  split <;> exact ⟨rfl, rfl⟩

theorem Head.metered_next {p : Obs} (some_ : c.lastObs = some p) (m : MeterUnit) (o : Obs) :
    c.metered m o =
      ⟨c.counted m (increment o.liquid p.liquid) (increment o.syrup p.syrup),
        decide (m.stepLimit < increment o.liquid p.liquid), decide (m.stepLimit < increment o.syrup p.syrup),
        c.leaks m (increment o.liquid p.liquid) (increment o.syrup p.syrup)⟩ := by
  have within : ∀ n, (!decide (m.stepLimit < n)) = decide (n ≤ m.stepLimit) := fun n => by
    rw [← decide_not, Bool.eq_iff_iff, decide_eq_true_iff, decide_eq_true_iff, Nat.not_lt]
  have gain : ∀ n, (if decide (m.stepLimit < n) = true then 0 else n) = admitted m.stepLimit n := fun n => by
    unfold admitted
    by_cases e : n ≤ m.stepLimit
    · rw [if_pos e, if_neg (by simpa using e)]
    · rw [if_neg e, if_pos (by simpa using e)]
  have crossing : ∀ a b n, ((c.addTotals a b).addLeak m.leakLimit n (a + b)).2 =
      ((c.shouldBeDry && n) &&
        (decide (m.leakLimit < min 65535 (c.meter.leakSum + (a + b))) && !c.meter.leakRaised)) := fun a b n => by
    obtain ⟨dry, meter⟩ := c.addTotals_meter a b
    unfold Head.addLeak
    rw [dry, meter]
    cases c.shouldBeDry with
    | false => rfl
    | true =>
      cases n with
      | false => rfl
      | true => rfl
  unfold Head.metered
  split
  · next e => cases e.symm.trans some_
  · next e =>
    cases e.symm.trans some_
    dsimp only
    rw [gain, gain, within, within, crossing]
    rfl

theorem Head.leaks_iff (c : Head) (m : MeterUnit) (liquid syrup : Nat) :
    c.leaks m liquid syrup = true ↔
      (c.shouldBeDry = true ∧ (liquid ≤ m.stepLimit ∨ syrup ≤ m.stepLimit)) ∧
        m.leakLimit < min 65535 (c.meter.leakSum + (admitted m.stepLimit liquid + admitted m.stepLimit syrup)) ∧
        c.meter.leakRaised = false := by
  unfold Head.leaks
  rw [Bool.and_eq_true, Bool.and_eq_true, Bool.and_eq_true, Bool.or_eq_true, decide_eq_true_iff, decide_eq_true_iff,
    decide_eq_true_iff, Bool.not_eq_true']

theorem Head.addTotals_eq (c : Head) (a b : Nat) :
    c.addTotals a b =
      { c with
        liquidTotal := if c.accumulates then min 262143 (c.liquidTotal + a) else c.liquidTotal
        syrupTotal := if c.accumulates then min 262143 (c.syrupTotal + b) else c.syrupTotal } := by
  unfold Head.addTotals
  cases c.accumulates with
  | true => rfl
  | false => rfl

theorem Head.counted_eq (c : Head) (m : MeterUnit) (liquid syrup : Nat) :
    c.counted m liquid syrup =
      { c with
        liquidTotal := if c.accumulates then min 262143 (c.liquidTotal + admitted m.stepLimit liquid) else c.liquidTotal
        syrupTotal := if c.accumulates then min 262143 (c.syrupTotal + admitted m.stepLimit syrup) else c.syrupTotal
        meter := { c.meter with
          leakSum := if c.shouldBeDry = true ∧ (liquid ≤ m.stepLimit ∨ syrup ≤ m.stepLimit) then
              min 65535 (c.meter.leakSum + (admitted m.stepLimit liquid + admitted m.stepLimit syrup))
            else c.meter.leakSum
          leakRaised := c.meter.leakRaised || c.leaks m liquid syrup } } := by
  obtain ⟨dry, meter⟩ := c.addTotals_meter (admitted m.stepLimit liquid) (admitted m.stepLimit syrup)
  have adds : (c.shouldBeDry = true ∧ (decide (liquid ≤ m.stepLimit) || decide (syrup ≤ m.stepLimit)) = true) ↔
      (c.shouldBeDry = true ∧ (liquid ≤ m.stepLimit ∨ syrup ≤ m.stepLimit)) := by
    rw [Bool.or_eq_true, decide_eq_true_iff, decide_eq_true_iff]
  unfold Head.counted Head.addLeak
  rw [dry, meter]
  by_cases e : c.shouldBeDry = true ∧ (liquid ≤ m.stepLimit ∨ syrup ≤ m.stepLimit)
  · have e' := adds.mpr e
    have raise : c.leaks m liquid syrup =
        (decide (m.leakLimit <
          min 65535 (c.meter.leakSum + (admitted m.stepLimit liquid + admitted m.stepLimit syrup))) &&
            !c.meter.leakRaised) := by
      unfold Head.leaks
      rw [e'.1, e'.2, Bool.true_and, Bool.true_and]
    rw [if_pos e', if_pos e, raise, Head.addTotals_eq]
  · have raise : c.leaks m liquid syrup = false := by
      rw [Bool.eq_false_iff]
      exact fun l => e ((c.leaks_iff m liquid syrup).mp l).1
    rw [if_neg (mt adds.mp e), if_neg e, raise, Bool.or_false, Head.addTotals_eq]

/-! ### The STATUS taken by the head's state (R48, R53, R63, R64) -/

/-- A head whose last observation is replaced (R80). -/
def State.observed (s : State) (h : HeadId) (o : Obs) : State := s.setHead h { s.head h with lastObs := some o }

theorem State.observed_head (s : State) (h : HeadId) (o : Obs) :
    (s.observed h o).head h = { s.head h with lastObs := some o } := State.head_setHead _ _ _

theorem State.handStatus_eq (s : State) (h : HeadId) (o : Obs) (arm : Option Arm) :
    s.handStatus h o arm =
      ((s.observed h o).headStatus h o arm).pendingTest h (((s.observed h o).headStatus h o arm).cycleAngle h) := rfl

theorem State.cycleAngle_congr (tracker : t.tracker = s.tracker) (offset : (t.head h).offset = (s.head h).offset)
    (state : (t.head h).state = (s.head h).state) : t.cycleAngle h = s.cycleAngle h := by
  unfold State.cycleAngle Head.enrolled
  rw [tracker, offset, state]

theorem State.headStatus_metered (rest : (s.head h).state = .idle ∨ (s.head h).state = .emptyPass ∨
      (s.head h).state = .done ∨ (s.head h).state = .lockout ∨ (s.head h).state = .off ∨
      ((s.head h).state = .seating ∧ o.seated = false)) (arm : Option Arm) : s.headStatus h o arm = s := by
  unfold State.headStatus
  dsimp only
  rcases rest with e | e | e | e | e | ⟨e, no⟩
  · rw [e]
  · rw [e]
  · rw [e]
  · rw [e]
  · rw [e]
  · rw [e]
    exact if_neg (by rw [no]; decide)

theorem State.headStatus_seats (seating : (s.head h).state = .seating) (seated : o.seated = true) (arm : Option Arm) :
    s.headStatus h o arm = s.seat h o := by
  unfold State.headStatus
  dsimp only
  rw [seating]
  exact if_pos seated

theorem State.headStatus_waiting (running : (s.head h).state = .running) (idle : (s.head h).phase ≠ some .active)
    (o : Obs) (arm : Option Arm) : s.headStatus h o arm = s := by
  have no : (s.head h).inPhase .active = false := by
    rw [Bool.eq_false_iff]
    exact fun e => idle ((Head.inPhase_iff _ _).mp e).2
  unfold State.headStatus
  dsimp only
  rw [running]
  dsimp only
  split
  · rw [no, if_neg (by decide)]
  · rfl

theorem State.headStatus_active {θ : Nat} (running : (s.head h).state = .running) (active : (s.head h).phase = some .active)
    (angle : s.cycleAngle h = some θ) (o : Obs) (arm : Option Arm) :
    s.headStatus h o arm = s.statusEnd h θ o arm := by
  unfold State.headStatus
  dsimp only
  rw [running]
  dsimp only
  split
  · next e =>
    cases e.symm.trans angle
    exact if_pos ((Head.inPhase_iff _ _).mpr ⟨running, active⟩)
  · next e => cases e.symm.trans angle

theorem Head.closed_iff (c : Head) (o : Obs) :
    c.closed o = true ↔
      o.valves.g = c.valves.g ∧ o.valves.s = c.valves.s ∧ o.valves.v = c.valves.v ∧ o.valves.l = 0 := by
  unfold Head.closed
  rw [Bool.and_eq_true, Bool.and_eq_true, Bool.and_eq_true, beq_iff_eq, beq_iff_eq, beq_iff_eq, beq_iff_eq, and_assoc,
    and_assoc]

/-- A STATUS moves a head in ABORTING or FORCED where it completes the safe close, and else leaves it (R63, R64). -/
theorem State.headStatus_closing (closing : (s.head h).state = .aborting ∨ (s.head h).state = .forced) (o : Obs)
    (arm : Option Arm) :
    (s.CompletesClose (s.head h) o s.predates → s.headStatus h o arm = s.leaveSafeClose h) ∧
      (¬s.CompletesClose (s.head h) o s.predates → s.headStatus h o arm = s) := by
  unfold State.headStatus State.CompletesClose
  dsimp only
  rcases closing with e | e
  · have done : ((!s.predates && (s.head h).closed o && decide (o.pressure ≤ s.sequencer.releasePressure)) = true) ↔
        s.predates = false ∧ o.valves.g = (s.head h).valves.g ∧ o.valves.s = (s.head h).valves.s ∧
          o.valves.v = (s.head h).valves.v ∧ o.valves.l = 0 ∧
          (((s.head h).state = .aborting ∧ o.pressure ≤ s.sequencer.releasePressure) ∨ (s.head h).state = .forced) := by
      rw [Bool.and_eq_true, Bool.and_eq_true, Bool.not_eq_true', Head.closed_iff, decide_eq_true_iff, e]
      simp only [true_and, reduceCtorEq, or_false, and_assoc]
    rw [← done, e]
    exact ⟨fun yes => if_pos yes, fun no => if_neg no⟩
  · have done : ((!s.predates && (s.head h).closed o) = true) ↔
        s.predates = false ∧ o.valves.g = (s.head h).valves.g ∧ o.valves.s = (s.head h).valves.s ∧
          o.valves.v = (s.head h).valves.v ∧ o.valves.l = 0 ∧
          (((s.head h).state = .aborting ∧ o.pressure ≤ s.sequencer.releasePressure) ∨ (s.head h).state = .forced) := by
      rw [Bool.and_eq_true, Bool.not_eq_true', Head.closed_iff, e]
      simp only [reduceCtorEq, false_and, false_or, and_true]
    rw [← done, e]
    exact ⟨fun yes => if_pos yes, fun no => if_neg no⟩

/-! ### Leaving a safe close (R65) -/

theorem State.leaveSafeClose_touches (s : State) (h : HeadId) : s.Touches (s.leaveSafeClose h) h := by
  have first := s.updHead_touches h fun c => { c with ventTimer := none, valves := .rest }
  have moved : ∀ st, s.Touches
      (((s.updHead h fun c => { c with ventTimer := none, valves := .rest }).changeState h st).post h) h := fun st =>
    (first.trans (State.changeState_touches _ h st)).trans (State.post_touches _ h h)
  unfold State.leaveSafeClose
  dsimp only
  split
  · exact moved .done
  · split
    · exact first.trans (State.enterOff_touches _ h)
    · exact moved .idle

theorem State.leaveSafeClose_store (s : State) (h : HeadId) : (s.leaveSafeClose h).store = s.store := by
  have moved : ∀ st, (((s.updHead h fun c => { c with ventTimer := none, valves := .rest }).changeState h st).post h
      ).store = s.store := fun st => by
    rw [State.post_store, State.changeState_store, State.updHead_store]
  unfold State.leaveSafeClose
  dsimp only
  split
  · exact moved .done
  · split
    · rw [State.enterOff_store, State.updHead_store]
    · exact moved .idle

theorem State.leaveSafeClose_done (pending : (s.head h).record ≠ none) :
    (s.leaveSafeClose h).Posted h ∧
      ((s.leaveSafeClose h).head h).butScan =
        ({ s.head h with state := .done, level := 0, valves := .rest, ventTimer := none } : Head).butScan := by
  have isSome := Option.isSome_iff_ne_none.mpr pending
  refine ⟨?_, (State.leaveSafeClose_head s h).trans ?_⟩
  · unfold State.leaveSafeClose
    dsimp only
    rw [State.head_updHead, if_pos isSome]
    exact State.post_posted (by rw [State.changeState_head_self]; rfl)
  · unfold Head.leftClose
    dsimp only
    rw [if_pos isSome]

theorem State.leaveSafeClose_off (none_ : (s.head h).record = none) (withdraw : (s.head h).withdraw = true) :
    ((s.leaveSafeClose h).head h).state = .off ∧ ((s.leaveSafeClose h).head h).offset = (s.head h).offset ∧
      ((s.leaveSafeClose h).head h).calib = (s.head h).calib ∧ ((s.leaveSafeClose h).head h).withdraw = false ∧
      h ∉ (s.leaveSafeClose h).scanner.urgent := by
  have isNone : ¬(s.head h).record.isSome = true := by rw [none_]; decide
  have run : s.leaveSafeClose h =
      (s.updHead h fun c => { c with ventTimer := none, valves := .rest }).enterOff h := by
    unfold State.leaveSafeClose
    dsimp only
    rw [State.head_updHead, if_neg isNone, if_pos withdraw]
  rw [run]
  have head := ((s.updHead h fun c => { c with ventTimer := none, valves := .rest }).enterOff_head h h).trans (if_pos rfl)
  rw [State.head_updHead] at head
  rw [head]
  exact ⟨rfl, rfl, rfl, rfl, State.enterOff_urgent _ h⟩

theorem State.leaveSafeClose_idle (none_ : (s.head h).record = none) (stays : (s.head h).withdraw = false) :
    (s.leaveSafeClose h).Posted h ∧
      ((s.leaveSafeClose h).head h).butScan =
        ({ s.head h with state := .idle, level := 0, valves := .rest, ventTimer := none } : Head).butScan := by
  have isNone : ¬(s.head h).record.isSome = true := by rw [none_]; decide
  have no : ¬(s.head h).withdraw = true := by rw [stays]; decide
  refine ⟨?_, (State.leaveSafeClose_head s h).trans ?_⟩
  · unfold State.leaveSafeClose
    dsimp only
    rw [State.head_updHead, if_neg isNone, if_neg no]
    exact State.post_posted (by rw [State.changeState_head_self]; rfl)
  · unfold Head.leftClose
    dsimp only
    rw [if_neg isNone, if_neg no]

theorem State.leaveSafeClose_left (s : State) (h : HeadId) : ((s.leaveSafeClose h).head h).state ≠ .running := by
  rw [(Head.fields_of_butScan (State.leaveSafeClose_head s h)).1]
  exact Head.not_running_of_left (Head.leftClose_abortable _)

/-! ### The end test of a segment (R53) -/

theorem SegRecord.finalCut_iff (r : SegRecord) :
    r.finalCut = true ↔ (r.kind = .fill ∨ r.kind = .trim) ∧ r.ending = .volume ∧ r.param = 1000 := by
  unfold SegRecord.finalCut
  rw [Bool.and_eq_true, Bool.and_eq_true, SegKind.fills_iff, beq_iff_eq, beq_iff_eq, and_assoc]

theorem withinBand_iff (bowl : Option Int) (bottle band : Nat) :
    withinBand bowl bottle band = true ↔
      ∃ b, bowl = some b ∧ (bottle : Int) - b ≤ band ∧ b - (bottle : Int) ≤ band := by
  unfold withinBand
  cases bowl with
  | none => exact ⟨fun no => (by cases no), fun ⟨_, no, _⟩ => (by cases no)⟩
  | some b =>
    rw [decide_eq_true_iff]
    refine ⟨fun e => ⟨b, rfl, by omega, by omega⟩, ?_⟩
    rintro ⟨_, e, above, below⟩
    cases e
    omega

theorem State.statusEnds_iff {a : Nat} (start : c.startAngle = some a) (s : State) (w : Work) (θ : Nat) (o : Obs)
    (sent : Option Arm) : s.statusEnds c w θ o sent = true ↔ s.EndsSegment c w θ a o sent := by
  have dwell : ∀ d, dwellElapsed s.tracker.cpr θ a d = true ↔ d ≤ (θ + s.tracker.cpr - a) % s.tracker.cpr := fun d => by
    unfold dwellElapsed
    exact decide_eq_true_iff
  unfold State.statusEnds State.EndsSegment
  dsimp only
  rw [start, Option.getD_some]
  cases w.record.ending with
  | volume =>
    simp only [Bool.and_eq_true, beq_iff_eq, Option.isSome_iff_ne_none, and_assoc, true_and, reduceCtorEq, false_and,
      or_false]
  | probe => simp only [Bool.and_eq_true, dwell, true_and, reduceCtorEq, false_and, or_false, false_or]
  | pressureEq =>
    simp only [Bool.and_eq_true, dwell, withinBand_iff, true_and, reduceCtorEq, false_and, or_false, false_or]
    exact and_comm
  | pressureLow =>
    simp only [Bool.and_eq_true, dwell, decide_eq_true_iff, true_and, reduceCtorEq, false_and, false_or]
  | angle => simp only [reduceCtorEq, false_and, or_self, Bool.false_eq_true]

theorem State.statusEnd_eq {w : Work} (work : (s.head h).work = some w) (θ : Nat) (o : Obs) (sent : Option Arm) :
    s.statusEnd h θ o sent =
      if s.statusEnds (s.head h) w θ o sent then
        (s.setHead h
          { s.head h with
            meter := { (s.head h).meter with finalDone := (s.head h).meter.finalDone || w.record.finalCut } }).endSegment
          h w θ
      else s := by
  unfold State.statusEnd
  split
  · next e =>
    cases e.symm.trans work
    rfl
  · next e => cases e.symm.trans work

/-! ### The start test that follows the end of a segment -/

/-- The conditions under which `GoesOn` says what follows: a RUNNING head whose profile is over, or whose next segment
is read without a parity error. -/
structure State.Going (s : State) (h : HeadId) (q : Pin) (n : Nat) (k : Calib) : Prop where
  running : (s.head h).state = .running
  pin     : (s.head h).pin = some q
  count   : (s.slot q.slot).segCount = some n
  calib   : (s.head h).calib = some k
  record  : (s.head h).record = none
  next    : n ≤ (s.head h).segIndex ∨
    ∃ i : Fin 12, (s.head h).segIndex = i.val ∧ i.val < n ∧ (s.slot q.slot).state ≠ .corrupt ∧
      (s.slot q.slot).headerClean = true ∧ (s.slot q.slot).cells[i].clean = true

/-- A start test right after the steps of a segment end changes nothing: either the next segment has started, or it
still may not. -/
theorem State.GoesOn.still {header : Header} {θ n : Nat} {q : Pin} {k : Calib} (goes : s.GoesOn t h header θ)
    (going : s.Going h q n k) (zones : t.zones = s.zones) (tracker : t.tracker = s.tracker)
    (angle : s.cycleAngle h = some θ) : t.pendingTest h (t.cycleAngle h) = t := by
  obtain ⟨running, pin, count, calib, none_, which⟩ := going
  unfold State.GoesOn at goes
  obtain ⟨last, next⟩ := goes q n k running pin count calib none_
  rcases which with least | ⟨i, at_, more, sound, clean, cell⟩
  · have done := last least
    have state : (t.head h).state = .done := congrArg Head.state done.2.2.2.2
    exact State.pendingTest_still (by rw [state]; decide) _
  · obtain ⟨only, posted, store, starts, waits⟩ := next i at_ more sound clean cell
    have slot : t.slot q.slot = s.slot q.slot := State.slot_congr store _
    cases may : s.mayStart (s.head h) (s.slot q.slot).cells[i].record.kind θ with
    | true =>
      have head := starts may
      refine State.pendingTest_idle (fun both => ?_) _
      have phase : (t.head h).phase = some .active := congrArg Head.phase head
      rw [phase] at both
      cases both.2
    | false =>
      have head := waits may
      by_cases pending : (t.head h).state = .running ∧ (t.head h).phase = some .pending
      · have pin' : (t.head h).pin = some q := (congrArg Head.pin head).trans pin
        have index : (t.head h).segIndex = i.val := (congrArg Head.segIndex head).trans at_
        have bases : (t.head h).bases = (s.head h).bases := (congrArg Head.bases head).trans rfl
        have closed : (t.head h).lastClosed = (s.head h).lastClosed := (congrArg Head.lastClosed head).trans rfl
        have test := (State.pendingTest_read (s := t) (θ := θ) pending.1 pending.2 pin' index (by rw [slot]; exact sound)
          (by rw [slot]; exact clean) (by rw [slot]; exact cell)).2
        have same : t.mayStart (t.head h) (t.slot q.slot).cells[i].record.kind θ = false := by
          rw [slot, ← may]
          unfold State.mayStart
          rw [zones, bases, closed]
        have offset : (t.head h).offset = (s.head h).offset := (congrArg Head.offset head).trans rfl
        have here : t.cycleAngle h = some θ :=
          (State.cycleAngle_congr tracker offset (pending.1.trans running.symm)).trans angle
        rw [here, test, same, if_neg (by decide)]
      · exact State.pendingTest_idle pending _

theorem State.GoesOn.tested {header : Header} {θ : Nat} (goes : s.GoesOn t h header θ) (zones : t.zones = s.zones)
    (tracker : t.tracker = s.tracker) (angle : s.cycleAngle h = some θ) :
    s.GoesOn (t.pendingTest h (t.cycleAngle h)) h header θ := by
  have still := fun (q : Pin) (n : Nat) (k : Calib) (going : s.Going h q n k) => goes.still going zones tracker angle
  unfold State.GoesOn at goes ⊢
  intro c d q n k running pin count calib none_
  obtain ⟨last, next⟩ := goes q n k running pin count calib none_
  refine ⟨fun least => ?_, fun i at_ more sound clean cell => ?_⟩
  · rw [show d = (t.pendingTest h (t.cycleAngle h)).head h from rfl,
      still q n k ⟨running, pin, count, calib, none_, Or.inl least⟩]
    exact last least
  · rw [show d = (t.pendingTest h (t.cycleAngle h)).head h from rfl,
      still q n k ⟨running, pin, count, calib, none_, Or.inr ⟨i, at_, more, sound, clean, cell⟩⟩]
    exact next i at_ more sound clean cell

end
end Sys2Proof.Machine

/-! PROOFS. The order in which a good STATUS is taken (R60, R80 to R83, R93, R95, R104 to R109). -/

namespace Sys2Proof.Machine

section
set_option Elab.async false
variable {s t u : State} {h g : HeadId} {x : InFlight} {o : Obs} {arm : Option Arm} {c : Head}

/-! ### The steps of R104 ahead of the metering -/

/-- A head that has answered, its miss count cleared and its confirmation as given. -/
def State.heard (s : State) (h : HeadId) (n : Option Nat) : State :=
  s.setHead h { s.head h with scan := { (s.head h).scan with miss := 0, confirm := n } }

theorem State.clearMisses_eq (s : State) (h : HeadId) : s.clearMisses h = s.heard h (s.head h).scan.confirm := rfl

theorem State.heard_head (s : State) (h : HeadId) (n : Option Nat) :
    (s.heard h n).head h = { s.head h with scan := { (s.head h).scan with miss := 0, confirm := n } } :=
  State.head_setHead _ _ _

theorem State.compareStatus_idle (idle : (s.head h).scan.confirm = none ∨ (s.head h).state = .lockout) (x : InFlight)
    (o : Obs) : (s.clearMisses h).compareStatus h x o = s.heard h (s.head h).scan.confirm := by
  have head := s.heard_head h (s.head h).scan.confirm
  have step := Head.confirmStep_idle (c := (s.heard h (s.head h).scan.confirm).head h) (by rw [head]; exact idle) x o
  rw [State.clearMisses_eq]
  unfold State.compareStatus
  rw [step, State.raiseHeadIf_false, State.setHead_self]

theorem State.compareStatus_awaited {n : Nat} (awaited : (s.head h).scan.confirm = some n)
    (lockout : (s.head h).state ≠ .lockout) (x : InFlight) (o : Obs) :
    (s.clearMisses h).compareStatus h x o =
      if x.confirms o then s.heard h none
      else if 1 < n then s.heard h (some (n - 1))
      else (s.heard h none).raiseHead h .valveMismatch := by
  have head := s.heard_head h (s.head h).scan.confirm
  have step := Head.confirmStep_awaited (c := (s.heard h (s.head h).scan.confirm).head h) (n := n)
    (by rw [head]; exact awaited) (by rw [head]; exact lockout) x o
  have again : ∀ m, (s.heard h (s.head h).scan.confirm).setHead h
      { (s.heard h (s.head h).scan.confirm).head h with
        scan := { ((s.heard h (s.head h).scan.confirm).head h).scan with confirm := m } } = s.heard h m := fun m => by
    rw [head]
    exact State.setHead_setHead _ _ _ _
  rw [State.clearMisses_eq]
  unfold State.compareStatus
  rw [step]
  by_cases matched : x.confirms o = true
  · rw [if_pos matched, if_pos matched, State.raiseHeadIf_false]
    exact again none
  · rw [if_neg matched, if_neg matched]
    by_cases more : 1 < n
    · rw [if_pos more, if_pos more, State.raiseHeadIf_false]
      exact again (some (n - 1))
    · rw [if_neg more, if_neg more, State.raiseHeadIf_true]
      exact congrArg (State.raiseHead · h .valveMismatch) (again none)

theorem State.takeNodeFault_eq (s : State) (h : HeadId) (node : Bool) :
    s.takeNodeFault h node =
      if node = true ∧ (s.head h).scan.nodeFault = false then
        (s.setHead h { s.head h with scan := { (s.head h).scan with nodeFault := node } }).raiseHead h .commNode
      else s.setHead h { s.head h with scan := { (s.head h).scan with nodeFault := node } } := by
  unfold State.takeNodeFault State.raiseHeadIf
  refine if_congr ?_ rfl rfl
  rw [Bool.and_eq_true, Bool.not_eq_true']

theorem State.goodExchange_live (live : (s.head x.head).state ≠ .off) (f : StatusFrame) :
    s.goodExchange x f =
      (((s.clearMisses x.head).compareStatus x.head x f.obs).takeNodeFault x.head f.nodeFault).headEvent x.head
        fun s => s.meterStatus x.head f.obs x.arm := (s.goodExchange_eq x f).trans (if_neg live)

/-- A good STATUS ends its exchange. -/
theorem State.endExchange_good {f : Frame} (busy : s.scanner.inFlight = some x) (kept : x.discard = false)
    (good : x.answeredBy f = true) (live : (s.head x.head).state ≠ .off) :
    s.endExchange (some f) =
      ((((s.clearMisses x.head).compareStatus x.head x (statusAt f).obs).takeNodeFault x.head
        (statusAt f).nodeFault).headEvent x.head fun s => s.meterStatus x.head (statusAt f).obs x.arm
        ).unflown.chooseNext := by
  rw [State.endExchange_busy busy, State.judgeExchange_good kept good, State.goodExchange_live live]

/-! ### The metering and its raises (R80) -/

/-- The STATUS is handed to its head, and the volumes of a pending record recomputed (R60). -/
def State.handed (s : State) (h : HeadId) (o : Obs) (arm : Option Arm) : State :=
  (s.handStatus h o arm).updHead h Head.refreshRecord

theorem State.meterStatus_first (none_ : (s.head h).lastObs = none) (o : Obs) (arm : Option Arm) :
    s.meterStatus h o arm = s.handed h o arm := by
  unfold State.meterStatus
  dsimp only
  rw [Head.metered_first none_, State.raiseMetered_none rfl rfl rfl, State.setHead_self]
  rfl

/-- The raises of the JUMP faults of one STATUS. -/
def State.jumped (s : State) (h : HeadId) (m : MeterUnit) (liquid syrup : Nat) : State :=
  (s.raiseHeadIf (decide (m.stepLimit < liquid)) h .meterJump).raiseHeadIf (decide (m.stepLimit < syrup)) h .meterJump

theorem State.meterStatus_next {p : Obs} (some_ : (s.head h).lastObs = some p) (o : Obs) (arm : Option Arm) :
    s.meterStatus h o arm =
      ((if s.arbiter.leakFirst then
          ((s.setHead h ((s.head h).counted s.meterUnit (increment o.liquid p.liquid) (increment o.syrup p.syrup))
            ).raiseHeadIf ((s.head h).leaks s.meterUnit (increment o.liquid p.liquid) (increment o.syrup p.syrup)) h
              .meterLeak).jumped h s.meterUnit (increment o.liquid p.liquid) (increment o.syrup p.syrup)
        else
          ((s.setHead h ((s.head h).counted s.meterUnit (increment o.liquid p.liquid) (increment o.syrup p.syrup))
            ).jumped h s.meterUnit (increment o.liquid p.liquid) (increment o.syrup p.syrup)).raiseHeadIf
              ((s.head h).leaks s.meterUnit (increment o.liquid p.liquid) (increment o.syrup p.syrup)) h .meterLeak
        ).handed h o arm) := by
  unfold State.meterStatus
  dsimp only
  rw [Head.metered_next some_]
  rfl

/-! ### The STATUS handed to its head -/

theorem State.handStatus_metered (rest : (s.head h).state = .idle ∨ (s.head h).state = .emptyPass ∨
      (s.head h).state = .done ∨ (s.head h).state = .lockout ∨ (s.head h).state = .off ∨
      ((s.head h).state = .seating ∧ o.seated = false)) (arm : Option Arm) :
    s.handStatus h o arm = s.observed h o := by
  have head := s.observed_head h o
  have still : ((s.observed h o).head h).state ≠ .running := by
    rw [head]
    rcases rest with e | e | e | e | e | ⟨e, -⟩
    all_goals
      rw [show ({ s.head h with lastObs := some o } : Head).state = _ from e]
      decide
  rw [State.handStatus_eq, State.headStatus_metered (by rw [head]; exact rest), State.pendingTest_still still]

theorem State.observed_cycleAngle (s : State) (h : HeadId) (o : Obs) : (s.observed h o).cycleAngle h = s.cycleAngle h :=
  State.cycleAngle_congr rfl (by rw [s.observed_head]) (by rw [s.observed_head])

theorem State.handStatus_waiting (running : (s.head h).state = .running) (idle : (s.head h).phase ≠ some .active)
    (o : Obs) (arm : Option Arm) : s.handStatus h o arm = (s.observed h o).pendingTest h (s.cycleAngle h) := by
  have head := s.observed_head h o
  rw [State.handStatus_eq, State.headStatus_waiting (by rw [head]; exact running) (by rw [head]; exact idle),
    s.observed_cycleAngle]

/-- The context of a head whose ACTIVE segment `w` a STATUS `o` ends at the cycle angle `θ`. -/
def Head.endedBy (c : Head) (o : Obs) (w : Work) (θ : Nat) : Head :=
  ({ c with
    lastObs := some o
    meter := { c.meter with finalDone := c.meter.finalDone || w.record.finalCut } } : Head).ended w θ

/-- A STATUS that finds a segment ACTIVE ends it, which is followed by a start test, or leaves the head as observed
(R53). -/
theorem State.handStatus_ends {w : Work} {θ a : Nat} (running : (s.head h).state = .running)
    (active : (s.head h).phase = some .active) (work : (s.head h).work = some w)
    (start : (s.head h).startAngle = some a) (angle : s.cycleAngle h = some θ) (o : Obs) (arm : Option Arm) :
    (¬s.EndsSegment (s.head h) w θ a o arm → s.handStatus h o arm = s.observed h o) ∧
      (s.EndsSegment (s.head h) w θ a o arm →
        s.handStatus h o arm =
          ((s.setHead h ((s.head h).endedBy o w θ)).afterEnd h w.header θ).pendingTest h
            (((s.setHead h ((s.head h).endedBy o w θ)).afterEnd h w.header θ).cycleAngle h)) := by
  have head := s.observed_head h o
  have running' : ((s.observed h o).head h).state = .running := by rw [head]; exact running
  have active' : ((s.observed h o).head h).phase = some .active := by rw [head]; exact active
  have angle' := (s.observed_cycleAngle h o).trans angle
  have taken := State.headStatus_active running' active' angle' o arm
  have test := State.statusEnd_eq (s := s.observed h o) (h := h) (by rw [head]; exact work) θ o arm
  have ends : (s.observed h o).statusEnds ((s.observed h o).head h) w θ o arm = true ↔
      s.EndsSegment (s.head h) w θ a o arm := by
    rw [head]
    exact State.statusEnds_iff (c := { s.head h with lastObs := some o }) start (s.observed h o) w θ o arm
  refine ⟨fun no => ?_, fun yes => ?_⟩
  · rw [if_neg (mt ends.mp no)] at test
    rw [State.handStatus_eq, taken, test]
    refine State.pendingTest_idle (fun both => ?_) _
    rw [active'] at both
    cases both.2
  · have run : (s.observed h o).headStatus h o arm =
        (s.setHead h ((s.head h).endedBy o w θ)).afterEnd h w.header θ := by
      rw [if_pos (ends.mpr yes), State.endSegment_eq, State.setHead_setHead, State.head_setHead] at test
      rw [taken, test, head]
      exact congrArg (State.afterEnd · h w.header θ) (State.setHead_setHead _ _ _ _)
    rw [State.handStatus_eq, run]

theorem State.endedBy_head (s : State) (h : HeadId) (o : Obs) (w : Work) (θ : Nat) :
    ((s.setHead h ((s.head h).endedBy o w θ)).head h) = (s.head h).endedBy o w θ := State.head_setHead _ _ _

theorem State.endedBy_cycleAngle (s : State) (h : HeadId) (o : Obs) (w : Work) (θ : Nat) :
    (s.setHead h ((s.head h).endedBy o w θ)).cycleAngle h = s.cycleAngle h :=
  State.cycleAngle_congr rfl (by rw [State.endedBy_head]; rfl) (by rw [State.endedBy_head]; rfl)

theorem State.endedBy_goesOn (s : State) (h : HeadId) (o : Obs) (w : Work) (θ : Nat) :
    (s.setHead h ((s.head h).endedBy o w θ)).GoesOn
      ((s.setHead h ((s.head h).endedBy o w θ)).afterEnd h w.header θ) h w.header θ :=
  State.afterEnd_goesOn (fun _ => by rw [State.endedBy_head]; rfl) w.header θ

/-- What the end of a segment by a STATUS leaves is left as it is by the start test that follows. -/
theorem State.endedBy_still {w : Work} {θ n : Nat} {q : Pin} {k : Calib} (angle : s.cycleAngle h = some θ)
    (going : (s.setHead h ((s.head h).endedBy o w θ)).Going h q n k) :
    ((s.setHead h ((s.head h).endedBy o w θ)).afterEnd h w.header θ).pendingTest h
        (((s.setHead h ((s.head h).endedBy o w θ)).afterEnd h w.header θ).cycleAngle h) =
      (s.setHead h ((s.head h).endedBy o w θ)).afterEnd h w.header θ := by
  have keeps := Keeps.afterEnd (.refl (s.setHead h ((s.head h).endedBy o w θ))) h w.header θ
  exact (s.endedBy_goesOn h o w θ).still going keeps.zones keeps.tracker ((s.endedBy_cycleAngle h o w θ).trans angle)

/-- A STATUS that finds a segment ACTIVE ends it or leaves the head as observed (R53). -/
theorem State.handStatus_active {w : Work} {θ a : Nat} (running : (s.head h).state = .running)
    (active : (s.head h).phase = some .active) (work : (s.head h).work = some w)
    (start : (s.head h).startAngle = some a) (angle : s.cycleAngle h = some θ) (o : Obs) (arm : Option Arm) :
    (¬s.EndsSegment (s.head h) w θ a o arm → s.handStatus h o arm = s.observed h o) ∧
      (s.EndsSegment (s.head h) w θ a o arm →
        (s.setHead h ((s.head h).endedBy o w θ)).GoesOn (s.handStatus h o arm) h w.header θ) := by
  obtain ⟨stays, ends⟩ := State.handStatus_ends running active work start angle o arm
  refine ⟨stays, fun yes => ?_⟩
  have keeps := Keeps.afterEnd (.refl (s.setHead h ((s.head h).endedBy o w θ))) h w.header θ
  rw [ends yes]
  exact (s.endedBy_goesOn h o w θ).tested keeps.zones keeps.tracker ((s.endedBy_cycleAngle h o w θ).trans angle)

/-- A STATUS that completes a safe close, and one that does not (R63 to R65). -/
theorem State.handStatus_closing (closing : (s.head h).state = .aborting ∨ (s.head h).state = .forced) (o : Obs)
    (arm : Option Arm) :
    (¬s.CompletesClose (s.head h) o s.predates → s.handStatus h o arm = s.observed h o) ∧
      (s.CompletesClose (s.head h) o s.predates → s.handStatus h o arm = (s.observed h o).leaveSafeClose h) := by
  have head := s.observed_head h o
  have closing' : ((s.observed h o).head h).state = .aborting ∨ ((s.observed h o).head h).state = .forced := by
    rw [head]
    exact closing
  have still : ((s.observed h o).head h).state ≠ .running := by
    rcases closing' with e | e
    all_goals
      rw [e]
      decide
  obtain ⟨done, stays⟩ := State.headStatus_closing closing' o arm
  have same : (s.observed h o).CompletesClose ((s.observed h o).head h) o (s.observed h o).predates ↔
      s.CompletesClose (s.head h) o s.predates := by
    rw [head]
    exact Iff.rfl
  rw [State.handStatus_eq]
  refine ⟨fun no => ?_, fun yes => ?_⟩
  · rw [stays (mt same.mp no), State.pendingTest_still still]
  · rw [done (same.mpr yes), State.pendingTest_still (State.leaveSafeClose_left _ h)]

theorem State.observed_touches (s : State) (h : HeadId) (o : Obs) : s.Touches (s.observed h o) h :=
  s.updHead_touches h fun c => { c with lastObs := some o }

/-- What a STATUS that completes a safe close leaves (R65). -/
theorem State.observed_leaves (s : State) (h : HeadId) (o : Obs) :
    s.OnlyHead ((s.observed h o).leaveSafeClose h) h ∧ ((s.observed h o).leaveSafeClose h).store = s.store ∧
      ((s.head h).record ≠ none →
        ((s.observed h o).leaveSafeClose h).Posted h ∧
          { ((s.observed h o).leaveSafeClose h).head h with scan := (s.head h).scan } =
            ({ s.head h with
              lastObs := some o, state := .done, level := 0, valves := .rest, ventTimer := none } : Head)) ∧
      ((s.head h).record = none → (s.head h).withdraw = true →
        (((s.observed h o).leaveSafeClose h).head h).state = .off ∧
          (((s.observed h o).leaveSafeClose h).head h).offset = (s.head h).offset ∧
          (((s.observed h o).leaveSafeClose h).head h).calib = (s.head h).calib ∧
          (((s.observed h o).leaveSafeClose h).head h).withdraw = false ∧
          h ∉ ((s.observed h o).leaveSafeClose h).scanner.urgent) ∧
      ((s.head h).record = none → (s.head h).withdraw = false →
        ((s.observed h o).leaveSafeClose h).Posted h ∧
          { ((s.observed h o).leaveSafeClose h).head h with scan := (s.head h).scan } =
            ({ s.head h with
              lastObs := some o, state := .idle, level := 0, valves := .rest, ventTimer := none } : Head)) := by
  have head := s.observed_head h o
  have touched := (s.observed_touches h o).trans (State.leaveSafeClose_touches _ h)
  refine ⟨touched.onlyHead, State.leaveSafeClose_store _ h, fun pending => ?_, fun none_ withdraw => ?_,
    fun none_ stays => ?_⟩
  · obtain ⟨posted, same⟩ := State.leaveSafeClose_done (s := s.observed h o) (h := h) (by rw [head]; exact pending)
    rw [head] at same
    exact ⟨posted, congrArg (fun d : Head => { d with scan := (s.head h).scan }) same⟩
  · have off := State.leaveSafeClose_off (s := s.observed h o) (h := h) (by rw [head]; exact none_)
      (by rw [head]; exact withdraw)
    rw [head] at off
    exact off
  · obtain ⟨posted, same⟩ := State.leaveSafeClose_idle (s := s.observed h o) (h := h) (by rw [head]; exact none_)
      (by rw [head]; exact stays)
    rw [head] at same
    exact ⟨posted, congrArg (fun d : Head => { d with scan := (s.head h).scan }) same⟩

theorem State.changeState_eq (s : State) (h : HeadId) (st : HeadState) :
    s.changeState h st =
      { s.setHead h { s.head h with state := st, level := st.level } with
        scanner := { s.scanner with
          inFlight := s.scanner.inFlight.map fun x =>
            if x.head = h ∧ (s.head h).state ≠ st then { x with predates := true } else x } } := by
  unfold State.changeState
  dsimp only
  by_cases same : (s.head h).state = st
  · have kept : (s.scanner.inFlight.map fun x =>
        if x.head = h ∧ (s.head h).state ≠ st then { x with predates := true } else x) = s.scanner.inFlight := by
      refine (Option.map_congr fun x _ => if_neg fun both => both.2 same).trans ?_
      exact Option.map_id'
    rw [kept, if_neg (by simp [same])]
    rfl
  · have marked : (fun x : InFlight => if x.head = h then { x with predates := true } else x) =
        fun x => if x.head = h ∧ (s.head h).state ≠ st then { x with predates := true } else x := by
      funext x
      exact if_congr (and_iff_left same).symm rfl rfl
    rw [if_pos (by simpa using same), ← marked]
    rfl

end

/-- Settles O42. -/
theorem statusIsTakenInOrder : Obligations.StatusIsTakenInOrder := by
  refine ⟨?_, ?_, ?_, fun s h st => ⟨rfl, s.changeState_eq h st⟩⟩
  · intro s x f live busy kept good on h c o node sent matched heard
    have confirms : x.confirms o = true ↔ matched := by
      have decides := x.confirms_iff o
      rw [InFlight.expected_eq] at decides
      exact decides
    refine ⟨(s.clearMisses h).compareStatus h x o, fun idle => State.compareStatus_idle idle x o,
      fun n awaited lockout yes => ?_, fun n awaited lockout no more => ?_, fun n awaited lockout no last => ?_, ?_⟩
    · rw [State.compareStatus_awaited awaited lockout, if_pos (confirms.mpr yes)]
      rfl
    · rw [State.compareStatus_awaited awaited lockout, if_neg (mt confirms.mp no), if_pos more]
      rfl
    · rw [State.compareStatus_awaited awaited lockout, if_neg (mt confirms.mp no), if_neg (Nat.not_lt.mpr last)]
      rfl
    · intro seen told t
      rw [exec_status_live live, State.endExchange_good busy kept good on, State.takeNodeFault_eq]
      rfl
  · intro s h o arm c hand
    refine ⟨fun none_ => State.meterStatus_first none_ o arm, fun p some_ => ?_⟩
    intro liquid syrup limit gain counts dry adds sum leaks counted leak jumps
    have fresh := State.meterStatus_next some_ o arm
    have add : c.accumulates = true ↔ counts := c.accumulates_iff
    have sums : (c.shouldBeDry = true ∧ (liquid ≤ limit ∨ syrup ≤ limit)) ↔ adds := and_congr_left fun _ =>
      c.shouldBeDry_iff
    have leak_ : c.leaks s.meterUnit liquid syrup = true ↔ leaks :=
      (c.leaks_iff s.meterUnit liquid syrup).trans (and_congr_left fun _ => sums)
    have total : ∀ (n : Nat) (held : Nat), (if c.accumulates = true then min 262143 (held + admitted limit n) else held) =
        if counts ∧ n ≤ limit then min 262143 (held + n) else if counts then min 262143 held else held := by
      intro n held
      unfold admitted
      by_cases yes : counts
      · rw [if_pos (add.mpr yes)]
        by_cases fits : n ≤ limit
        · rw [if_pos fits, if_pos ⟨yes, fits⟩]
        · rw [if_neg fits, if_neg (fun both => fits both.2), if_pos yes]
          rfl
      · rw [if_neg (mt add.mp yes), if_neg (fun both => yes both.1), if_neg yes]
    have raised : (c.meter.leakRaised || c.leaks s.meterUnit liquid syrup) =
        if leaks then true else c.meter.leakRaised := by
      by_cases yes : leaks
      · rw [leak_.mpr yes, if_pos yes, Bool.or_true]
      · rw [Bool.eq_false_iff.mpr (mt leak_.mp yes), if_neg yes, Bool.or_false]
    have head : s.setHead h (c.counted s.meterUnit liquid syrup) = counted := by
      refine congrArg (s.setHead h) ?_
      rw [Head.counted_eq, total, total, raised, if_congr sums rfl rfl]
      rfl
    have leaked : ∀ u : State, u.raiseHeadIf (c.leaks s.meterUnit liquid syrup) h .meterLeak = leak u := fun u =>
      if_congr leak_ rfl rfl
    have jumped : ∀ u : State, u.jumped h s.meterUnit liquid syrup = jumps u := fun u => by
      have jump : ∀ (v : State) (n : Nat), v.raiseHeadIf (decide (limit < n)) h .meterJump =
          if limit < n then v.raiseHead h .meterJump else v := fun v n => if_congr decide_eq_true_iff rfl rfl
      exact (jump _ syrup).trans (by rw [show u.raiseHeadIf _ h .meterJump = _ from jump u liquid])
    refine fresh.trans ?_
    show State.handed (if s.arbiter.leakFirst = true then
        ((s.setHead h (c.counted s.meterUnit liquid syrup)).raiseHeadIf (c.leaks s.meterUnit liquid syrup) h .meterLeak
          ).jumped h s.meterUnit liquid syrup
      else
        ((s.setHead h (c.counted s.meterUnit liquid syrup)).jumped h s.meterUnit liquid syrup).raiseHeadIf
          (c.leaks s.meterUnit liquid syrup) h .meterLeak) h o arm = _
    rw [head, leaked, leaked, jumped, jumped]
    rfl
  · intro s h o arm c w t
    refine ⟨fun rest => State.handStatus_metered rest arm, fun seating seated => ?_,
      fun running idle => State.handStatus_waiting running idle o arm, fun seg θ a running active work start angle => ?_,
      fun closing => ?_⟩
    · intro u v
      have head := s.observed_head h o
      have run : (s.observed h o).headStatus h o arm = v :=
        State.headStatus_seats (by rw [head]; exact seating) seated arm
      exact (State.handStatus_eq s h o arm).trans (by rw [run])
    · intro final finished
      obtain ⟨stays, goes⟩ := State.handStatus_active running active work start angle o arm
      refine ⟨stays, fun yes => ?_⟩
      have cut : seg.record.finalCut = decide final := by
        rw [Bool.eq_iff_iff, SegRecord.finalCut_iff, decide_eq_true_iff]
      have run := goes yes
      unfold Head.endedBy at run
      rw [cut] at run
      exact run
    · intro d
      obtain ⟨stays, leaves⟩ := State.handStatus_closing closing o arm
      refine ⟨stays, fun yes => ?_⟩
      rw [show d = t.head h from rfl, show t = _ from leaves yes]
      exact s.observed_leaves h o

end Sys2Proof.Machine

/-! PROOFS. A good STATUS that raises nothing, by the head's state (R48, R53, R60, R63 to R65, R80 to R83, R104). -/

namespace Sys2Proof.Machine

section
set_option Elab.async false
variable {s t u : State} {h g : HeadId} {x : InFlight} {o p : Obs} {arm : Option Arm} {c : Head} {f : Frame} {θ : Nat}

/-! ### Urgent exchanges posted on a busy bus (R97, R98) -/

theorem State.post_queued (on : (s.head h).enrolled = true) (busy : s.scanner.inFlight ≠ none) :
    h ∈ (s.post h).scanner.urgent := by
  unfold State.post
  split
  · dsimp only
    rw [if_neg (by simpa using busy)]
    exact List.mem_append_right _ (List.mem_singleton_self h)
  · next out => exact not_not.mp fun c => out ⟨on, c⟩

theorem State.changeState_busy (busy : s.scanner.inFlight ≠ none) (h : HeadId) (st : HeadState) :
    (s.changeState h st).scanner.inFlight ≠ none := mt (State.changeState_idle s h st).mp busy

/-! ### What follows the end of a segment, carried on -/

theorem State.OnlyHead.trans (a : s.OnlyHead t h) (b : t.OnlyHead u h) : s.OnlyHead u h := by
  obtain ⟨a1, a2, a3, a4, a5, a6, a7, a8, a9, a10, a11, a12, a13, a14⟩ := a
  obtain ⟨b1, b2, b3, b4, b5, b6, b7, b8, b9, b10, b11, b12, b13, b14⟩ := b
  refine ⟨b1.trans a1, b2.trans a2, b3.trans a3, b4.trans a4, b5.trans a5, b6.trans a6, b7.trans a7, b8.trans a8,
    b9.trans a9, b10.trans a10, b11.trans a11, b12.trans a12, b13.trans a13, fun g ne => ?_⟩
  have first := congrArg (fun d : Head => { d with scan := (s.head g).scan }) (b14 g ne)
  exact first.trans (a14 g ne)

/-- What is true of `t` after a segment end is true of `u`, where they differ in the bus alone. -/
theorem State.GoesOn.carry {header : Header} (goes : s.GoesOn t h header θ)
    (same : ∀ q n k, s.Going h q n k →
      t.OnlyHead u h ∧ u.store = t.store ∧ (u.head h).butScan = (t.head h).butScan ∧ u.Posted h) :
    s.GoesOn u h header θ := by
  unfold State.GoesOn at goes ⊢
  intro c d q n k running pin count calib none_
  obtain ⟨last, next⟩ := goes q n k running pin count calib none_
  refine ⟨fun least => ?_, fun i at_ more sound clean cell => ?_⟩
  · obtain ⟨only, -, gives, slots, head⟩ := last least
    obtain ⟨only', store, head', posted⟩ := same q n k ⟨running, pin, count, calib, none_, Or.inl least⟩
    have kept : ({ d with scan := c.scan } : Head) = { t.head h with scan := c.scan } :=
      congrArg (fun y : Head => { y with scan := c.scan }) head'
    refine ⟨only.trans only', posted, ?_, fun j ne => ?_, kept.trans head⟩
    · rw [State.slot_congr store]
      exact gives
    · rw [State.slot_congr store]
      exact slots j ne
  · obtain ⟨only, -, store, starts, waits⟩ := next i at_ more sound clean cell
    obtain ⟨only', store', head', posted⟩ :=
      same q n k ⟨running, pin, count, calib, none_, Or.inr ⟨i, at_, more, sound, clean, cell⟩⟩
    have kept : ({ d with scan := c.scan } : Head) = { t.head h with scan := c.scan } :=
      congrArg (fun y : Head => { y with scan := c.scan }) head'
    exact ⟨only.trans only', posted, store'.trans store, fun may => kept.trans (starts may),
      fun may => kept.trans (waits may)⟩

theorem State.releasePin_busy (busy : s.scanner.inFlight ≠ none) (h : HeadId) :
    (s.releasePin h).scanner.inFlight ≠ none := by rwa [State.releasePin_scanner]

/-- On a busy bus the exchange posted by the steps of a segment end waits in the urgent queue. -/
theorem State.afterEnd_queued {q : Pin} {n : Nat} {k : Calib} (going : s.Going h q n k)
    (busy : s.scanner.inFlight ≠ none) (header : Header) (θ : Nat) :
    h ∈ (s.afterEnd h header θ).scanner.urgent := by
  rcases going.next with last | ⟨i, at_, more, sound, clean, cell⟩
  · rw [State.afterEnd_over going.running going.pin going.count last, State.finishCycle_eq]
    refine State.post_queued (by rw [State.finished_head]; rfl) ?_
    unfold State.finished
    rw [State.updHead_scanner]
    refine State.changeState_busy (State.releasePin_busy ?_ h) h .done
    exact busy
  · obtain ⟨-, test⟩ := State.startTest_read (θ := θ) going.pin at_ sound clean cell
    have started : ((s.startTest h (some θ)).head h).state = .running ∧
        (s.startTest h (some θ)).scanner = s.scanner := by
      rw [test]
      split
      · rw [State.head_setHead, (Head.startSegment_phase _ _ _).2]
        exact ⟨going.running, rfl⟩
      · exact ⟨going.running, rfl⟩
    rw [State.afterEnd_next going.running going.pin going.count (lt_of_eq_of_lt at_ more) header θ started.1]
    refine State.post_queued ?_ ?_
    · rw [Head.enrolled_iff]
      split
      · rw [started.1]
        decide
      · rw [State.head_updHead]
        show ((s.startTest h (some θ)).head h).state ≠ .off
        rw [started.1]
        decide
    · split
      · rw [started.2]
        exact busy
      · rw [State.updHead_scanner, started.2]
        exact busy

/-! ### The end of the exchange -/

/-- The exchange in flight is over and the next one chosen. -/
def State.concluded (s : State) : State := s.unflown.chooseNext

theorem State.concluded_only (t : State) (h : HeadId) : t.OnlyHead t.concluded h :=
  (State.chooseNext_touches t.unflown h).onlyHead

theorem State.concluded_head (t : State) (h : HeadId) : (t.concluded.head h).butScan = (t.head h).butScan :=
  State.chooseNext_butScan t.unflown h

theorem State.concluded_store (t : State) : t.concluded.store = t.store := by
  unfold State.concluded State.chooseNext
  split
  · rfl
  · split <;> rfl

theorem State.concluded_posted (waits : h ∈ t.scanner.urgent) : t.concluded.Posted h :=
  State.Posted.chooseNext (s := t.unflown) (Or.inl waits) rfl

theorem State.concluded_absent (absent : h ∉ t.scanner.urgent) : h ∉ t.concluded.scanner.urgent := by
  unfold State.concluded State.chooseNext
  split
  · next e =>
    exact fun mem => absent (by
      rw [show t.scanner.urgent = _ from e]
      exact List.mem_cons_of_mem _ mem)
  · split
    · exact absent
    · exact absent

/-! ### A pending record's volumes (R60) -/

theorem Head.refreshRecord_none (none_ : c.record = none) : c.refreshRecord = c := by
  unfold Head.refreshRecord
  rw [none_]
  show ({ c with record := none } : Head) = c
  rw [← none_]

theorem State.updHead_refreshed (same : (t.head h).refreshRecord = t.head h) :
    t.updHead h Head.refreshRecord = t := by
  show t.setHead h (t.head h).refreshRecord = t
  rw [same, State.setHead_self]

/-! ### A STATUS that raises nothing -/

/-- The context of a head that a quiet STATUS has been metered to, its last observation not yet replaced. -/
def Head.quiet (c : Head) (o p : Obs) : Head :=
  { c with
    liquidTotal :=
      if c.accumulates then min 262143 (c.liquidTotal + increment o.liquid p.liquid) else c.liquidTotal
    syrupTotal := if c.accumulates then min 262143 (c.syrupTotal + increment o.syrup p.syrup) else c.syrupTotal
    meter := { c.meter with
      leakSum :=
        if c.shouldBeDry then
          min 65535 (c.meter.leakSum + (increment o.liquid p.liquid + increment o.syrup p.syrup))
        else c.meter.leakSum }
    scan := { c.scan with miss := 0, nodeFault := false } }

/-- A quiet STATUS meters its head, hands itself to it, and ends the exchange. -/
theorem State.QuietStatus.run (q : s.QuietStatus x f p) (on : (s.head x.head).state ≠ .off) :
    exec (.status ⟨f, false⟩) s =
      .next ((s.setHead x.head ((s.head x.head).quiet (statusAt f).obs p)).handed x.head (statusAt f).obs x.arm
        ).concluded := by
  obtain ⟨live, busy, kept, good, node, clean, confirm, last, liquid, syrup, leak⟩ := q
  let c : Head := s.head x.head
  let d : Head := { c with scan := { c.scan with miss := 0, nodeFault := false } }
  let m := s.meterUnit
  let o := (statusAt f).obs
  have taken : ((s.clearMisses x.head).compareStatus x.head x o).takeNodeFault x.head (statusAt f).nodeFault =
      s.setHead x.head d := by
    rw [State.compareStatus_idle (Or.inl confirm), State.takeNodeFault_eq, node,
      if_neg (fun both => by cases both.1), s.heard_head]
    exact State.setHead_setHead _ _ _ _
  have head : (s.setHead x.head d).head x.head = d := State.head_setHead _ _ _
  have gain : ∀ n, n ≤ m.stepLimit → admitted m.stepLimit n = n := fun n fits => if_pos fits
  have dry : d.leaks m (increment o.liquid p.liquid) (increment o.syrup p.syrup) = false := by
    rw [Bool.eq_false_iff]
    intro leaks
    obtain ⟨⟨dry, -⟩, exceeds, fresh⟩ := (d.leaks_iff m _ _).mp leaks
    rw [gain _ liquid, gain _ syrup] at exceeds
    rcases leak dry with within | raised
    · exact absurd exceeds (Nat.not_lt.mpr within)
    · exact absurd (raised.symm.trans fresh) (by decide)
  have counted : d.counted m (increment o.liquid p.liquid) (increment o.syrup p.syrup) = c.quiet o p := by
    have adds : (d.shouldBeDry = true ∧ (increment o.liquid p.liquid ≤ m.stepLimit ∨
        increment o.syrup p.syrup ≤ m.stepLimit)) ↔ c.shouldBeDry = true :=
      ⟨And.left, fun yes => ⟨yes, Or.inl liquid⟩⟩
    rw [Head.counted_eq, dry, Bool.or_false, gain _ liquid, gain _ syrup, if_congr adds rfl rfl]
    rfl
  have jumped : ∀ u : State, u.jumped x.head m (increment o.liquid p.liquid) (increment o.syrup p.syrup) = u :=
    fun u => by
      unfold State.jumped
      rw [decide_eq_false (Nat.not_lt.mpr liquid), decide_eq_false (Nat.not_lt.mpr syrup), State.raiseHeadIf_false,
        State.raiseHeadIf_false]
  have metered : (s.setHead x.head d).meterStatus x.head o x.arm =
      (s.setHead x.head (c.quiet o p)).handed x.head o x.arm := by
    have next := State.meterStatus_next (s := s.setHead x.head d) (h := x.head) (by rw [head]; exact last) o x.arm
    rw [head, show (s.setHead x.head d).meterUnit = m from rfl, counted, dry, State.raiseHeadIf_false,
      State.raiseHeadIf_false, jumped, ite_self, State.setHead_setHead] at next
    exact next
  rw [exec_status_live live, State.endExchange_good busy kept good on, taken,
    State.headEvent_taken (by rw [head]; exact on) (by rw [head]; exact clean), metered]
  rfl

/-- The state in which a quiet STATUS has been metered, before it is handed to its head. -/
def State.quietly (s : State) (h : HeadId) (o p : Obs) : State := s.setHead h ((s.head h).quiet o p)

theorem State.quietly_head (s : State) (h : HeadId) (o p : Obs) : (s.quietly h o p).head h = (s.head h).quiet o p :=
  State.head_setHead _ _ _

theorem State.quietly_touches (s : State) (h : HeadId) (o p : Obs) : s.Touches (s.quietly h o p) h :=
  s.updHead_touches h fun _ => (s.head h).quiet o p

theorem State.quietly_cycleAngle (s : State) (h : HeadId) (o p : Obs) : (s.quietly h o p).cycleAngle h = s.cycleAngle h :=
  State.cycleAngle_congr rfl (by rw [State.quietly_head]; rfl) (by rw [State.quietly_head]; rfl)

theorem State.quietly_busy (busy : s.scanner.inFlight = some x) (o p : Obs) :
    (s.quietly h o p).scanner.inFlight ≠ none ∧ (s.quietly h o p).predates = x.predates := by
  have busy' : (s.quietly h o p).scanner.inFlight = some x := busy
  unfold State.predates
  rw [busy']
  exact ⟨fun none_ => (by cases none_), rfl⟩

/-- The context of a head that a quiet STATUS has been metered to and that has observed it. -/
def Head.seen (c : Head) (o p : Obs) : Head := { c.quiet o p with lastObs := some o }

/-- What a quiet STATUS counts, by what the head counts. -/
theorem Head.seen_eq {adds dry : Bool} (counts : c.accumulates = adds) (rests : c.shouldBeDry = dry) (o p : Obs) :
    c.seen o p =
      { c with
        lastObs := some o, scan := { c.scan with miss := 0, nodeFault := false }
        liquidTotal := if adds then min 262143 (c.liquidTotal + increment o.liquid p.liquid) else c.liquidTotal
        syrupTotal := if adds then min 262143 (c.syrupTotal + increment o.syrup p.syrup) else c.syrupTotal
        meter :=
          if dry then
            { c.meter with
              leakSum :=
                min 65535 (c.meter.leakSum + (increment o.liquid p.liquid + increment o.syrup p.syrup)) }
          else c.meter } := by
  subst counts rests
  unfold Head.seen Head.quiet
  cases c.shouldBeDry with
  | _ => rfl

theorem Head.accumulates_none (bases : c.bases = none) : c.accumulates = false := by
  rw [Bool.eq_false_iff]
  exact fun yes => (c.accumulates_iff.mp yes).1 bases

/-- A quiet STATUS that leaves its head as observed. -/
theorem State.QuietStatus.left (q : s.QuietStatus x f p) (on : (s.head x.head).state ≠ .off)
    (stays : (s.quietly x.head (statusAt f).obs p).handStatus x.head (statusAt f).obs x.arm =
      (s.quietly x.head (statusAt f).obs p).observed x.head (statusAt f).obs) :
    exec (.status ⟨f, false⟩) s =
      .next (s.setHead x.head ((s.head x.head).seen (statusAt f).obs p).refreshRecord).concluded := by
  have run := q.run on
  unfold State.handed at run
  rw [show s.setHead x.head ((s.head x.head).quiet (statusAt f).obs p) = s.quietly x.head (statusAt f).obs p from rfl,
    stays] at run
  unfold State.observed State.quietly at run
  rw [State.head_setHead, State.setHead_setHead, State.setHead_updHead] at run
  exact run

/-! ### The bottle is seen (R48) -/

/-- The context of a head that has seen its bottle. -/
def Head.seatedBy (c : Head) (o : Obs) : Head :=
  { c with
    lastObs := some o, state := .running, level := 0, bases := some { liquid := o.liquid, syrup := o.syrup }
    phase := some .pending, startAngle := none }

theorem State.seat_head (s : State) (h : HeadId) (o : Obs) :
    ((s.observed h o).seat h o).head h = (s.head h).seatedBy o := by
  unfold State.seat
  rw [State.head_updHead, State.changeState_head_self, State.observed_head]
  rfl

theorem State.seat_touches (s : State) (h : HeadId) (o : Obs) : s.Touches ((s.observed h o).seat h o) h :=
  ((s.observed_touches h o).trans (State.changeState_touches _ h .running)).trans (State.updHead_touches _ h _)

theorem State.seat_store (s : State) (h : HeadId) (o : Obs) : ((s.observed h o).seat h o).store = s.store := by
  unfold State.seat
  rw [State.updHead_store, State.changeState_store]
  rfl

/-- A STATUS that shows a SEATING head its bottle captures the bases and makes the first start test (R48, R50). -/
theorem State.handStatus_seats {q : Pin} {i : Fin 12} (head : s.head h = c) (seating : c.state = .seating) (seated : o.seated = true)
    (pin : c.pin = some q) (at_ : c.segIndex = i.val) (sound : (s.slot q.slot).state ≠ .corrupt)
    (header : (s.slot q.slot).headerClean = true) (cell : (s.slot q.slot).cells[i].clean = true) (arm : Option Arm)
    {starts : Nat → Prop}
    (may : ∀ θ, starts θ ↔ s.cycleAngle h = some θ ∧
      s.mayStart (c.seatedBy o) (s.slot q.slot).cells[i].record.kind θ = true) :
    s.OnlyHead (s.handStatus h o arm) h ∧ (s.handStatus h o arm).store = s.store ∧
      (∀ θ, starts θ →
        ((s.handStatus h o arm).head h).butScan =
          ((c.seatedBy o).startSegment
            { header := (s.slot q.slot).header, record := (s.slot q.slot).cells[i].record } θ).butScan) ∧
      ((∀ θ, ¬starts θ) → ((s.handStatus h o arm).head h).butScan = (c.seatedBy o).butScan) := by
  subst head
  let v := (s.observed h o).seat h o
  have head : v.head h = (s.head h).seatedBy o := s.seat_head h o
  have touched := s.seat_touches h o
  have store : v.store = s.store := s.seat_store h o
  have slot : v.slot q.slot = s.slot q.slot := State.slot_congr store _
  have angle : v.cycleAngle h = s.cycleAngle h := by
    unfold State.cycleAngle
    rw [touched.tracker, head, Head.enrolled, Head.enrolled, seating]
    rfl
  have run : s.handStatus h o arm = v.pendingTest h (s.cycleAngle h) := by
    rw [State.handStatus_eq, State.headStatus_seats (by rw [State.observed_head]; exact seating) seated, angle]
  have same : ∀ θ, v.mayStart (v.head h) (v.slot q.slot).cells[i].record.kind θ =
      s.mayStart ((s.head h).seatedBy o) (s.slot q.slot).cells[i].record.kind θ := fun θ => by
    unfold State.mayStart
    rw [touched.zones, head, slot]
  have read := fun θ => State.pendingTest_read (s := v) (h := h) (q := q) (i := i) (θ := θ) (by rw [head]; rfl)
    (by rw [head]; rfl) (by rw [head]; exact pin) (by rw [head]; exact at_) (by rw [slot]; exact sound)
    (by rw [slot]; exact header) (by rw [slot]; exact cell)
  have waits : s.handStatus h o arm = v → (∀ θ, ¬starts θ) →
      s.OnlyHead (s.handStatus h o arm) h ∧ (s.handStatus h o arm).store = s.store ∧
      (∀ θ, starts θ →
        ((s.handStatus h o arm).head h).butScan =
          (((s.head h).seatedBy o).startSegment
            { header := (s.slot q.slot).header, record := (s.slot q.slot).cells[i].record } θ).butScan) ∧
      ((∀ θ, ¬starts θ) → ((s.handStatus h o arm).head h).butScan = ((s.head h).seatedBy o).butScan) := fun same no => by
    rw [same]
    exact ⟨touched.onlyHead, store, fun θ yes => absurd yes (no θ), fun _ => congrArg Head.butScan head⟩
  cases here : s.cycleAngle h with
  | none =>
    refine waits (by rw [run, here, (read 0).1]) fun θ yes => ?_
    cases here.symm.trans ((may θ).mp yes).1
  | some θ =>
    have only : ∀ θ', starts θ' → θ' = θ := fun θ' yes => Option.some.inj (((may θ').mp yes).1.symm.trans here)
    have test := (read θ).2
    rw [← here, ← run, same] at test
    by_cases yes : s.mayStart ((s.head h).seatedBy o) (s.slot q.slot).cells[i].record.kind θ = true
    · rw [if_pos yes, slot] at test
      obtain ⟨only', -, store', head'⟩ := State.started_posts (s := v) (h := h) (by rw [head]; rfl)
        { header := (s.slot q.slot).header, record := (s.slot q.slot).cells[i].record } θ
      rw [test]
      refine ⟨touched.onlyHead.trans only', store'.trans store, fun θ' starts' => ?_, fun no =>
        absurd ((may θ).mpr ⟨here, yes⟩) (no θ)⟩
      rw [only θ' starts', head', head]
    · rw [if_neg yes] at test
      exact waits test fun θ' starts' => yes (by rw [← only θ' starts']; exact ((may θ').mp starts').2)

/-! ### A segment ends (R53, R56, R57) -/

theorem Head.syrupVolume_of {k : Calib} (calib : c.calib = some k) :
    c.syrupVolume = volumeOf k.syrupK k.syrupTrim c.syrupTotal := by
  unfold Head.syrupVolume
  rw [calib]

theorem Head.refreshRecord_same {r : DoseRecord} (some_ : c.record = some r) (liquid : r.liquid = c.liquidVolume)
    (syrup : r.syrup = c.syrupVolume) : c.refreshRecord = c := by
  unfold Head.refreshRecord
  rw [some_, ← liquid, ← syrup]
  show ({ c with record := some r } : Head) = c
  rw [← some_]

/-- The volumes of the record of a judged bottle are those of its totals. -/
theorem State.GoesOn.refreshed {header : Header} {n : Nat} {q : Pin} {k : Calib} (goes : s.GoesOn t h header θ)
    (going : s.Going h q n k) : (t.head h).refreshRecord = t.head h := by
  obtain ⟨running, pin, count, calib, none_, which⟩ := going
  unfold State.GoesOn at goes
  obtain ⟨last, next⟩ := goes q n k running pin count calib none_
  rcases which with least | ⟨i, at_, more, sound, clean, cell⟩
  · have done := (last least).2.2.2.2
    have calib' : (t.head h).calib = some k := (congrArg Head.calib done).trans calib
    have liquid : (t.head h).liquidTotal = (s.head h).liquidTotal := (congrArg Head.liquidTotal done).trans rfl
    have syrup : (t.head h).syrupTotal = (s.head h).syrupTotal := (congrArg Head.syrupTotal done).trans rfl
    exact Head.refreshRecord_same ((congrArg Head.record done).trans rfl)
      (by rw [Head.liquidVolume_of calib', liquid]) (by rw [Head.syrupVolume_of calib', syrup])
  · obtain ⟨-, -, -, starts, waits⟩ := next i at_ more sound clean cell
    refine Head.refreshRecord_none ?_
    cases may : s.mayStart (s.head h) (s.slot q.slot).cells[i].record.kind θ with
    | true => exact ((congrArg Head.record (starts may)).trans rfl).trans none_
    | false => exact ((congrArg Head.record (waits may)).trans rfl).trans none_

/-- A segment that a STATUS ends on a busy bus, to the end of the exchange. -/
theorem State.handed_ends {w : Work} {a : Nat} (head : s.head h = c) (running : c.state = .running)
    (active : c.phase = some .active) (work : c.work = some w)
    (start : c.startAngle = some a) (angle : s.cycleAngle h = some θ) (busy : s.scanner.inFlight ≠ none)
    (ends : s.EndsSegment c w θ a o arm) :
    (s.setHead h (c.endedBy o w θ)).GoesOn (s.handed h o arm).concluded h w.header θ := by
  subst head
  have run := (State.handStatus_ends running active work start angle o arm).2 ends
  have goes := (State.handStatus_active running active work start angle o arm).2 ends
  refine goes.carry fun q n k going => ?_
  have handed : s.handed h o arm = s.handStatus h o arm := State.updHead_refreshed (goes.refreshed going)
  have waits : h ∈ (s.handStatus h o arm).scanner.urgent := by
    rw [run, State.endedBy_still angle going]
    exact State.afterEnd_queued going busy w.header θ
  rw [handed]
  exact ⟨State.concluded_only _ h, State.concluded_store _, State.concluded_head _ h, State.concluded_posted waits⟩

/-! ### A safe close is left (R65) -/

theorem State.leaveSafeClose_queued (busy : s.scanner.inFlight ≠ none)
    (stays : (s.head h).record ≠ none ∨ (s.head h).withdraw = false) :
    h ∈ (s.leaveSafeClose h).scanner.urgent := by
  have moved : ∀ st, st ≠ .off →
      h ∈ (((s.updHead h fun c => { c with ventTimer := none, valves := .rest }).changeState h st).post h
        ).scanner.urgent := fun st on => by
    refine State.post_queued ?_ (State.changeState_busy
      (s := s.updHead h fun c => { c with ventTimer := none, valves := .rest }) busy h st)
    rw [State.changeState_head_self, Head.enrolled_iff]
    exact on
  unfold State.leaveSafeClose
  dsimp only
  rw [State.head_updHead]
  split
  · exact moved .done (by decide)
  · next no =>
    split
    · next withdraw =>
      rcases stays with pending | stay
      · exact absurd (Option.isSome_iff_ne_none.mpr pending) no
      · cases stay.symm.trans withdraw
    · exact moved .idle (by decide)

/-- The context of a head that has left its safe close for a state with a STATUS observed, its record's volumes those of
its totals. -/
def Head.closedTo (c : Head) (o : Obs) (st : HeadState) : Head :=
  { ({ c with lastObs := some o } : Head).refreshRecord with
    state := st, level := 0, valves := .rest, ventTimer := none }

theorem Head.kept_of_butScan {d : Head} (same : d.butScan = c.refreshRecord.butScan) :
    d.state = c.state ∧ d.offset = c.offset ∧ d.calib = c.calib ∧ d.withdraw = c.withdraw := by
  obtain ⟨r, rfl⟩ := Head.exists_scan same
  exact ⟨rfl, rfl, rfl, rfl⟩

theorem Head.closedTo_of {d : Head} {k : ScanRecord} {st : HeadState}
    (left : ({ d with scan := k } : Head) =
      { c with lastObs := some o, state := st, level := 0, valves := .rest, ventTimer := none }) :
    d.refreshRecord.butScan = (c.closedTo o st).butScan :=
  calc d.refreshRecord.butScan = ({ d with scan := k } : Head).refreshRecord.butScan := rfl
    _ = (c.closedTo o st).butScan := by rw [left]; rfl

/-- A safe close that a STATUS completes on a busy bus, to the end of the exchange. -/
theorem State.handed_leaves (head : s.head h = c) (closing : c.state = .aborting ∨ c.state = .forced)
    (busy : s.scanner.inFlight ≠ none) (completes : s.CompletesClose c o s.predates) (arm : Option Arm) :
    s.OnlyHead (s.handed h o arm).concluded h ∧ (s.handed h o arm).concluded.store = s.store ∧
      (c.record ≠ none →
        (s.handed h o arm).concluded.Posted h ∧
          ((s.handed h o arm).concluded.head h).butScan = (c.closedTo o .done).butScan) ∧
      (c.record = none → c.withdraw = true →
        ((s.handed h o arm).concluded.head h).state = .off ∧
          ((s.handed h o arm).concluded.head h).offset = c.offset ∧
          ((s.handed h o arm).concluded.head h).calib = c.calib ∧
          ((s.handed h o arm).concluded.head h).withdraw = false ∧
          h ∉ (s.handed h o arm).concluded.scanner.urgent) ∧
      (c.record = none → c.withdraw = false →
        (s.handed h o arm).concluded.Posted h ∧
          ((s.handed h o arm).concluded.head h).butScan = (c.closedTo o .idle).butScan) := by
  subst head
  let t := (s.observed h o).leaveSafeClose h
  obtain ⟨only, store, done, off, idle⟩ := s.observed_leaves h o
  have run : s.handed h o arm = t.updHead h Head.refreshRecord := by
    unfold State.handed
    rw [(State.handStatus_closing closing o arm).2 completes]
  have refreshed : ((t.updHead h Head.refreshRecord).concluded.head h).butScan = (t.head h).refreshRecord.butScan := by
    rw [State.concluded_head, State.head_updHead]
  have queued : (s.head h).record ≠ none ∨ (s.head h).withdraw = false →
      (t.updHead h Head.refreshRecord).concluded.Posted h := fun stays =>
    State.concluded_posted (t := t.updHead h Head.refreshRecord)
      (State.leaveSafeClose_queued (s := s.observed h o) busy (by rw [State.observed_head]; exact stays))
  rw [run]
  refine ⟨(only.trans (t.updHead_touches h Head.refreshRecord).onlyHead).trans (State.concluded_only _ h), ?_,
    fun pending => ⟨queued (Or.inl pending), ?_⟩, fun none_ withdraw => ?_, fun none_ stays =>
      ⟨queued (Or.inr stays), ?_⟩⟩
  · rw [State.concluded_store, State.updHead_store]
    exact store
  · exact refreshed.trans (Head.closedTo_of (done pending).2)
  · obtain ⟨state, offset, calib, clear, absent⟩ := off none_ withdraw
    obtain ⟨state', offset', calib', clear'⟩ := Head.kept_of_butScan refreshed
    exact ⟨state'.trans state, offset'.trans offset, calib'.trans calib, clear'.trans clear,
      State.concluded_absent (t := t.updHead h Head.refreshRecord) absent⟩
  · exact refreshed.trans (Head.closedTo_of (idle none_ stays).2)

/-! ### A quiet STATUS by the head's state -/

theorem State.QuietStatus.rests (q : s.QuietStatus x f p)
    (rest : (s.head x.head).state = .idle ∨
      ((s.head x.head).state = .seating ∧ (statusAt f).obs.seated = false)) :
    exec (.status ⟨f, false⟩) s =
      .next (s.setHead x.head ((s.head x.head).seen (statusAt f).obs p).refreshRecord).concluded := by
  refine q.left ?_ (State.handStatus_metered ?_ x.arm)
  · rcases rest with e | ⟨e, -⟩
    all_goals
      rw [e]
      decide
  · rw [State.quietly_head]
    exact rest.imp_right fun both => Or.inr (Or.inr (Or.inr (Or.inr both)))

/-- A SEATING head that sees its bottle: its context after the exchange, where the segment starts and where it may
not. -/
theorem State.QuietStatus.seats (quiet : s.QuietStatus x f p) {q : Pin} {i : Fin 12}
    (seating : (s.head x.head).state = .seating) (seated : (statusAt f).obs.seated = true)
    (none_ : (s.head x.head).record = none) (pin : (s.head x.head).pin = some q)
    (at_ : (s.head x.head).segIndex = i.val) (sound : (s.slot q.slot).state ≠ .corrupt)
    (header : (s.slot q.slot).headerClean = true) (cell : (s.slot q.slot).cells[i].clean = true)
    {starts : Nat → Prop}
    (may : ∀ θ, starts θ ↔ s.cycleAngle x.head = some θ ∧
      s.mayStart (((s.head x.head).quiet (statusAt f).obs p).seatedBy (statusAt f).obs)
        (s.slot q.slot).cells[i].record.kind θ = true) :
    ∃ t : State, exec (.status ⟨f, false⟩) s = .next t ∧ s.OnlyHead t x.head ∧ t.store = s.store ∧
      (∀ θ, starts θ → ∃ r, t.head x.head =
        { (((s.head x.head).quiet (statusAt f).obs p).seatedBy (statusAt f).obs).startSegment
            { header := (s.slot q.slot).header, record := (s.slot q.slot).cells[i].record } θ with scan := r }) ∧
      ((∀ θ, ¬starts θ) → ∃ r, t.head x.head =
        { ((s.head x.head).quiet (statusAt f).obs p).seatedBy (statusAt f).obs with scan := r }) := by
  let o := (statusAt f).obs
  let u := s.quietly x.head o p
  obtain ⟨only, store, begun, waits⟩ := State.handStatus_seats (s := u) (starts := starts) (s.quietly_head x.head o p)
    seating seated pin at_ sound header cell x.arm (fun θ => by rw [s.quietly_cycleAngle]; exact may θ)
  have touched := s.quietly_touches x.head o p
  have kept : ∀ e : Head, ((u.handStatus x.head o x.arm).head x.head).butScan = e.butScan → e.record = none →
      u.handed x.head o x.arm = u.handStatus x.head o x.arm := fun e same clear => by
    obtain ⟨r, seen⟩ := Head.exists_scan same
    exact State.updHead_refreshed (Head.refreshRecord_none (by rw [seen]; exact clear))
  have same : u.handed x.head o x.arm = u.handStatus x.head o x.arm := by
    by_cases some_ : ∃ θ, starts θ
    · obtain ⟨θ, yes⟩ := some_
      exact kept _ (begun θ yes) none_
    · exact kept _ (waits fun θ yes => some_ ⟨θ, yes⟩) none_
  have run := quiet.run (by rw [seating]; decide)
  rw [show (s.setHead x.head ((s.head x.head).quiet o p)).handed x.head o x.arm = _ from same] at run
  exact ⟨_, run, (touched.onlyHead.trans only).trans (State.concluded_only _ _), (State.concluded_store _).trans store,
    fun θ yes => Head.exists_scan ((State.concluded_head _ _).trans (begun θ yes)),
    fun no => Head.exists_scan ((State.concluded_head _ _).trans (waits no))⟩

/-- A RUNNING head with an ACTIVE segment, which the STATUS leaves or ends. -/
theorem State.QuietStatus.runs (q : s.QuietStatus x f p) {w : Work} {θ a : Nat}
    (running : (s.head x.head).state = .running) (active : (s.head x.head).phase = some .active)
    (work : (s.head x.head).work = some w) (start : (s.head x.head).startAngle = some a)
    (angle : s.cycleAngle x.head = some θ) :
    (¬s.EndsSegment (s.head x.head) w θ a (statusAt f).obs x.arm →
      exec (.status ⟨f, false⟩) s =
        .next (s.setHead x.head ((s.head x.head).seen (statusAt f).obs p).refreshRecord).concluded) ∧
      (s.EndsSegment (s.head x.head) w θ a (statusAt f).obs x.arm →
        ∃ t : State, exec (.status ⟨f, false⟩) s = .next t ∧
          (s.setHead x.head (((s.head x.head).quiet (statusAt f).obs p).endedBy (statusAt f).obs w θ)).GoesOn t x.head
            w.header θ) := by
  let o := (statusAt f).obs
  let u := s.quietly x.head o p
  have head : u.head x.head = (s.head x.head).quiet o p := s.quietly_head x.head o p
  have here : u.cycleAngle x.head = some θ := (s.quietly_cycleAngle x.head o p).trans angle
  have on : (s.head x.head).state ≠ .off := by rw [running]; decide
  refine ⟨fun no => q.left on ?_, fun yes => ⟨_, q.run on, ?_⟩⟩
  · refine (State.handStatus_ends (s := u) (by rw [head]; exact running) (by rw [head]; exact active)
      (by rw [head]; exact work) (by rw [head]; exact start) here o x.arm).1 ?_
    rw [head]
    exact no
  · have goes := State.handed_ends (s := u) head running active work start here (State.quietly_busy q.2.1 o p).1 yes
    rw [show u.setHead x.head _ = _ from State.setHead_setHead _ _ _ _] at goes
    exact goes

/-- A head in DONE, EMPTY_PASS, ABORTING, FORCED or LOCKOUT, whose safe close the STATUS leaves or completes. -/
theorem State.QuietStatus.closes (q : s.QuietStatus x f p)
    (rest : (s.head x.head).state = .done ∨ (s.head x.head).state = .emptyPass ∨ (s.head x.head).state = .aborting ∨
      (s.head x.head).state = .forced ∨ (s.head x.head).state = .lockout) :
    (¬s.CompletesClose (s.head x.head) (statusAt f).obs x.predates →
      exec (.status ⟨f, false⟩) s =
        .next (s.setHead x.head ((s.head x.head).seen (statusAt f).obs p).refreshRecord).concluded) ∧
      (s.CompletesClose (s.head x.head) (statusAt f).obs x.predates →
        ∃ t : State, exec (.status ⟨f, false⟩) s = .next t ∧ s.OnlyHead t x.head ∧ t.store = s.store ∧
          ((s.head x.head).record ≠ none →
            t.Posted x.head ∧ (t.head x.head).butScan =
              (((s.head x.head).quiet (statusAt f).obs p).closedTo (statusAt f).obs .done).butScan) ∧
          ((s.head x.head).record = none → (s.head x.head).withdraw = true →
            (t.head x.head).state = .off ∧ (t.head x.head).offset = (s.head x.head).offset ∧
              (t.head x.head).calib = (s.head x.head).calib ∧ (t.head x.head).withdraw = false ∧
              x.head ∉ t.scanner.urgent) ∧
          ((s.head x.head).record = none → (s.head x.head).withdraw = false →
            t.Posted x.head ∧ (t.head x.head).butScan =
              (((s.head x.head).quiet (statusAt f).obs p).closedTo (statusAt f).obs .idle).butScan)) := by
  let o := (statusAt f).obs
  let u := s.quietly x.head o p
  have head : u.head x.head = (s.head x.head).quiet o p := s.quietly_head x.head o p
  obtain ⟨busy, mark⟩ := State.quietly_busy (h := x.head) q.2.1 o p
  have on : (s.head x.head).state ≠ .off := by
    rcases rest with e | e | e | e | e
    all_goals
      rw [e]
      decide
  have same : u.CompletesClose (u.head x.head) o u.predates ↔ s.CompletesClose (s.head x.head) o x.predates := by
    rw [head, mark]
    exact Iff.rfl
  refine ⟨fun no => q.left on ?_, fun yes => ⟨_, q.run on, ?_⟩⟩
  · by_cases closing : (s.head x.head).state = .aborting ∨ (s.head x.head).state = .forced
    · exact (State.handStatus_closing (s := u) (by rw [head]; exact closing) o x.arm).1 (mt same.mp no)
    · refine State.handStatus_metered (s := u) ?_ x.arm
      rw [head]
      rcases rest with e | e | e | e | e
      · exact Or.inr (Or.inr (Or.inl e))
      · exact Or.inr (Or.inl e)
      · exact absurd (Or.inl e) closing
      · exact absurd (Or.inr e) closing
      · exact Or.inr (Or.inr (Or.inr (Or.inl e)))
  · obtain ⟨only, store, left⟩ := State.handed_leaves (s := u) (o := o) head (yes.2.2.2.2.2.imp_left And.left) busy
      (by rw [← head]; exact same.mpr yes) x.arm
    exact ⟨(s.quietly_touches x.head o p).onlyHead.trans only, store, left⟩

end

/-- Settles O41. -/
theorem goodStatusByHeadState : Obligations.GoodStatusByHeadState := by
  intro s x f p quiet h c o liquid syrup lt st leaked heard run left
  refine ⟨fun rest none_ bases => ?_, fun q i seating seated none_ bases pin at_ sound clean cell => ?_,
    fun w θ a running active work start here bases none_ => ?_, fun rest => ?_⟩
  · have waits : c.shouldBeDry = true := c.shouldBeDry_iff.mpr (rest.imp_right fun both => Or.inl both.1)
    refine (quiet.rests rest).trans (congrArg left ?_)
    rw [Head.refreshRecord_none (c := c.seen o p) none_, Head.seen_eq (Head.accumulates_none bases) waits]
    rfl
  · intro first_bases first starts
    have adds : c.accumulates = false := Head.accumulates_none bases
    have totals : (c.quiet o p).liquidTotal = c.liquidTotal ∧ (c.quiet o p).syrupTotal = c.syrupTotal := by
      unfold Head.quiet
      rw [adds]
      exact ⟨rfl, rfl⟩
    obtain ⟨t, run', only, store, begun, waits⟩ := quiet.seats (starts := starts) seating seated none_ pin at_ sound
      clean cell fun θ => Iff.rfl
    refine ⟨t, run', only, store, ?_⟩
    intro d
    by_cases may : ∃ θ, starts θ
    · obtain ⟨θ, yes⟩ := may
      obtain ⟨r, last⟩ := begun θ yes
      rw [show d = _ from last]
      refine ⟨rfl, rfl, rfl, rfl, rfl, rfl, totals.1, totals.2, none_, fun θ' yes' => ?_, fun no => absurd yes (no θ)⟩
      rw [show θ' = θ from Option.some.inj (yes'.1.symm.trans yes.1)]
      exact ⟨rfl, rfl, rfl⟩
    · obtain ⟨r, last⟩ := waits fun θ yes => may ⟨θ, yes⟩
      rw [show d = _ from last]
      exact ⟨rfl, rfl, rfl, rfl, rfl, rfl, totals.1, totals.2, none_, fun θ yes => absurd ⟨θ, yes⟩ may, fun _ =>
        ⟨rfl, rfl, rfl, rfl⟩⟩
  · intro counted final finished
    have accumulates : c.accumulates = true := c.accumulates_iff.mpr ⟨bases, Or.inl running⟩
    have dryness : c.shouldBeDry = !c.meter.productStarted := by
      rw [Bool.eq_iff_iff, c.shouldBeDry_iff, running, Bool.not_eq_true']
      simp only [reduceCtorEq, false_or, true_and]
    have seen : c.seen o p = counted := by
      rw [Head.seen_eq accumulates dryness]
      show ({ heard with liquidTotal := lt, syrupTotal := st, meter := _ } : Head) =
        { heard with liquidTotal := lt, syrupTotal := st, meter := _ }
      cases c.meter.productStarted with
      | _ => rfl
    have cut : w.record.finalCut = decide final := by
      rw [Bool.eq_iff_iff, SegRecord.finalCut_iff, decide_eq_true_iff]
    have ended : (c.quiet o p).endedBy o w θ = finished.ended w θ := by
      unfold Head.endedBy
      rw [cut]
      exact congrArg (fun d : Head => ({ d with meter :=
        { d.meter with finalDone := d.meter.finalDone || decide final } } : Head).ended w θ) seen
    obtain ⟨stays, ends⟩ := quiet.runs running active work start here
    refine ⟨fun no => (stays no).trans (congrArg left ?_), fun yes => ?_⟩
    · rw [Head.refreshRecord_none (c := c.seen o p) none_, seen]
    · rw [← ended]
      exact ends yes
  · intro adds_ counted settled
    have accumulates : c.accumulates = decide adds_ := by
      rw [Bool.eq_iff_iff, c.accumulates_iff, decide_eq_true_iff]
      refine and_congr_right fun _ => or_iff_right ?_
      rcases rest with e | e | e | e | e
      all_goals
        rw [e]
        decide
    have dryness : c.shouldBeDry = decide (c.state = .done ∨ c.state = .emptyPass) := by
      rw [Bool.eq_iff_iff, c.shouldBeDry_iff, decide_eq_true_iff]
      rcases rest with e | e | e | e | e
      all_goals
        rw [e]
        simp only [reduceCtorEq, or_true, or_false, false_and]
    have seen : c.seen o p = counted := by
      rw [Head.seen_eq accumulates dryness]
      simp only [decide_eq_true_eq]
      rfl
    have settle : (c.seen o p).refreshRecord = settled := congrArg Head.refreshRecord seen
    have closedTo : ∀ (d : Head) (final : HeadState), d.butScan = ((c.quiet o p).closedTo o final).butScan →
        ({ d with scan := settled.scan } : Head) =
          { settled with state := final, level := 0, valves := .rest, ventTimer := none } := by
      intro d final closed
      have moved := congrArg (fun e : Head => { e with scan := settled.scan }) closed
      rw [← settle] at moved ⊢
      exact moved
    obtain ⟨stays, leaves⟩ := quiet.closes rest
    refine ⟨fun no => (stays no).trans (congrArg left settle), fun yes => ?_⟩
    obtain ⟨t, run', only, store, done, off, idle⟩ := leaves yes
    refine ⟨t, run', only, store, ?_⟩
    intro d
    exact ⟨fun pending => ⟨(done pending).1, closedTo d _ (done pending).2⟩, off, fun none_ keeps =>
      ⟨(idle none_ keeps).1, closedTo d _ (idle none_ keeps).2⟩⟩

end Sys2Proof.Machine

/-! PROOFS. The SUPPLY class and the mode SAFE through the walks of the heads (R16, R130, R134 to R137, R145). -/

namespace Sys2Proof.Machine

section
set_option Elab.async false
variable {s t u : State} {h : HeadId} {k : Cause}

theorem FaultClass.supply_untouched : ¬FaultClass.supply.parityTouched := by simp [FaultClass.parityTouched]

/-! ### The mode SAFE through the raises (R130) -/

theorem State.contextParity_safe (safe : s.faults.mode = .safe) (h : HeadId) :
    (s.contextParity h).faults.mode = .safe := by
  unfold State.contextParity
  refine State.checkLockout_safe ?_
  split
  · exact State.enterSafe_mode _ _
  · rw [State.parityCore_mode, safe]

theorem State.haltAbort_safe (safe : s.faults.mode = .safe) (k : Cause) : (s.haltAbort k).faults.mode = .safe := by
  rw [State.haltAbort_eq]
  generalize s.headOrder = heads
  induction heads generalizing s with
  | nil => exact safe
  | cons h rest ih =>
    refine ih ?_
    unfold State.haltAbortStep State.headEvent
    split
    · split
      · exact safe
      · split
        · rw [State.abortHead_faults, safe]
        · exact State.contextParity_safe safe h
    · exact safe

theorem State.raisePart_safe (safe : s.faults.mode = .safe) (k : Cause) (a b : Option Nat) :
    (s.raisePart k a b).faults.mode = .safe := by
  cases act : (s.record k.cls).action with
  | note => rw [State.raisePart_note act, State.latchReport_mode, safe]
  | hold => rw [State.raisePart_hold act, State.updRecord_faults_mode, State.latchReport_mode, safe]
  | halt =>
    rw [State.raisePart_halt act]
    exact State.haltAbort_safe (by rw [State.updRecord_faults_mode, State.latchReport_mode, safe]) k
  | stop => exact State.raisePart_stop_mode act a b

theorem State.afterHeadRaise_safe (safe : s.faults.mode = .safe) (k : Cause) (act : Action) :
    (s.afterHeadRaise k act).faults.mode = .safe := by
  unfold State.afterHeadRaise
  refine State.checkLockout_safe ?_
  split
  · exact State.enterSafe_mode _ _
  · exact safe

/-! ### What keeps the SUPPLY record, and the mode SAFE where it is held -/

/-- From `s` to `t` the record of SUPPLY has not changed, and the mode SAFE has not been left. -/
structure State.SupplyKept (s t : State) : Prop where
  record : t.record .supply = s.record .supply
  safe   : s.faults.mode = .safe → t.faults.mode = .safe

theorem State.SupplyKept.of_faults (same : t.faults = s.faults) : s.SupplyKept t where
  record := State.record_congr (congrArg FaultUnit.records same) _
  safe safe := by rw [same, safe]

theorem State.SupplyKept.refl (s : State) : s.SupplyKept s := .of_faults rfl

theorem State.SupplyKept.trans (a : s.SupplyKept t) (b : t.SupplyKept u) : s.SupplyKept u where
  record := b.record.trans a.record
  safe safe := b.safe (a.safe safe)

theorem State.SupplyKept.faults (a : s.SupplyKept t) (same : u.faults = t.faults) : s.SupplyKept u :=
  a.trans (.of_faults same)

theorem State.SupplyKept.touched (a : s.SupplyKept t) (b : t.Touches u h) : s.SupplyKept u := a.faults b.faults

theorem State.contextParity_supply (s : State) (h : HeadId) : s.SupplyKept (s.contextParity h) where
  record := State.contextParity_record FaultClass.supply_untouched h
  safe safe := State.contextParity_safe safe h

theorem State.raisePart_supply (other : FaultClass.supply ≠ k.cls) (a b : Option Nat) :
    s.SupplyKept (s.raisePart k a b) where
  record := (State.raisePart_record FaultClass.supply_untouched k a b).trans (if_neg other)
  safe safe := State.raisePart_safe safe k a b

theorem State.afterHeadRaise_supply (other : FaultClass.supply ≠ k.cls) (act : Action) :
    s.SupplyKept (s.afterHeadRaise k act) where
  record := by
    unfold State.afterHeadRaise
    rw [State.checkLockout_record FaultClass.supply_untouched]
    split
    · rw [State.enterSafe_record FaultClass.supply_untouched, State.addStop_record_other other (by decide)]
    · rfl
  safe safe := State.afterHeadRaise_safe safe k act

theorem State.takeHeadRaise_supply (other : FaultClass.supply ≠ k.cls) (h : HeadId) :
    s.SupplyKept (s.takeHeadRaise h k) where
  record := State.latchReport_record_other (s := s) other (some (s.station h)) none
  safe safe := (State.latchReport_mode s k (some (s.station h)) none).trans safe

theorem State.raiseHead_supply (other : FaultClass.supply ≠ k.cls) (s : State) (h : HeadId) :
    s.SupplyKept (s.raiseHead h k) := by
  unfold State.raiseHead
  split
  · exact .refl s
  · refine State.SupplyKept.trans ?_ (State.afterHeadRaise_supply other _)
    have taken := State.takeHeadRaise_supply (s := s) other h
    split
    · have acted := State.headAction_acted (s.takeHeadRaise h k) h k (s.record k.cls).action
      exact taken.trans ⟨acted.records .supply, fun safe => acted.mode.trans safe⟩
    · exact taken.trans (State.contextParity_supply _ h)

theorem State.SupplyKept.headEvent (h : HeadId) (effect : State → State) (kept : s.SupplyKept (effect s)) :
    s.SupplyKept (s.headEvent h effect) := by
  unfold State.headEvent
  split
  · exact .refl s
  · split
    · exact kept
    · exact s.contextParity_supply h

/-! ### The tracker and the crossings (R46, R47, R49, R60, R61, R116 to R121) -/

theorem State.schedule_supply (s : State) (e : RejectEntry) : s.SupplyKept (s.schedule e) := by
  unfold State.schedule
  split
  · exact State.raisePart_supply (by decide) _ _
  · split
    · exact State.raisePart_supply (by decide) _ _
    · exact .of_faults rfl

theorem State.takeDose_supply (s : State) (a : Fin 15) (q n c : Nat) (v : Verdict) (p : Pos) :
    s.SupplyKept (s.takeDose a q n c v p) := by
  unfold State.takeDose
  split
  · exact .refl s
  · have told : s.SupplyKept (if s.discharge.gap a q then s.raisePart .rejectGap (some n) none else s) := by
      split
      · exact State.raisePart_supply (by decide) _ _
      · exact .refl s
    dsimp only
    generalize (if s.discharge.gap a q then s.raisePart .rejectGap (some n) none else s) = v at told ⊢
    split
    · refine .trans ?_ (State.schedule_supply _ _)
      exact told.faults rfl
    · exact told.faults rfl

theorem State.takeOwn_supply (s : State) (d : DoseReport) : s.SupplyKept (s.takeOwn d) := by
  unfold State.takeOwn
  split
  · exact State.takeDose_supply s _ _ _ _ _ _
  · exact .refl s

theorem State.createDose_supply (s : State) (r : DoseRecord) (n : Nat) (p : Pos) : s.SupplyKept (s.createDose r n p) := by
  by_cases zero : s.reports.prioOf .dose = 0
  · rw [State.createDose_silent zero]
    exact .refl s
  · rw [State.createDose_eq zero]
    split
    · refine .faults (.trans (t := s.numbered) ?_ (State.takeOwn_supply _ _)) rfl
      exact .of_faults rfl
    · refine .trans ?_ (State.takeOwn_supply _ _)
      exact .of_faults rfl

theorem State.emit_supply (s : State) (h : HeadId) (p : Pos) : s.SupplyKept (s.emit h p) := by
  unfold State.emit
  split
  · exact (State.createDose_supply s _ _ p).touched (State.updHead_touches _ h _)
  · exact .refl s

theorem State.seatWindowEnd_supply (s : State) (h : HeadId) : s.SupplyKept (s.seatWindowEnd h) := by
  unfold State.seatWindowEnd
  split
  · exact (State.SupplyKept.refl s).touched (State.giveUpSeating_touches s h _ _)
  · exact .refl s

theorem State.rideOut_supply (s : State) (h : HeadId) (p : Pos) : s.SupplyKept (s.rideOut h p) := by
  unfold State.rideOut
  dsimp only
  split
  · exact (s.emit_supply h p).touched (State.enterOff_touches _ h)
  · exact (s.emit_supply h p).touched (State.changeState_touches _ h .idle)

theorem State.forcedDischarge_supply (s : State) (h : HeadId) (p : Pos) : s.SupplyKept (s.forcedDischarge h p) := by
  have forced : s.SupplyKept (s.dischargeForced h) :=
    ⟨(s.dischargeForced_record h .supply).trans (if_neg (by decide)), fun safe => (s.dischargeForced_mode h).trans safe⟩
  rw [State.forcedDischarge_eq]
  exact (forced.trans (State.emit_supply _ h p)).trans (State.afterHeadRaise_supply (by decide) _)

theorem State.dischargeCrossing_supply (s : State) (h : HeadId) (p : Pos) : s.SupplyKept (s.dischargeCrossing h p) := by
  unfold State.dischargeCrossing
  split
  · exact s.rideOut_supply h p
  · exact s.rideOut_supply h p
  · exact s.emit_supply h p
  · exact s.emit_supply h p
  · exact s.emit_supply h p
  · exact (s.seatWindowEnd_supply h).trans (State.rideOut_supply _ h p)
  · exact s.forcedDischarge_supply h p
  · exact .refl s
  · exact .refl s

theorem State.beginCycle_supply (s : State) (h : HeadId) : s.SupplyKept (s.beginCycle h) := by
  have begun := s.updHead_touches h Head.beginCycle
  have skipped : ∀ (t : State) (r : SkipReason), t.Touches (t.skipCycle h r) h := fun t r =>
    (t.changeState_touches h .emptyPass).trans (State.updHead_touches _ h _)
  unfold State.beginCycle
  dsimp only
  split
  · exact .of_faults (begun.trans (skipped _ _)).faults
  · split
    · next pin u claim =>
      have claimed : u.faults = (s.updHead h Head.beginCycle).faults := by
        cases active : (s.updHead h Head.beginCycle).activeSlot with
        | none => cases (State.pinClaim_none active).symm.trans claim
        | some j =>
          cases (State.pinClaim_some active).symm.trans claim
          rfl
      exact ((State.SupplyKept.of_faults (claimed.trans begun.faults)).touched
        (State.changeState_touches u h .seating)).touched (State.updHead_touches _ h _)
    · exact .of_faults (begun.trans (skipped _ _)).faults

theorem State.atInfeed_supply (s : State) (h : HeadId) : s.SupplyKept (s.atInfeed h) := by
  have cleared := (State.SupplyKept.refl s).touched (s.updHead_touches h fun c => { c with lastFault := none })
  unfold State.atInfeed
  dsimp only
  split
  · split
    · exact cleared.trans (State.beginCycle_supply _ h)
    · exact cleared.touched (State.updHead_touches _ h _)
    · exact cleared.touched (State.updHead_touches _ h _)
    · exact cleared.touched (State.updHead_touches _ h _)
    · exact cleared
  · exact cleared

theorem State.infeedCrossing_supply (s : State) (h : HeadId) (p : Pos) : s.SupplyKept (s.infeedCrossing h p) := by
  have late := ((s.seatWindowEnd_supply h).trans (State.dischargeCrossing_supply _ h p)).trans
    (State.atInfeed_supply _ h)
  unfold State.infeedCrossing
  split
  · exact late
  · exact late
  · exact late
  · exact late
  · exact s.atInfeed_supply h

/-! ### The segments (R40, R50, R52 to R57) -/

theorem State.profileParity_supply (s : State) (h : HeadId) (j : SlotId) : s.SupplyKept (s.profileParity h j) := by
  unfold State.profileParity
  refine .trans (.trans ?_ (State.raiseHead_supply (k := .profileLost) (by decide) _ h))
    (State.raisePart_supply (k := .profileParity) (by decide) _ _)
  exact .of_faults rfl

theorem State.startTest_supply (s : State) (h : HeadId) (θ : Option Nat) : s.SupplyKept (s.startTest h θ) := by
  unfold State.startTest
  dsimp only
  split
  · exact .refl s
  · split
    · exact State.raiseHead_supply (by decide) s h
    · split
      · split
        · exact s.profileParity_supply h _
        · split
          · split
            · exact .of_faults rfl
            · exact .refl s
          · exact .refl s
      · exact .refl s

theorem State.pendingTest_supply (s : State) (h : HeadId) (θ : Option Nat) : s.SupplyKept (s.pendingTest h θ) := by
  unfold State.pendingTest
  dsimp only
  split
  · split
    · exact (s.startTest_supply h θ).touched (State.post_touches _ h h)
    · exact s.startTest_supply h θ
  · exact .refl s

theorem State.afterEnd_supply (s : State) (h : HeadId) (header : Header) (θ : Nat) :
    s.SupplyKept (s.afterEnd h header θ) := by
  have tested := s.startTest_supply h (some θ)
  unfold State.afterEnd
  dsimp only
  split
  · split
    · exact .of_faults (s.finishCycle_touches h header).faults
    · split
      · split
        · exact tested.touched (State.post_touches _ h h)
        · exact (tested.touched (State.updHead_touches _ h _)).touched (State.post_touches _ h h)
      · exact tested
  · exact .refl s

theorem State.endSegment_supply (s : State) (h : HeadId) (w : Work) (θ : Nat) : s.SupplyKept (s.endSegment h w θ) := by
  unfold State.endSegment
  refine .trans ?_ (State.afterEnd_supply _ h w.header θ)
  exact .of_faults rfl

theorem State.zoneCut_supply (s : State) (h : HeadId) (w : Work) (θ : Nat) : s.SupplyKept (s.zoneCut h w θ) := by
  have ended : s.SupplyKept (s.updHead h fun c => c.endSegment w.record.kind θ) := .of_faults rfl
  unfold State.zoneCut
  dsimp only
  split
  · exact (ended.trans (State.raiseHead_supply (by decide) _ h)).trans (State.afterEnd_supply _ h w.header θ)
  · exact ended.trans (State.afterEnd_supply _ h w.header θ)

theorem State.regionCrossing_supply (s : State) (h : HeadId) (a : Nat) : s.SupplyKept (s.regionCrossing h a) := by
  unfold State.regionCrossing
  split
  · split
    · split
      · exact .refl s
      · exact s.zoneCut_supply h _ a
    · exact .refl s
  · exact .refl s

theorem State.angleEnd_supply (s : State) (h : HeadId) (a : Nat) : s.SupplyKept (s.angleEnd h a) := by
  unfold State.angleEnd
  split
  · exact s.endSegment_supply h _ a
  · exact .refl s

theorem State.deadlineCrossing_supply (s : State) (h : HeadId) : s.SupplyKept (s.deadlineCrossing h) := by
  unfold State.deadlineCrossing
  refine .trans ?_ (State.raiseHead_supply (by decide) _ h)
  exact .of_faults rfl

theorem State.rampStep_supply (s : State) (h : HeadId) (a : Nat) : s.SupplyKept (s.rampStep h a) := by
  unfold State.rampStep
  split
  · exact .of_faults rfl
  · exact .refl s

/-! ### The walks (R16) -/

theorem State.SupplyKept.takeBoundary (kept : s.SupplyKept t) (h : HeadId) (a : Nat) (present : Bool)
    {effect : State → State} (effects : ∀ u : State, u.SupplyKept (effect u)) :
    s.SupplyKept (t.takeBoundary h a present effect) := by
  unfold State.takeBoundary
  split
  · exact kept.trans (.headEvent h _ ((effects t).trans (State.pendingTest_supply _ h _)))
  · exact kept

theorem State.takeAngle_supply (s : State) (h : HeadId) (a : Nat) (pos : Pos) : s.SupplyKept (s.takeAngle h a pos) := by
  unfold State.takeAngle
  exact ((((((((State.SupplyKept.refl s).takeBoundary h a _ fun u => u.regionCrossing_supply h a).takeBoundary h a _
    fun u => u.angleEnd_supply h a).takeBoundary h a _ fun u => u.deadlineCrossing_supply h).takeBoundary h a _
    .refl).takeBoundary h a _ fun u => u.rampStep_supply h a).takeBoundary h a _
    fun u => u.seatWindowEnd_supply h).takeBoundary h a _ fun u => u.dischargeCrossing_supply h pos).takeBoundary h a _
    fun u => u.infeedCrossing_supply h pos

theorem State.walkHead_supply (h : HeadId) (n θ : Nat) (p : Pos) (s : State) :
    s.SupplyKept (State.walkHead h n θ p s) := by
  induction n generalizing θ p s with
  | zero => exact .refl s
  | succ n ih => exact (s.takeAngle_supply h _ _).trans (ih _ _ _)

theorem State.walkAll_supply (s : State) (old : Pos) (n : Nat) : s.SupplyKept (s.walkAll old n) := by
  unfold State.walkAll
  generalize s.headOrder = heads
  induction heads generalizing s with
  | nil => exact .refl s
  | cons h rest ih =>
    refine State.SupplyKept.trans ?_ (ih _)
    dsimp only
    split
    · split
      · exact State.walkHead_supply h _ _ _ s
      · exact .refl s
    · exact .refl s

end
end Sys2Proof.Machine

/-! PROOFS. The readings and the position of an ANGLE frame (R4 to R13, R143 to R145, R155). -/

namespace Sys2Proof.Machine

section
set_option Elab.async false
variable {s t u : State} {h : HeadId} {k : Cause} {m : Monitor} {v : Int} {p ref : Pos}

/-! ### A monitor's sample (R144) -/

theorem Monitor.take_limits (m : Monitor) (v : Int) : (m.take v).1.low = m.low := by
  unfold Monitor.take
  dsimp only
  split
  · rfl
  · split <;> rfl

theorem Monitor.take_outside (out : v < m.low ∨ m.high < v) :
    m.take v =
      ({ m with
          sample := some v, count := min (m.count + 1) m.n
          condition := m.condition || decide (m.n ≤ m.count + 1) },
        decide (m.n ≤ m.count + 1) && !m.condition) := by
  have out' : ({ m with sample := some v } : Monitor).outside v = true := by
    unfold Monitor.outside
    rw [Bool.or_eq_true, decide_eq_true_iff, decide_eq_true_iff]
    exact out
  have full : decide (m.n ≤ min (m.count + 1) m.n) = decide (m.n ≤ m.count + 1) :=
    decide_eq_decide.mpr (by omega)
  unfold Monitor.take
  dsimp only
  rw [if_pos out', full]
  cases m.condition with
  | true => rw [Bool.true_or, Bool.true_or]
  | false => rw [Bool.not_false, Bool.and_true]

theorem Monitor.take_inside (low : m.low ≤ v) (high : v ≤ m.high) :
    m.take v =
      if m.low + m.hysteresis ≤ v ∧ v ≤ m.high - m.hysteresis then
        ({ m with sample := some v, count := 0, condition := false }, false)
      else ({ m with sample := some v, count := 0 }, false) := by
  have inside : ¬({ m with sample := some v } : Monitor).outside v = true := by
    unfold Monitor.outside
    rw [Bool.or_eq_true, decide_eq_true_iff, decide_eq_true_iff]
    rintro (below | above)
    · exact Int.not_lt.mpr low below
    · exact Int.not_lt.mpr high above
  unfold Monitor.take
  dsimp only
  rw [if_neg inside]
  refine if_congr ?_ rfl rfl
  unfold Monitor.inBand
  rw [Bool.and_eq_true, decide_eq_true_iff, decide_eq_true_iff]

/-! ### The readings (R144, R145, R155) -/

/-- The state in which a monitor has taken a sample and the SUPPLY condition is marked (R134). -/
def State.marked (s : State) (n : MonitorName) (v : Int) : State :=
  (s.setMonitor n ((s.monitor n).take v).1).supplyCondition

/-- The cause that a sample of a monitor raises. -/
def State.sampleCause (s : State) (n : MonitorName) (v : Int) : Cause := supplyCause n (decide (v < (s.monitor n).low))

theorem State.sample_eq (s : State) (n : MonitorName) (v : Int) :
    s.sample n v =
      if ((s.monitor n).take v).2 then (s.marked n v).raisePart (s.sampleCause n v) none none else s.marked n v := by
  unfold State.sampleCause
  rw [← (s.monitor n).take_limits v]
  rfl

theorem supplyCause_cls (n : MonitorName) (below : Bool) : (supplyCause n below).cls = .supply := by
  cases n with
  | _ => cases below with
    | _ => rfl

/-- The two monitors as given. -/
def State.monitored (s : State) (p q : Monitor) : State :=
  { s with faults := { s.faults with pressure := p, temperature := q } }

theorem State.monitored_keeps (k : s.Keeps t) (p q : Monitor) : (s.monitored p q).Keeps (t.monitored p q) :=
  { k with pressure := rfl, temperature := rfl }

theorem State.sample_marked (s : State) (n : MonitorName) (v : Int) : (s.marked n v).Keeps (s.sample n v) := by
  rw [State.sample_eq]
  split
  · exact Keeps.raisePart (.refl _) _ _ _
  · exact .refl _

theorem State.marked_pressure (s : State) (v : Int) :
    (s.monitored (s.faults.pressure.take v).1 s.faults.temperature).Keeps (s.marked .pressure v) :=
  Keeps.setCondition (.refl _) _ _

theorem State.marked_temperature (s : State) (v : Int) :
    (s.monitored s.faults.pressure (s.faults.temperature.take v).1).Keeps (s.marked .temperature v) :=
  Keeps.setCondition (.refl _) _ _

theorem State.sample_pressure (s : State) (v : Int) :
    (s.monitored (s.faults.pressure.take v).1 s.faults.temperature).Keeps (s.sample .pressure v) :=
  (s.marked_pressure v).trans (s.sample_marked .pressure v)

theorem State.sample_temperature (s : State) (v : Int) :
    (s.monitored s.faults.pressure (s.faults.temperature.take v).1).Keeps (s.sample .temperature v) :=
  (s.marked_temperature v).trans (s.sample_marked .temperature v)

/-- The state with both monitors' samples taken, and nothing else. -/
def State.sampled (s : State) (pressure temp : Half) : State :=
  s.monitored (s.faults.pressure.take pressure.toNat).1 (s.faults.temperature.take temp.toInt).1

theorem State.takeReadings_keeps (s : State) (pressure temp : Half) :
    (s.sampled pressure temp).Keeps (s.takeReadings pressure temp) := by
  unfold State.takeReadings
  split
  · have first := s.sample_temperature temp.toInt
    have second := (s.sample .temperature temp.toInt).sample_pressure pressure.toNat
    refine .trans ?_ second
    rw [first.pressure, first.temperature]
    exact State.monitored_keeps first _ _
  · have first := s.sample_pressure pressure.toNat
    have second := (s.sample .pressure pressure.toNat).sample_temperature temp.toInt
    refine .trans ?_ second
    rw [first.pressure, first.temperature]
    exact State.monitored_keeps first _ _

theorem State.takeReadings_tracker (s : State) (pressure temp : Half) :
    (s.takeReadings pressure temp).tracker = s.tracker := (s.takeReadings_keeps pressure temp).tracker

theorem State.takeReadings_arbiter (s : State) (pressure temp : Half) :
    (s.takeReadings pressure temp).arbiter = s.arbiter := (s.takeReadings_keeps pressure temp).arbiter

/-- What every sample leaves alone, the readings leave alone. -/
theorem State.takeReadings_field {α : Type} (f : State → α) (sample : ∀ (u : State) n v, f (u.sample n v) = f u)
    (s : State) (pressure temp : Half) : f (s.takeReadings pressure temp) = f s := by
  unfold State.takeReadings
  split
  · rw [sample, sample]
  · rw [sample, sample]

theorem State.marked_discharge (s : State) (n : MonitorName) (v : Int) : (s.marked n v).discharge = s.discharge := by
  cases n <;> rfl

theorem State.takeReadings_discharge (s : State) (pressure temp : Half) :
    (s.takeReadings pressure temp).discharge = s.discharge :=
  State.takeReadings_field State.discharge (fun u n v => by
    rw [State.sample_eq]
    split
    · rw [State.raisePart_discharge, State.marked_discharge]
    · exact u.marked_discharge n v) s pressure temp

theorem State.marked_record_other (s : State) (n : MonitorName) (v : Int) {c : FaultClass} (other : c ≠ .supply) :
    (s.marked n v).record c = s.record c := by
  have set : ∀ m, (s.setMonitor n m).record c = s.record c := fun m => by cases n <;> rfl
  unfold State.marked State.supplyCondition State.setCondition
  rw [State.record_updRecord_eq, if_neg other, set]

theorem State.takeReadings_timebase (s : State) (pressure temp : Half) :
    (s.takeReadings pressure temp).record .timebase = s.record .timebase :=
  State.takeReadings_field (State.record · .timebase) (fun u n v => by
    rw [State.sample_eq]
    split
    · rw [State.raisePart_record FaultClass.timebase_untouched, State.sampleCause, supplyCause_cls,
        if_neg (by decide), u.marked_record_other n v (by decide)]
    · exact u.marked_record_other n v (by decide)) s pressure temp

/-- Readings that raise nothing leave the reports and the heads as they are. -/
theorem State.takeReadings_quiet (pressure temp : Half) (low : (s.faults.pressure.take pressure.toNat).2 = false)
    (high : (s.faults.temperature.take temp.toInt).2 = false) :
    (s.takeReadings pressure temp).reports = s.reports ∧ (s.takeReadings pressure temp).heads = s.heads := by
  have quiet : ∀ (u : State) n v, ((u.monitor n).take v).2 = false → u.sample n v = u.marked n v := fun u n v no => by
    rw [State.sample_eq, no]
    rfl
  have same : ∀ (u : State) n v, (u.marked n v).reports = u.reports ∧ (u.marked n v).heads = u.heads := fun u n v => by
    cases n <;> exact ⟨rfl, rfl⟩
  unfold State.takeReadings
  split
  · have first := s.sample_temperature temp.toInt
    have second := quiet (s.sample .temperature temp.toInt) .pressure pressure.toNat
      (by unfold State.monitor; rw [first.pressure]; exact low)
    obtain ⟨r1, h1⟩ := same s .temperature temp.toInt
    obtain ⟨r2, h2⟩ := same (s.sample .temperature temp.toInt) .pressure pressure.toNat
    rw [second, r2, h2, quiet s .temperature temp.toInt high, r1, h1]
    exact ⟨rfl, rfl⟩
  · have first := s.sample_pressure pressure.toNat
    have second := quiet (s.sample .pressure pressure.toNat) .temperature temp.toInt
      (by unfold State.monitor; rw [first.temperature]; exact high)
    obtain ⟨r1, h1⟩ := same s .pressure pressure.toNat
    obtain ⟨r2, h2⟩ := same (s.sample .pressure pressure.toNat) .temperature temp.toInt
    rw [second, r2, h2, quiet s .pressure pressure.toNat low, r1, h1]
    exact ⟨rfl, rfl⟩

end
end Sys2Proof.Machine

/-! PROOFS. The Angle Tracker's frames (R4 to R13, R155). -/

namespace Sys2Proof.Machine

section
set_option Elab.async false
variable {s t u : State} {h : HeadId} {k : Cause} {p ref : Pos} {tr : Tracker}

/-! ### The classes of a frame (R4) -/

theorem revConsistent_iff (ref p : Pos) :
    revConsistent ref p = true ↔
      (p.count < ref.count → p.rev = (ref.rev + 1) % 65536) ∧ (ref.count ≤ p.count → p.rev = ref.rev) := by
  unfold revConsistent
  split
  · next wrapped =>
    rw [beq_iff_eq]
    exact ⟨fun e => ⟨fun _ => e, fun no => absurd wrapped (Nat.not_lt.mpr no)⟩, fun both => both.1 wrapped⟩
  · next same =>
    rw [beq_iff_eq]
    exact ⟨fun e => ⟨fun wrapped => absurd wrapped same, fun _ => e⟩, fun both => both.2 (Nat.not_lt.mp same)⟩

theorem Tracker.classify_out (out : tr.cpr ≤ p.count) (ref : Pos) : tr.classify ref p = .outOfRange := if_pos out

theorem Tracker.classify_step (inside : p.count < tr.cpr) (step : advanceBy tr.cpr p.count ref.count ≤ tr.maxStep) :
    tr.classify ref p = if revConsistent ref p then .forward else .jump := by
  unfold Tracker.classify
  rw [if_neg (Nat.not_le.mpr inside)]
  exact if_pos step

theorem Tracker.classify_leap (inside : p.count < tr.cpr) (leap : tr.maxStep < advanceBy tr.cpr p.count ref.count) :
    tr.classify ref p =
      if tr.cpr ≤ advanceBy tr.cpr p.count ref.count + tr.maxStep then .reverse else .jump := by
  unfold Tracker.classify
  rw [if_neg (Nat.not_le.mpr inside)]
  refine (if_neg (Nat.not_le.mpr leap)).trans (if_congr ?_ rfl rfl)
  omega

theorem Tracker.inside_of_classify (other : tr.classify ref p ≠ .outOfRange) : p.count < tr.cpr :=
  Nat.not_le.mp fun out => other (Tracker.classify_out out ref)

theorem advanceBy_self (cpr c : Nat) : advanceBy cpr c c = 0 := by
  unfold advanceBy
  rw [Nat.add_sub_cancel_left, Nat.mod_self]

theorem Tracker.recovers_iff (some_ : tr.ref = some ref) :
    tr.recovers p = true ↔
      p.count < tr.cpr ∧ advanceBy tr.cpr p.count ref.count ≤ tr.cpr / 4 ∧ revConsistent ref p = true := by
  unfold Tracker.recovers
  rw [some_]
  dsimp only
  rw [Bool.and_eq_true, Bool.and_eq_true, decide_eq_true_iff, decide_eq_true_iff, and_assoc]

/-! ### A frame by the tracker's state -/

theorem State.trackAngle_unlocked (unlocked : s.tracker.state = .noTimebase ∨ s.tracker.state = .lost ∨
      (s.tracker.state = .acquiring ∧ s.tracker.ref = none)) :
    s.trackAngle p = if p.count < s.tracker.cpr then s.setTracker (s.tracker.base p) else s := by
  unfold State.trackAngle State.angleAcquiring
  rcases unlocked with e | e | ⟨e, e'⟩
  · rw [e]
  · rw [e]
  · rw [e]
    dsimp only
    rw [e']

section
variable (acquiring : s.tracker.state = .acquiring) (some_ : s.tracker.ref = some ref)
include acquiring some_

theorem State.trackAngle_locks (forward : s.tracker.classify ref p = .forward)
    (full : s.tracker.acquireCount ≤ s.tracker.run + 1) : s.trackAngle p = s.lock p := by
  unfold State.trackAngle State.angleAcquiring
  simp only [acquiring, some_, forward, if_pos full]

theorem State.trackAngle_adds (forward : s.tracker.classify ref p = .forward)
    (more : s.tracker.run + 1 < s.tracker.acquireCount) :
    s.trackAngle p = s.setTracker { s.tracker with
      ref := some p, run := s.tracker.run + 1, gapTimer := some s.tracker.gapLimit } := by
  unfold State.trackAngle State.angleAcquiring
  simp only [acquiring, some_, forward, if_neg (Nat.not_le.mpr more)]

theorem State.trackAngle_anew (bad : s.tracker.classify ref p = .reverse ∨ s.tracker.classify ref p = .jump) :
    s.trackAngle p = s.setTracker (s.tracker.base p) := by
  unfold State.trackAngle State.angleAcquiring
  rcases bad with e | e
  · simp only [acquiring, some_, e]
  · simp only [acquiring, some_, e]

theorem State.trackAngle_ends (out : s.tracker.classify ref p = .outOfRange) :
    s.trackAngle p = s.setTracker s.tracker.noBase := by
  unfold State.trackAngle State.angleAcquiring
  simp only [acquiring, some_, out]

end

section
variable (locked : s.tracker.state = .locked) (some_ : s.tracker.ref = some ref)
include locked some_

theorem State.trackAngle_forward (forward : s.tracker.classify ref p = .forward) :
    s.trackAngle p = (s.setTracker (s.tracker.lockAt p)).advance p := by
  unfold State.trackAngle State.angleLocked
  simp only [locked, some_, forward]

theorem State.trackAngle_reverse (reverse : s.tracker.classify ref p = .reverse) :
    s.trackAngle p = (s.setTracker (s.tracker.base p)).raisePart .timebaseReverse none none := by
  unfold State.trackAngle State.angleLocked
  simp only [locked, some_, reverse]

theorem State.trackAngle_jump (bad : s.tracker.classify ref p = .jump ∨ s.tracker.classify ref p = .outOfRange) :
    s.trackAngle p =
      if s.tracker.jumpPending then (s.setTracker (s.tracker.fall p)).raisePart .timebaseJump none none
      else s.setTracker { s.tracker with jumpPending := true } := by
  unfold State.trackAngle State.angleLocked
  rcases bad with e | e
  · simp only [locked, some_, e]
  · simp only [locked, some_, e]

end

theorem State.trackAngle_holdover (holdover : s.tracker.state = .holdover) :
    s.trackAngle p =
      if s.tracker.recovers p then (s.setTracker (s.tracker.lockAt p)).advance p
      else (s.setTracker (s.tracker.fall p)).raisePart .timebaseJump none none := by
  unfold State.trackAngle State.angleHoldover
  rw [holdover]

/-! ### The tracker after a frame, and what a frame leaves alone -/

/-- The tracker in LOCKED with its position (R6, R7, R10). -/
def Tracker.lockedAt (t : Tracker) (p : Pos) : Tracker := { t.lockAt p with pos := some p }

theorem State.setPos_keeps (k : s.Keeps t) (p : Pos) : (s.setPos p).Keeps (t.setPos p) :=
  { k with tracker := congrArg (fun r : Tracker => { r with pos := some p }) k.tracker }

theorem State.advance_keeps (s : State) (p : Pos) : (s.setPos p).Keeps (s.advance p) := by
  unfold State.advance
  split
  · dsimp only
    split
    · exact Keeps.walkAll (Keeps.dueTest (.refl _) p) _ _
    · exact Keeps.dueTest (State.setPos_keeps (Keeps.walkAll (.refl s) _ _) p) p
  · exact Keeps.dueTest (.refl _) p

theorem State.reportTrack_keeps (k : s.Keeps t) (c : TrackChange) : s.Keeps (t.reportTrack c) := by
  have either : ∀ b : Bool, s.Keeps (if b then t.report (.track c t.tracker.state t.tracker.pos) else t) := fun b => by
    cases b with
    | true => exact Keeps.report k _
    | false => exact k
  exact either _

/-- The tracker of `t` is the argument, and nothing else that an advance, a raise or a report keeps has changed. -/
def State.Tracks (s t : State) (tr : Tracker) : Prop := (s.setTracker tr).Keeps t

theorem State.lock_tracks (s : State) (p : Pos) :
    s.Tracks (s.lock p) { s.tracker.lockedAt p with run := s.tracker.run + 1 } :=
  Keeps.dueTest (State.reportTrack_keeps (Keeps.setCondition (.refl _) _ _) _) _

theorem State.accept_tracks (s : State) (p : Pos) :
    s.Tracks ((s.setTracker (s.tracker.lockAt p)).advance p) (s.tracker.lockedAt p) :=
  (s.setTracker (s.tracker.lockAt p)).advance_keeps p

theorem State.fall_tracks (s : State) (tr : Tracker) (k : Cause) :
    s.Tracks ((s.setTracker tr).raisePart k none none) tr := Keeps.raisePart (.refl _) _ _ _

theorem State.setTracker_tracks (s : State) (tr : Tracker) : s.Tracks (s.setTracker tr) tr := .refl _

theorem State.same_tracks (s : State) : s.Tracks s s.tracker := .refl _

theorem State.Tracks.tracker (k : s.Tracks t tr) : t.tracker = tr := State.Keeps.tracker k

/-- The tracker after a frame. -/
def Tracker.taken (t : Tracker) (p : Pos) : Tracker :=
  match t.state with
  | .noTimebase | .lost => if p.count < t.cpr then t.base p else t
  | .acquiring =>
    match t.ref with
    | none => if p.count < t.cpr then t.base p else t
    | some ref =>
      match t.classify ref p with
      | .forward =>
        if t.acquireCount ≤ t.run + 1 then { t.lockedAt p with run := t.run + 1 }
        else { t with ref := some p, run := t.run + 1, gapTimer := some t.gapLimit }
      | .outOfRange => t.noBase
      | .jump | .reverse => t.base p
  | .locked =>
    match t.ref with
    | none => t.fall p
    | some ref =>
      match t.classify ref p with
      | .forward => t.lockedAt p
      | .reverse => t.base p
      | .jump | .outOfRange => if t.jumpPending then t.fall p else { t with jumpPending := true }
  | .holdover => if t.recovers p then t.lockedAt p else t.fall p

theorem State.trackAngle_tracks (s : State) (p : Pos) : s.Tracks (s.trackAngle p) (s.tracker.taken p) := by
  have based : s.Tracks (if p.count < s.tracker.cpr then s.setTracker (s.tracker.base p) else s)
      (if p.count < s.tracker.cpr then s.tracker.base p else s.tracker) := by
    split
    · exact s.setTracker_tracks _
    · exact s.same_tracks
  unfold State.trackAngle State.angleAcquiring State.angleLocked State.angleHoldover Tracker.taken
  dsimp only
  cases s.tracker.state with
  | noTimebase => exact based
  | lost => exact based
  | acquiring =>
    dsimp only
    cases s.tracker.ref with
    | none => exact based
    | some ref =>
      dsimp only
      cases s.tracker.classify ref p with
      | forward =>
        dsimp only
        split
        · exact s.lock_tracks p
        · exact s.setTracker_tracks _
      | outOfRange => exact s.setTracker_tracks _
      | jump => exact s.setTracker_tracks _
      | reverse => exact s.setTracker_tracks _
  | locked =>
    dsimp only
    cases s.tracker.ref with
    | none => exact s.setTracker_tracks _
    | some ref =>
      dsimp only
      cases s.tracker.classify ref p with
      | forward => exact s.accept_tracks p
      | reverse => exact s.fall_tracks _ _
      | jump =>
        dsimp only
        split
        · exact s.fall_tracks _ _
        · exact s.setTracker_tracks _
      | outOfRange =>
        dsimp only
        split
        · exact s.fall_tracks _ _
        · exact s.setTracker_tracks _
  | holdover =>
    dsimp only
    split
    · exact s.accept_tracks p
    · exact s.fall_tracks _ _

/-! ### The SUPPLY class through a frame -/

theorem State.advance_supply (s : State) (p : Pos) : s.SupplyKept (s.advance p) := by
  unfold State.advance
  split
  · dsimp only
    split
    · refine .trans ?_ (State.walkAll_supply _ _ _)
      exact .of_faults rfl
    · exact (s.walkAll_supply _ _).faults rfl
  · exact .of_faults rfl

theorem State.setTracker_raise_supply (s : State) (tr : Tracker) (other : FaultClass.supply ≠ k.cls) :
    s.SupplyKept ((s.setTracker tr).raisePart k none none) := by
  refine .trans ?_ (State.raisePart_supply other none none)
  exact .of_faults rfl

theorem State.lock_supply (s : State) (p : Pos) : s.SupplyKept (s.lock p) := by
  let u := (s.setTracker { s.tracker.lockAt p with run := s.tracker.run + 1, pos := some p }).setCondition .timebase false
  obtain ⟨q, track⟩ := u.reportTrack_eq .gain
  have same : (u.reportTrack .gain).faults = u.faults := (congrArg State.faults track).trans rfl
  have marked : s.SupplyKept u := ⟨(State.record_updRecord_eq _ _ _ _).trans (if_neg (by decide)), id⟩
  exact (marked.faults same).faults rfl

theorem State.trackAngle_supply (s : State) (p : Pos) : s.SupplyKept (s.trackAngle p) := by
  have based : s.SupplyKept (if p.count < s.tracker.cpr then s.setTracker (s.tracker.base p) else s) := by
    split <;> exact .of_faults rfl
  have accepted : s.SupplyKept ((s.setTracker (s.tracker.lockAt p)).advance p) := by
    refine .trans ?_ (State.advance_supply _ p)
    exact .of_faults rfl
  unfold State.trackAngle State.angleAcquiring State.angleLocked State.angleHoldover
  dsimp only
  cases s.tracker.state with
  | noTimebase => exact based
  | lost => exact based
  | acquiring =>
    dsimp only
    cases s.tracker.ref with
    | none => exact based
    | some ref =>
      dsimp only
      cases s.tracker.classify ref p with
      | forward =>
        dsimp only
        split
        · exact s.lock_supply p
        · exact .of_faults rfl
      | outOfRange => exact .of_faults rfl
      | jump => exact .of_faults rfl
      | reverse => exact .of_faults rfl
  | locked =>
    dsimp only
    cases s.tracker.ref with
    | none => exact .of_faults rfl
    | some ref =>
      dsimp only
      cases s.tracker.classify ref p with
      | forward => exact accepted
      | reverse => exact s.setTracker_raise_supply _ (by decide)
      | jump =>
        dsimp only
        split
        · exact s.setTracker_raise_supply _ (by decide)
        · exact .of_faults rfl
      | outOfRange =>
        dsimp only
        split
        · exact s.setTracker_raise_supply _ (by decide)
        · exact .of_faults rfl
  | holdover =>
    dsimp only
    split
    · exact accepted
    · exact s.setTracker_raise_supply _ (by decide)

/-! ### The two handovers (R155) -/

theorem State.handAngle_keeps (s : State) (p : Pos) (pressure temp : Half) :
    ((s.sampled pressure temp).setTracker (s.tracker.taken p)).Keeps (s.handAngle p pressure temp) := by
  have readings := s.takeReadings_keeps pressure temp
  unfold State.handAngle
  split
  · have tracked := (s.takeReadings pressure temp).trackAngle_tracks p
    rw [s.takeReadings_tracker] at tracked
    refine .trans ?_ tracked
    exact { readings with tracker := rfl }
  · have tracked := s.trackAngle_tracks p
    refine .trans ?_ ((s.trackAngle p).takeReadings_keeps pressure temp)
    have tracker : (s.trackAngle p).tracker = s.tracker.taken p := tracked.tracker
    unfold State.Tracks at tracked
    exact
      { tracked with
        pressure := congrArg (fun m : Monitor => (m.take pressure.toNat).1) tracked.pressure
        temperature := congrArg (fun m : Monitor => (m.take temp.toInt).1) tracked.temperature }

theorem State.handAngle_tracker (s : State) (p : Pos) (pressure temp : Half) :
    (s.handAngle p pressure temp).tracker = s.tracker.taken p := (s.handAngle_keeps p pressure temp).tracker

end

/-- A frame that a listening part takes is acted on and sent on. -/
theorem exec_angleFrame_live {s : State} (live : s.held = false) (rev count pressure temp : Half) (mark : Byte) :
    exec (.angleFrame rev count pressure temp mark) s =
      .next (s.takeAngleFrame rev count pressure temp mark) :=
  congrArg Host.Outcome.next (State.takeFrame_live live _ _)

end Sys2Proof.Machine

/-! PROOFS. The readings of an ANGLE frame at the two supply monitors (R144, R145, R153, R155). -/

namespace Sys2Proof.Machine

section
set_option Elab.async false
variable {s t u : State} {k : Cause} {a b : Option Cause}

/-! ### The SUPPLY class through the readings (R134, R135, R145) -/

/-- From `s` to `t` the SUPPLY condition has been marked from the monitors of `t`, and SUPPLY raised, last with the
cause `last`, or not at all. -/
structure State.Supplied (s t : State) (last : Option Cause) : Prop where
  condition : (t.record .supply).condition = (t.faults.pressure.condition || t.faults.temperature.condition)
  action    : (t.record .supply).action = (s.record .supply).action
  safe      : s.faults.mode = .safe → t.faults.mode = .safe
  quiet     : last = none → t.record .supply =
    { s.record .supply with condition := t.faults.pressure.condition || t.faults.temperature.condition }
  raised    : ∀ k, last = some k →
    (t.record .supply).latched = true ∧ (t.record .supply).lastStation = none ∧ (t.record .supply).lastCause = some k ∧
      ((s.record .supply).action = .hold ∨ (s.record .supply).action = .halt → (t.record .supply).bars = true) ∧
      ((s.record .supply).action = .stop → (t.record .supply).inStop = true ∧ t.faults.mode = .safe)

theorem State.Supplied.trans (first : s.Supplied t a) (second : t.Supplied u b) : s.Supplied u (b.or a) where
  condition := second.condition
  action := second.action.trans first.action
  safe safe := second.safe (first.safe safe)
  quiet none_ := by
    obtain ⟨rfl, rfl⟩ := Option.or_eq_none_iff.mp none_
    rw [second.quiet rfl, first.quiet rfl]
  raised k some_ := by
    cases b with
    | none =>
      obtain ⟨latched, station, cause, bars, stop⟩ := first.raised k some_
      rw [second.quiet rfl]
      exact ⟨latched, station, cause, bars, fun act => ⟨(stop act).1, second.safe (stop act).2⟩⟩
    | some k' =>
      have raised := second.raised k some_
      rw [first.action] at raised
      exact raised

theorem State.Supplied.after (first : s.SupplyKept t) (second : t.Supplied u a) : s.Supplied u a where
  condition := second.condition
  action := second.action.trans (congrArg ClassRecord.action first.record)
  safe safe := second.safe (first.safe safe)
  quiet none_ := by rw [second.quiet none_, first.record]
  raised k some_ := by
    have raised := second.raised k some_
    rw [first.record] at raised
    exact raised

theorem State.Supplied.before (first : s.Supplied t a) (second : t.SupplyKept u)
    (pressure : u.faults.pressure = t.faults.pressure) (temperature : u.faults.temperature = t.faults.temperature) :
    s.Supplied u a where
  condition := by rw [second.record, pressure, temperature, first.condition]
  action := (congrArg ClassRecord.action second.record).trans first.action
  safe safe := second.safe (first.safe safe)
  quiet none_ := by rw [second.record, pressure, temperature, first.quiet none_]
  raised k some_ := by
    obtain ⟨latched, station, cause, bars, stop⟩ := first.raised k some_
    rw [second.record]
    exact ⟨latched, station, cause, bars, fun act => ⟨(stop act).1, second.safe (stop act).2⟩⟩

theorem State.marked_record (s : State) (n : MonitorName) (v : Int) :
    (s.marked n v).record .supply =
      { s.record .supply with
        condition := (s.marked n v).faults.pressure.condition || (s.marked n v).faults.temperature.condition } := by
  cases n with
  | _ => exact State.record_setCondition _ _ _

theorem State.marked_supplied (s : State) (n : MonitorName) (v : Int) : s.Supplied (s.marked n v) none where
  condition := (congrArg ClassRecord.condition (s.marked_record n v)).trans rfl
  action := (congrArg ClassRecord.action (s.marked_record n v)).trans rfl
  safe safe := by cases n <;> exact safe
  quiet _ := s.marked_record n v
  raised k some_ := by cases some_

theorem State.raise_supplied (marked : s.Supplied t none) (cls : k.cls = .supply) :
    s.Supplied (t.raisePart k none none) (some k) := by
  have keeps : t.Keeps (t.raisePart k none none) := Keeps.raisePart (.refl t) _ _ _
  have record : (t.raisePart k none none).record .supply = (t.record .supply).raised k none :=
    (State.raisePart_record FaultClass.supply_untouched _ _ _).trans (if_pos cls.symm)
  have act := marked.action
  refine ⟨?_, ?_, fun safe => State.raisePart_safe (marked.safe safe) _ _ _, fun none_ => (by cases none_),
    fun k' some_ => ?_⟩
  · rw [record, keeps.pressure, keeps.temperature, ← marked.condition]
    rfl
  · rw [record, ← act]
    rfl
  · cases some_
    rw [record]
    refine ⟨rfl, rfl, rfl, fun bars => ?_, fun stop => ⟨?_, State.raisePart_stop_mode ?_ _ _⟩⟩
    · rw [← act] at bars
      unfold ClassRecord.raised
      rcases bars with e | e
      all_goals simp [e]
    · rw [← act] at stop
      unfold ClassRecord.raised
      simp [stop]
    · rw [cls, act, stop]

/-- The cause that a sample raises, if any. -/
def State.sampleRaise (s : State) (n : MonitorName) (v : Int) : Option Cause :=
  if ((s.monitor n).take v).2 then some (s.sampleCause n v) else none

theorem State.sample_supplied (s : State) (n : MonitorName) (v : Int) : s.Supplied (s.sample n v) (s.sampleRaise n v) := by
  rw [State.sample_eq]
  unfold State.sampleRaise
  split
  · exact State.raise_supplied (s.marked_supplied n v) (supplyCause_cls _ _)
  · exact s.marked_supplied n v

theorem State.sampleRaise_congr {n : MonitorName} (same : t.monitor n = s.monitor n) (v : Int) :
    t.sampleRaise n v = s.sampleRaise n v := by
  unfold State.sampleRaise State.sampleCause
  rw [same]

/-- The cause that the readings of a frame raise last, if any. -/
def State.readingsRaise (s : State) (pressure temp : Half) : Option Cause :=
  if s.arbiter.temperatureFirst then
    (s.sampleRaise .pressure pressure.toNat).or (s.sampleRaise .temperature temp.toInt)
  else (s.sampleRaise .temperature temp.toInt).or (s.sampleRaise .pressure pressure.toNat)

theorem State.takeReadings_supplied (s : State) (pressure temp : Half) :
    s.Supplied (s.takeReadings pressure temp) (s.readingsRaise pressure temp) := by
  unfold State.takeReadings State.readingsRaise
  split
  · have first := s.sample_temperature temp.toInt
    rw [← State.sampleRaise_congr (s := s) (t := s.sample .temperature temp.toInt) (n := .pressure) first.pressure]
    exact (s.sample_supplied _ _).trans (State.sample_supplied _ _ _)
  · have first := s.sample_pressure pressure.toNat
    rw [← State.sampleRaise_congr (s := s) (t := s.sample .pressure pressure.toNat) (n := .temperature) first.temperature]
    exact (s.sample_supplied _ _).trans (State.sample_supplied _ _ _)

theorem State.handAngle_supplied (s : State) (p : Pos) (pressure temp : Half) :
    s.Supplied (s.handAngle p pressure temp) (s.readingsRaise pressure temp) := by
  unfold State.handAngle
  split
  · have tracked := (s.takeReadings pressure temp).trackAngle_tracks p
    exact (s.takeReadings_supplied pressure temp).before (State.trackAngle_supply _ p) tracked.pressure
      tracked.temperature
  · have tracked := s.trackAngle_tracks p
    have same : (s.trackAngle p).readingsRaise pressure temp = s.readingsRaise pressure temp := by
      unfold State.readingsRaise
      rw [State.sampleRaise_congr (s := s) (t := s.trackAngle p) (n := .pressure) tracked.pressure,
        State.sampleRaise_congr (s := s) (t := s.trackAngle p) (n := .temperature) tracked.temperature,
        show (s.trackAngle p).arbiter = s.arbiter from tracked.arbiter]
    rw [← same]
    exact .after (s.trackAngle_supply p) (State.takeReadings_supplied _ _ _)

/-! ### The causes and the mark -/

theorem State.sampleCause_pressure (s : State) (v : Int) :
    s.sampleCause .pressure v = if v < s.faults.pressure.low then .pressureLow else .pressureHigh := by
  unfold State.sampleCause
  by_cases below : v < s.faults.pressure.low
  · rw [if_pos below, show decide (v < (s.monitor .pressure).low) = true from decide_eq_true below]
    rfl
  · rw [if_neg below, show decide (v < (s.monitor .pressure).low) = false from decide_eq_false below]
    rfl

theorem State.sampleCause_temperature (s : State) (v : Int) :
    s.sampleCause .temperature v = if v < s.faults.temperature.low then .tempLow else .tempHigh := by
  unfold State.sampleCause
  by_cases below : v < s.faults.temperature.low
  · rw [if_pos below, show decide (v < (s.monitor .temperature).low) = true from decide_eq_true below]
    rfl
  · rw [if_neg below, show decide (v < (s.monitor .temperature).low) = false from decide_eq_false below]
    rfl

theorem ReportQueue.markSent_eq (q : ReportQueue) (mark : Byte) :
    q.markSent mark = if mark = 0 ∧ q.threshold ≤ q.queue.length then 1 else mark := by
  unfold ReportQueue.markSent
  by_cases zero : mark = 0
  · rw [if_neg (not_not.mpr zero), if_congr (and_iff_right zero) rfl rfl, zero]
  · rw [if_pos zero, if_neg fun both => zero both.1]

end

/-- Settles O13. -/
theorem angleReadingsReachMonitors : Obligations.AngleReadingsReachMonitors := by
  refine ⟨fun m v => ⟨Monitor.take_outside, fun low high out => ?_, fun low high inner inner' => ?_⟩,
    fun s n v => ?_, fun rev count pressure temp mark s live => ?_⟩
  · rw [Monitor.take_inside low high, if_neg out]
  · rw [Monitor.take_inside low high, if_pos ⟨inner, inner'⟩]
  · intro m cause u marked
    have same : s.marked n v = marked := rfl
    have told : s.sampleCause n v = cause := by
      cases n with
      | pressure => exact s.sampleCause_pressure v
      | temperature => exact s.sampleCause_temperature v
    refine ⟨fun no => ?_, fun yes => ?_⟩
    · rw [State.sample_eq, if_neg (by rw [show s.monitor n = m from rfl, no]; decide), same]
    · rw [State.sample_eq, if_pos yes, same, told]
  · intro p q pRaises qRaises pCause qCause r
    let good : State := s.goodFrame
    let t := good.handAngle ⟨rev.toNat, count.toNat⟩ pressure temp
    have keeps := good.handAngle_keeps ⟨rev.toNat, count.toNat⟩ pressure temp
    have supplied := good.handAngle_supplied ⟨rev.toNat, count.toNat⟩ pressure temp
    let f := angleBytes rev count pressure temp
      ((if good.arbiter.markLast then t.reports else good.reports).markSent mark)
    have pRaise : good.sampleRaise .pressure pressure.toNat = if pRaises then some pCause else none := by
      unfold State.sampleRaise
      rw [State.sampleCause_pressure]
      rfl
    have qRaise : good.sampleRaise .temperature temp.toInt = if qRaises then some qCause else none := by
      unfold State.sampleRaise
      rw [State.sampleCause_temperature]
      rfl
    have last : good.readingsRaise pressure temp =
        if s.arbiter.temperatureFirst then
          (if pRaises then some pCause else none).or (if qRaises then some qCause else none)
        else (if qRaises then some qCause else none).or (if pRaises then some pCause else none) := by
      unfold State.readingsRaise
      rw [pRaise, qRaise]
      rfl
    refine ⟨t.sendRing f, exec_angleFrame_live live _ _ _ _ _, supplied.condition, fun noP noQ => ?_, fun some_ => ?_,
      keeps.pressure, keeps.temperature, keeps.ring, ?_, keeps.zones, keeps.sequencer, keeps.meterUnit,
      keeps.management, keeps.resets, keeps.lineHeld, keeps.verifier, keeps.watchdog, keeps.lockoutLimit, keeps.prios,
      keeps.threshold⟩
    · refine supplied.quiet ?_
      rw [last, if_neg noP, if_neg noQ, ite_self]
      rfl
    · refine supplied.raised _ (last.trans ?_)
      by_cases P : pRaises
      · by_cases Q : qRaises
        · cases s.arbiter.temperatureFirst with
          | _ => simp [P, Q]
        · cases s.arbiter.temperatureFirst with
          | _ => simp [P, Q]
      · have Q : qRaises := some_.resolve_left P
        cases s.arbiter.temperatureFirst with
        | _ => simp [P, Q]
    · show t.ringOut ++ [f] = _
      have threshold : t.reports.threshold = s.reports.threshold := keeps.threshold
      have judged : (if good.arbiter.markLast then t.reports else good.reports).markSent mark =
          if mark = 0 ∧ s.reports.threshold ≤ (if s.arbiter.markLast then t.sendRing f else s).reports.queue.length then 1
          else mark := by
        rw [ReportQueue.markSent_eq, show good.arbiter = s.arbiter from rfl]
        cases s.arbiter.markLast with
        | true => rw [if_pos rfl, if_pos rfl, threshold]; rfl
        | false => rfl
      rw [show t.ringOut = s.ringOut from keeps.ringOut, ← judged]

end Sys2Proof.Machine

/-! PROOFS. The Angle Tracker from no timebase to lock (R4 to R6, R11 to R13). -/

namespace Sys2Proof.Machine

section
set_option Elab.async false
variable {s t u : State} {p ref : Pos} {pressure temp : Half}

/-! ### The frame that locks (R6, R11 to R13) -/

/-- The state in which the tracker has locked, before its report and the due test. -/
def State.gained (s : State) (p : Pos) : State :=
  (s.setTracker { s.tracker.lockAt p with run := s.tracker.run + 1, pos := some p }).setCondition .timebase false

theorem State.lock_eq (s : State) (p : Pos) : s.lock p = ((s.gained p).reportTrack .gain).dueTest p := rfl

theorem State.lock_quiet (s : State) (p : Pos) :
    (s.lock p).discharge = (s.dueTest p).discharge ∧
      (s.lock p).record .timebase = { s.record .timebase with condition := false } := by
  obtain ⟨q, track⟩ := (s.gained p).reportTrack_eq .gain
  rw [State.lock_eq, track]
  exact ⟨rfl, State.record_setCondition _ _ _⟩

theorem State.lock_told (edge : s.tracker.edge = .gain ∨ s.tracker.edge = .both) (p : Pos) :
    (s.lock p).reports = s.reports.create (.track .gain .locked (some p)) := by
  rw [State.lock_eq, State.reportTrack_told (s := s.gained p) (edge.symm.imp_right fun e => Or.inl ⟨e, rfl⟩)]
  rfl

theorem State.lock_untold (edge : s.tracker.edge = .none ∨ s.tracker.edge = .loss) (p : Pos) :
    (s.lock p).reports = s.reports := by
  rw [State.lock_eq, State.reportTrack_untold (s := s.gained p) (edge.imp_right fun e => Or.inr ⟨e, rfl⟩)]
  rfl

theorem State.dueTest_discharge (tracker : t.tracker = s.tracker) (discharge : t.discharge = s.discharge) (p : Pos) :
    (t.dueTest p).discharge = (s.dueTest p).discharge := by
  unfold State.dueTest
  rw [tracker, discharge]

/-! ### The handover, either way round (R155) -/

theorem State.handAngle_of {P : State → Prop} (first : P ((s.takeReadings pressure temp).trackAngle p))
    (second : P ((s.trackAngle p).takeReadings pressure temp)) : P (s.handAngle p pressure temp) := by
  unfold State.handAngle
  split
  · exact first
  · exact second

/-- Readings that raise nothing. -/
def State.ReadsQuietly (s : State) (pressure temp : Half) : Prop :=
  (s.faults.pressure.take pressure.toNat).2 = false ∧ (s.faults.temperature.take temp.toInt).2 = false

theorem State.handAngle_tracked (s : State) (p : Pos) (pressure temp : Half) :
    (s.handAngle p pressure temp).tracker = (s.trackAngle p).tracker :=
  (s.handAngle_tracker p pressure temp).trans (s.trackAngle_tracks p).tracker.symm

/-- What the readings leave alone, and the tracker computes from the state before them, is the same either way. -/
theorem State.handAngle_field {α : Type} (f : State → α) (readings : ∀ u : State, f (u.takeReadings pressure temp) = f u)
    (frame : f ((s.takeReadings pressure temp).trackAngle p) = f (s.trackAngle p)) :
    f (s.handAngle p pressure temp) = f (s.trackAngle p) :=
  State.handAngle_of (P := fun t => f t = f (s.trackAngle p)) frame (readings _)

/-- The reports of a frame whose readings raise nothing. -/
theorem State.handAngle_reports (quiet : s.ReadsQuietly pressure temp) {q : ReportQueue}
    (frame : ∀ u : State, u.tracker = s.tracker → u.reports = s.reports → (u.trackAngle p).reports = q) :
    (s.handAngle p pressure temp).reports = q := by
  have tracked := s.trackAngle_tracks p
  refine State.handAngle_of (P := fun t => t.reports = q)
    (frame _ (s.takeReadings_tracker _ _) (State.takeReadings_quiet _ _ quiet.1 quiet.2).1) ?_
  rw [(State.takeReadings_quiet _ _ (by rw [tracked.pressure]; exact quiet.1)
    (by rw [tracked.temperature]; exact quiet.2)).1]
  exact frame s rfl rfl

/-! ### A frame that locks, and one that does not -/

/-- The frame at `p` locks the tracker (R6). -/
def Tracker.Locks (t : Tracker) (p : Pos) : Prop :=
  ∃ ref, t.state = .acquiring ∧ t.ref = some ref ∧ t.classify ref p = .forward ∧ t.acquireCount ≤ t.run + 1

theorem State.trackAngle_gains (locks : s.tracker.Locks p) : s.trackAngle p = s.lock p := by
  obtain ⟨ref, acquiring, some_, forward, full⟩ := locks
  exact State.trackAngle_locks acquiring some_ forward full

theorem State.trackAngle_still
    (unlocked : s.tracker.state = .noTimebase ∨ s.tracker.state = .lost ∨ s.tracker.state = .acquiring)
    (stays : ¬s.tracker.Locks p) : ∃ tr, s.trackAngle p = s.setTracker tr := by
  have based : s.tracker.state = .noTimebase ∨ s.tracker.state = .lost ∨
      (s.tracker.state = .acquiring ∧ s.tracker.ref = none) → ∃ tr, s.trackAngle p = s.setTracker tr := fun e => by
    rw [State.trackAngle_unlocked e]
    split
    · exact ⟨_, rfl⟩
    · exact ⟨s.tracker, rfl⟩
  rcases unlocked with e | e | acquiring
  · exact based (Or.inl e)
  · exact based (Or.inr (Or.inl e))
  · cases some_ : s.tracker.ref with
    | none => exact based (Or.inr (Or.inr ⟨acquiring, some_⟩))
    | some ref =>
      cases cls : s.tracker.classify ref p with
      | forward =>
        have more : s.tracker.run + 1 < s.tracker.acquireCount :=
          Nat.not_le.mp fun full => stays ⟨ref, acquiring, some_, cls, full⟩
        exact ⟨_, State.trackAngle_adds acquiring some_ cls more⟩
      | outOfRange => exact ⟨_, State.trackAngle_ends acquiring some_ cls⟩
      | jump => exact ⟨_, State.trackAngle_anew acquiring some_ (Or.inr cls)⟩
      | reverse => exact ⟨_, State.trackAngle_anew acquiring some_ (Or.inl cls)⟩

end

/-- Settles O14. -/
theorem angleAcquiresTimebase : Obligations.AngleAcquiresTimebase := by
  refine ⟨fun tr ref p => ?_, fun rev count pressure temp mark s live => ?_⟩
  · intro ahead consistent
    have steady : revConsistent ref p = true ↔ consistent := revConsistent_iff ref p
    refine ⟨fun inside inside' => ?_, steady, fun out => Tracker.classify_out out ref, fun inside step same => ?_,
      fun inside step other => ?_, fun inside leap back => ?_, fun inside leap far => ?_⟩
    · show (((p.count + tr.cpr - ref.count) % tr.cpr : Nat) : Int) = _
      rw [Int.natCast_emod, Int.ofNat_sub (by omega), Nat.cast_add,
        show (p.count : Int) + tr.cpr - ref.count = p.count - ref.count + tr.cpr by ring, Int.add_emod_right]
    · rw [Tracker.classify_step inside step, if_pos (steady.mpr same)]
    · rw [Tracker.classify_step inside step, if_neg (mt steady.mp other)]
    · rw [Tracker.classify_leap inside leap, if_pos back]
    · rw [Tracker.classify_leap inside leap, if_neg (Nat.not_le.mpr far)]
  · intro p tr base quiet locks
    let good : State := s.goodFrame
    let t := good.handAngle p pressure temp
    have tracker : t.tracker = (good.trackAngle p).tracker := good.handAngle_tracked p pressure temp
    have readings := good.takeReadings_tracker pressure temp
    have poured := good.takeReadings_discharge pressure temp
    refine ⟨t.sendRing _, exec_angleFrame_live live _ _ _ _ _, fun yes => ?_, fun yes still edge => ?_,
      fun yes still edge => ?_, fun unlocked no => ⟨?_, fun still => ?_⟩, fun unlocked => ?_,
      fun ref acquiring some_ => ⟨fun forward more => ?_, fun forward full => ?_, fun bad => ?_, fun out => ?_⟩⟩
    · refine (State.handAngle_field State.discharge (fun u => u.takeReadings_discharge pressure temp) ?_).trans ?_
      · rw [State.trackAngle_gains (by rw [readings]; exact yes), State.trackAngle_gains (s := good) yes, (State.lock_quiet _ p).1,
          (State.lock_quiet _ p).1, State.dueTest_discharge readings poured]
      · rw [State.trackAngle_gains (s := good) yes, (State.lock_quiet _ p).1]
        rfl
    · refine State.handAngle_reports (s := good) still fun u same same' => ?_
      rw [State.trackAngle_gains (by rw [same]; exact yes), State.lock_told (by rw [same]; exact edge), same']
      rfl
    · refine State.handAngle_reports (s := good) still fun u same same' => ?_
      rw [State.trackAngle_gains (by rw [same]; exact yes), State.lock_untold (by rw [same]; exact edge), same']
      rfl
    · refine (State.handAngle_field State.discharge (fun u => u.takeReadings_discharge pressure temp) ?_).trans ?_
      · obtain ⟨x, first⟩ := State.trackAngle_still (s := good.takeReadings pressure temp) (p := p)
          (by rw [readings]; exact unlocked) (by rw [readings]; exact no)
        obtain ⟨y, second⟩ := State.trackAngle_still (s := good) (p := p) unlocked no
        rw [first, second]
        exact poured
      · obtain ⟨y, second⟩ := State.trackAngle_still (s := good) (p := p) unlocked no
        rw [second]
        rfl
    · refine State.handAngle_reports (s := good) still fun u same same' => ?_
      obtain ⟨x, first⟩ := State.trackAngle_still (s := u) (p := p) (by rw [same]; exact unlocked)
        (by rw [same]; exact no)
      rw [first]
      exact same'
    · refine tracker.trans ?_
      rw [State.trackAngle_unlocked (s := good) unlocked]
      by_cases inside : p.count < tr.cpr
      · rw [if_pos (show count.toNat < tr.cpr from inside), if_pos (show p.count < good.tracker.cpr from inside)]
        rfl
      · rw [if_neg (show ¬count.toNat < tr.cpr from inside), if_neg (show ¬p.count < good.tracker.cpr from inside)]
        rfl
    · refine tracker.trans ?_
      rw [State.trackAngle_adds (s := good) acquiring some_ forward more]
      rfl
    · have yes : tr.Locks p := ⟨ref, acquiring, some_, forward, full⟩
      refine ⟨tracker.trans ?_, ?_⟩
      · rw [State.trackAngle_gains (s := good) yes, (good.lock_tracks p).tracker]
        rfl
      · refine (congrArg ClassRecord.condition (State.handAngle_field (State.record · .timebase)
          (fun u => u.takeReadings_timebase pressure temp) ?_)).trans ?_
        · rw [State.trackAngle_gains (by rw [readings]; exact yes), State.trackAngle_gains (s := good) yes,
            (State.lock_quiet _ p).2, (State.lock_quiet _ p).2, good.takeReadings_timebase pressure temp]
        · rw [State.trackAngle_gains (s := good) yes, (State.lock_quiet _ p).2]
    · refine tracker.trans ?_
      rw [State.trackAngle_anew (s := good) acquiring some_ bad]
      rfl
    · refine tracker.trans ?_
      rw [State.trackAngle_ends (s := good) acquiring some_ out]
      rfl

end Sys2Proof.Machine

/-! PROOFS. The Angle Tracker in LOCKED and HOLDOVER, the walks and the due test (R7, R8, R10, R12, R13, R16, R17,
R122). -/

namespace Sys2Proof.Machine

section
set_option Elab.async false
variable {s t u : State} {p ref old : Pos} {pressure temp : Half} {k : Cause} {tr : Tracker}

/-! ### The order of the heads -/

theorem nodup_eraseDups {α : Type} [BEq α] [LawfulBEq α] : ∀ l : List α, l.eraseDups.Nodup
  | [] => List.nodup_nil
  | a :: rest => by
    rw [List.eraseDups_cons]
    refine List.nodup_cons.mpr ⟨fun mem => ?_, nodup_eraseDups (rest.filter fun b => !b == a)⟩
    have other := (List.mem_filter.mp (List.mem_eraseDups.mp mem)).2
    rw [beq_self_eq_true] at other
    cases other
termination_by l => l.length
decreasing_by exact Nat.lt_succ_of_le (List.length_filter_le _ _)

theorem State.headOrder_perm (s : State) : s.headOrder.Perm (List.finRange 48) := by
  have nodup : s.headOrder.Nodup := by
    unfold State.headOrder
    dsimp only
    refine (nodup_eraseDups _).append (allHeads_nodup.filter _) fun h listed rest => ?_
    have unlisted := (List.mem_filter.mp rest).2
    rw [List.contains_iff_mem.mpr listed] at unlisted
    cases unlisted
  exact (List.perm_ext_iff_of_nodup nodup (List.nodup_finRange 48)).mpr fun h =>
    ⟨fun _ => List.mem_finRange h, fun _ => s.mem_headOrder h⟩

/-! ### The due test (R122) -/

theorem reached_iff (cpr : Nat) (p : Pos) (e : RejectEntry) :
    reached cpr e.due (absolute cpr p) = true ↔
      ((p.rev * cpr + p.count) % (65536 * cpr) + 65536 * cpr - e.due % (65536 * cpr)) % (65536 * cpr) <
        65536 * cpr / 2 := decide_eq_true_iff

theorem dueSplit_spec (cpr at_ : Nat) (l : List RejectEntry) :
    ∃ removed, l = removed ++ (dueSplit cpr at_ l).2 ∧ (dueSplit cpr at_ l).1 = removed.length ∧
      (∀ e ∈ removed, reached cpr e.due at_ = true) ∧
      ∀ e ∈ (dueSplit cpr at_ l).2.head?, ¬reached cpr e.due at_ = true := by
  induction l with
  | nil => exact ⟨[], rfl, rfl, fun e mem => (by cases mem), fun e mem => (by cases mem)⟩
  | cons x xs ih =>
    unfold dueSplit
    split
    · next due =>
      obtain ⟨removed, all, count, gone, stays⟩ := ih
      refine ⟨x :: removed, congrArg (x :: ·) all, congrArg (· + 1) count, fun e mem => ?_, stays⟩
      rcases List.mem_cons.mp mem with rfl | mem
      · exact due
      · exact gone e mem
    · next due =>
      refine ⟨[], rfl, rfl, fun e mem => (by cases mem), fun e mem => ?_⟩
      cases mem
      exact due

/-! ### The walks (R16) -/

theorem State.walkHead_still (h : HeadId) (a : Nat) (q : Pos) (s : State) : State.walkHead h 0 a q s = s := rfl

theorem State.walkHead_step (h : HeadId) (n a : Nat) (q : Pos) (s : State) :
    State.walkHead h (n + 1) a q s =
      State.walkHead h n ((a + 1) % s.tracker.cpr) (q.next s.tracker.cpr)
        (s.takeAngle h ((a + 1) % s.tracker.cpr) (q.next s.tracker.cpr)) := rfl

theorem State.walkAll_still (s : State) (old : Pos) : s.walkAll old 0 = s := by
  unfold State.walkAll
  generalize s.headOrder = heads
  induction heads with
  | nil => rfl
  | cons h rest ih =>
    rw [List.foldl_cons]
    refine Eq.trans (congrArg (List.foldl _ · rest) ?_) ih
    split
    · exact ite_self _
    · rfl

/-! ### A frame taken in LOCKED or HOLDOVER (R7, R8, R10) -/

/-- The crossings of an accepted frame, the discharge tracker before or after the heads. -/
def State.crossed (s : State) (p old : Pos) (first : Bool) (counts : Nat) : State :=
  if first then ((s.setPos p).dueTest p).walkAll old counts else ((s.walkAll old counts).setPos p).dueTest p

theorem State.advance_eq (some_ : s.tracker.pos = some old) (p : Pos) :
    s.advance p = s.crossed p old s.arbiter.dischargeFirst (advanceBy s.tracker.cpr p.count old.count) := by
  unfold State.advance
  rw [some_]
  rfl

/-- A frame accepted at the position held crosses nothing (R17). -/
theorem State.advance_heads (still : s.tracker.pos = some p) : (s.advance p).heads = s.heads := by
  rw [State.advance_eq still, advanceBy_self]
  unfold State.crossed
  split
  · rw [State.walkAll_still]
    rfl
  · rw [State.walkAll_still]
    rfl

/-- What is raised on a fall (R8, R10). -/
theorem State.fell_record (s : State) (tr : Tracker) (cls : k.cls = .timebase) :
    (((s.setTracker tr).raisePart k none none).record .timebase).latched = true ∧
      (((s.setTracker tr).raisePart k none none).record .timebase).lastCause = some k := by
  have record : ((s.setTracker tr).raisePart k none none).record .timebase = (s.record .timebase).raised k none :=
    (State.raisePart_record FaultClass.timebase_untouched _ _ _).trans (if_pos cls.symm)
  rw [record]
  exact ⟨rfl, rfl⟩

theorem Tracker.fall_eq (tr : Tracker) (p : Pos) :
    tr.fall p =
      { tr with
        state := .acquiring, ref := if p.count < tr.cpr then some p else none
        run := if p.count < tr.cpr then 1 else 0, jumpPending := false
        gapTimer := if p.count < tr.cpr then some tr.gapLimit else none, holdoverTimer := none } := by
  unfold Tracker.fall
  split
  · rfl
  · rfl

theorem State.handAngle_eq (s : State) (p : Pos) (pressure temp : Half) :
    s.handAngle p pressure temp =
      if s.arbiter.supplyFirst then (s.takeReadings pressure temp).trackAngle p
      else (s.trackAngle p).takeReadings pressure temp := rfl

/-- A frame on which the tracker falls, the readings taken before or after the fall. -/
theorem State.handAngle_falls (cls : k.cls = .timebase)
    (frame : ∀ u : State, u.tracker = s.tracker → u.trackAngle p = (u.setTracker tr).raisePart k none none) :
    (s.handAngle p pressure temp).tracker = tr ∧
      ((s.handAngle p pressure temp).record .timebase).latched = true ∧
      ((s.handAngle p pressure temp).record .timebase).lastCause = some k ∧
      s.handAngle p pressure temp =
        if s.arbiter.supplyFirst then ((s.takeReadings pressure temp).setTracker tr).raisePart k none none
        else ((s.setTracker tr).raisePart k none none).takeReadings pressure temp := by
  have first := frame (s.takeReadings pressure temp) (s.takeReadings_tracker pressure temp)
  have second := frame s rfl
  have record : ((s.handAngle p pressure temp).record .timebase).latched = true ∧
      ((s.handAngle p pressure temp).record .timebase).lastCause = some k := by
    refine State.handAngle_of (P := fun t => (t.record .timebase).latched = true ∧
      (t.record .timebase).lastCause = some k) ?_ ?_
    · rw [first]
      exact State.fell_record _ tr cls
    · rw [State.takeReadings_timebase, second]
      exact State.fell_record _ tr cls
  refine ⟨?_, record.1, record.2, ?_⟩
  · rw [State.handAngle_tracked, second]
    exact (s.fall_tracks tr k).tracker
  · rw [State.handAngle_eq, first, second]

/-- A frame that the tracker accepts, the readings taken before or after it. -/
theorem State.handAngle_accepts (some_ : s.tracker.pos = some old)
    (frame : ∀ u : State, u.tracker = s.tracker →
      u.trackAngle p = (u.setTracker (u.tracker.lockAt p)).advance p) :
    s.handAngle p pressure temp =
      if s.arbiter.supplyFirst then
        ((s.takeReadings pressure temp).setTracker (s.tracker.lockAt p)).crossed p old s.arbiter.dischargeFirst
          (advanceBy s.tracker.cpr p.count old.count)
      else
        ((s.setTracker (s.tracker.lockAt p)).crossed p old s.arbiter.dischargeFirst
          (advanceBy s.tracker.cpr p.count old.count)).takeReadings pressure temp := by
  have taken : ∀ u : State, u.tracker = s.tracker → u.arbiter = s.arbiter →
      u.trackAngle p =
        (u.setTracker (s.tracker.lockAt p)).crossed p old s.arbiter.dischargeFirst
          (advanceBy s.tracker.cpr p.count old.count) := fun u tracker arbiter => by
    have held : (u.setTracker (s.tracker.lockAt p)).tracker.pos = some old := some_
    rw [frame u tracker, tracker, State.advance_eq held, show (u.setTracker (s.tracker.lockAt p)).arbiter = _ from arbiter]
    rfl
  rw [State.handAngle_eq, taken _ (s.takeReadings_tracker pressure temp) (s.takeReadings_arbiter pressure temp),
    taken s rfl rfl]

end

/-- Settles O15. -/
theorem angleInLockAndHoldover : Obligations.AngleInLockAndHoldover := by
  refine ⟨State.headOrder_perm, fun s p => ?_, fun s old n => ?_, fun h n a q s => ⟨rfl, rfl⟩,
    fun rev count pressure temp mark s ref live some_ => ?_⟩
  · intro size due
    obtain ⟨removed, all, count, gone, stays⟩ :=
      dueSplit_spec s.tracker.cpr (absolute s.tracker.cpr p) s.discharge.schedule
    have pulse : (if 0 < removed.length then some s.discharge.pulseWidth else s.discharge.pulse) =
        if removed = [] then s.discharge.pulse else some s.discharge.pulseWidth := by
      cases removed with
      | nil => rfl
      | cons e rest => rw [if_pos (List.length_pos_of_ne_nil (List.cons_ne_nil e rest)), if_neg (List.cons_ne_nil e rest)]
    refine ⟨removed, _, all, fun e mem => (reached_iff _ p e).mp (gone e mem),
      fun e mem is => stays e mem ((reached_iff _ p e).mpr is), ?_, fun some_ live => ?_⟩
    · unfold State.dueTest
      dsimp only
      rw [count, pulse]
    · have runs : (s.dueTest p).discharge.pulse = some s.discharge.pulseWidth := by
        unfold State.dueTest
        dsimp only
        rw [count, pulse, if_neg some_]
      have free : (s.dueTest p).held = false := live
      unfold State.rejectOutput
      rw [runs, free]
      rfl
  · unfold State.walkAll
    congr 1
    funext u h
    cases (u.head h).offset with
    | none => rfl
    | some o =>
      dsimp only
      unfold Head.enrolled
      cases (u.head h).state with
      | _ => rfl
  · intro p tr accepted fallen near bad good told
    let t := good.handAngle p pressure temp
    let f := angleBytes rev count pressure temp ((if good.arbiter.markLast then t.reports else good.reports).markSent mark)
    have falls : tr.fall p = fallen := tr.fall_eq p
    have recovers : tr.recovers p = true ↔ near := Tracker.recovers_iff some_
    have tracker : t.tracker = (good.trackAngle p).tracker := good.handAngle_tracked p pressure temp
    have fell : ∀ k : Cause, k.cls = .timebase →
        (∀ u : State, u.tracker = tr → u.trackAngle p = (u.setTracker fallen).raisePart k none none) →
        t.tracker = fallen ∧ (t.record .timebase).latched = true ∧ (t.record .timebase).lastCause = some k ∧
          told (t.sendRing f) k := fun k cls frame => by
      obtain ⟨tracker, latched, cause, run⟩ := State.handAngle_falls (s := good) (pressure := pressure) (temp := temp) cls frame
      exact ⟨tracker, latched, cause, f, congrArg (State.sendRing · f) run⟩
    have jumped : tr.state = .holdover ∧ ¬near ∨ (tr.state = .locked ∧ bad ∧ tr.jumpPending = true) →
        t.tracker = fallen ∧ (t.record .timebase).latched = true ∧
          (t.record .timebase).lastCause = some .timebaseJump ∧ told (t.sendRing f) .timebaseJump := fun e =>
      fell .timebaseJump rfl fun u same => by
        rw [← falls, ← same]
        rcases e with ⟨holdover, far⟩ | ⟨locked, wrong, pending⟩
        · rw [State.trackAngle_holdover (by rw [same]; exact holdover), if_neg]
          rw [same]
          exact mt recovers.mp far
        · rw [State.trackAngle_jump (ref := ref) (by rw [same]; exact locked) (by rw [same]; exact some_)
            (by rw [same]; exact wrong), if_pos (by rw [same]; exact pending)]
    have taken : (tr.state = .locked ∧ tr.classify ref p = .forward) ∨ (tr.state = .holdover ∧ near) →
        ∀ u : State, u.tracker = tr → u.trackAngle p = (u.setTracker (u.tracker.lockAt p)).advance p :=
      fun e u same => by
        rcases e with ⟨locked, forward⟩ | ⟨holdover, close⟩
        · exact State.trackAngle_forward (ref := ref) (by rw [same]; exact locked) (by rw [same]; exact some_)
            (by rw [same]; exact forward)
        · rw [State.trackAngle_holdover (by rw [same]; exact holdover), if_pos]
          rw [same]
          exact recovers.mpr close
    have accepts : (tr.state = .locked ∧ tr.classify ref p = .forward) ∨ (tr.state = .holdover ∧ near) →
        t.tracker = accepted := fun e => by
      rw [tracker, taken e good rfl]
      exact (good.accept_tracks p).tracker
    refine ⟨t.sendRing f, exec_angleFrame_live live _ _ _ _ _, fun locked forward => accepts (Or.inl ⟨locked, forward⟩),
      fun locked forward still low high => ?_, fun locked wrong fresh => ?_,
      fun locked wrong pending => jumped (Or.inr ⟨locked, wrong, pending⟩), fun locked reverse => ?_,
      fun old held e => ?_, fun holdover close => accepts (Or.inr ⟨holdover, close⟩),
      fun holdover far => jumped (Or.inl ⟨holdover, far⟩)⟩
    · have accepted := taken (Or.inl ⟨locked, forward⟩)
      have tracked := good.trackAngle_tracks p
      have crossed : ∀ u : State, u.tracker = tr → (u.trackAngle p).heads = u.heads := fun u same => by
        rw [accepted u same, same]
        exact State.advance_heads (s := u.setTracker (tr.lockAt p)) still
      refine State.handAngle_of (P := fun t => t.heads = s.heads) ?_ ?_
      · rw [crossed _ (good.takeReadings_tracker pressure temp)]
        exact (State.takeReadings_quiet (s := good) _ _ low high).2
      · rw [(State.takeReadings_quiet _ _ (by rw [tracked.pressure]; exact low)
          (by rw [tracked.temperature]; exact high)).2]
        exact crossed good rfl
    · refine tracker.trans ?_
      rw [State.trackAngle_jump (s := good) locked some_ wrong,
        if_neg (show ¬good.tracker.jumpPending = true from fun yes => by cases fresh.symm.trans yes)]
      rfl
    · have inside : p.count < tr.cpr := Tracker.inside_of_classify (ref := ref) (by rw [reverse]; decide)
      refine fell .timebaseReverse rfl fun u same => ?_
      rw [State.trackAngle_reverse (ref := ref) (by rw [same]; exact locked) (by rw [same]; exact some_)
        (by rw [same]; exact reverse), same, ← falls]
      exact congrArg (fun x : Tracker => (u.setTracker x).raisePart .timebaseReverse none none) (if_pos inside).symm
    · intro moving counts cross
      exact ⟨f, congrArg (State.sendRing · f) (State.handAngle_accepts (s := good) held (taken e))⟩

end Sys2Proof.Machine

/-! PROOFS. The five checks of a verification and its completion (R31, R32). -/

namespace Sys2Proof.Machine

section
set_option Elab.async false
variable {t : Slot} {n : Nat} {z : ZoneMap}

/-! ### First indexes -/

/-- A list that stands for the indexes below `n`, tested as a predicate of them says: its first index. -/
theorem firstIndex_spec {α : Type} {p : α → Bool} {l : List α} {fails : Fin 12 → Prop} (fits : l.length ≤ 12)
    (tests : ∀ (i : Fin 12) (h : i.val < l.length), p l[i.val] = true ↔ fails i) :
    (∀ i : Fin 12, i.val < l.length → fails i → (∀ k : Fin 12, k < i → ¬fails k) → firstIndex p l = some i.val) ∧
      ((∀ i : Fin 12, i.val < l.length → ¬fails i) → firstIndex p l = none) := by
  refine ⟨fun i inside bad before => ?_, fun good => ?_⟩
  · refine List.findIdx?_eq_some_iff_getElem.mpr ⟨inside, (tests i inside).mpr bad, fun j earlier is => ?_⟩
    have below : j < l.length := Nat.lt_trans earlier inside
    exact before ⟨j, by omega⟩ earlier ((tests ⟨j, by omega⟩ below).mp is)
  · refine List.findIdx?_eq_none_iff.mpr fun x mem => ?_
    obtain ⟨j, inside, rfl⟩ := List.mem_iff_getElem.mp mem
    exact Bool.eq_false_iff.mpr fun is => good ⟨j, by omega⟩ inside ((tests ⟨j, by omega⟩ inside).mp is)

theorem getLast?_sorted {l : List Nat} (sorted : l.Pairwise (· < ·)) (i : Nat) :
    l.getLast? = some i ↔ i ∈ l ∧ ∀ k ∈ l, k ≤ i := by
  have last : ∀ j, l.getLast? = some j → j ∈ l ∧ ∀ k ∈ l, k ≤ j := fun j is => by
    obtain ⟨ys, rfl⟩ := List.getLast?_eq_some_iff.mp is
    obtain ⟨-, -, less⟩ := List.pairwise_append.mp sorted
    refine ⟨List.mem_append_right _ (List.mem_singleton_self j), fun k mem => ?_⟩
    rcases List.mem_append.mp mem with early | here
    · exact (less k early j (List.mem_singleton_self j)).le
    · exact (List.mem_singleton.mp here).le
  refine ⟨last i, fun ⟨mem, most⟩ => ?_⟩
  cases is : l.getLast? with
  | none =>
    rw [List.getLast?_eq_none_iff.mp is] at mem
    cases mem
  | some j =>
    obtain ⟨mem', most'⟩ := last j is
    rw [Nat.le_antisymm (most j mem') (most' i mem)]

/-! ### The segments below the count -/

theorem Slot.used_length (count : t.segCount = some n) (fits : n ≤ 12) : t.used.length = n := by
  unfold Slot.used
  rw [count, Option.getD_some, List.length_take, Vector.length_toList]
  exact Nat.min_eq_left fits

theorem Slot.used_get (t : Slot) (i : Fin 12) (inside : i.val < t.used.length) : t.used[i.val] = t.cells[i] :=
  List.getElem_take.trans (Vector.getElem_toList _)

theorem Slot.records_length (t : Slot) : t.records.length = t.used.length := List.length_map _

theorem Slot.records_get (t : Slot) (i : Fin 12) (inside : i.val < t.records.length) :
    t.records[i.val] = t.cells[i].record := by
  have inside' : i.val < t.used.length := by rwa [← t.records_length]
  exact (List.getElem_map _).trans (congrArg SegCell.record (t.used_get i inside'))

theorem Slot.computedCrc_eq (count : t.segCount = some n) :
    t.computedCrc =
      ringCrc ((nat16 (t.profile.getD 0) ++ nat8 n ++ nat16 t.header.target ++ nat16 t.header.underTol ++
        nat16 t.header.overTol ++ nat16 t.header.ratio ++ nat8 t.header.ratioTol) ++
        ((t.cells.toList.take n).map fun c => c.record.bytes).flatten) := by
  unfold Slot.computedCrc Slot.headerBytes Slot.records Slot.used
  rw [count, Option.getD_some, List.map_map]
  rfl

/-! ### The conditions of a well-formed profile -/

section
variable {rs : List SegRecord} {record : Fin 12 → SegRecord} (fits : rs.length ≤ 12)
  (reads : ∀ (i : Fin 12) (h : i.val < rs.length), rs[i.val] = record i)
include fits reads

theorem before_iff {i : Fin 12} (inside : i.val < rs.length) (p : SegRecord → Bool) :
    before rs i.val p = true ↔ ∃ k : Fin 12, k < i ∧ p (record k) = true := by
  unfold before
  rw [List.any_eq_true]
  constructor
  · rintro ⟨x, mem, is⟩
    obtain ⟨k, less, rfl⟩ := List.mem_take_iff_getElem.mp mem
    obtain ⟨early, below⟩ := Nat.lt_min.mp less
    refine ⟨⟨k, by omega⟩, early, ?_⟩
    rwa [← reads ⟨k, by omega⟩ below]
  · rintro ⟨k, less, is⟩
    have below : k.val < i.val := less
    rw [← reads k (by omega)] at is
    exact ⟨rs[k.val], List.mem_take_iff_getElem.mpr ⟨k.val, by omega, rfl⟩, is⟩

theorem mem_fills (k : Nat) :
    k ∈ ((List.range rs.length).filter fun i => (rs[i]?.map (·.kind.fills)).getD false) ↔
      ∃ i : Fin 12, i.val = k ∧ k < rs.length ∧ (record i).kind.fills = true := by
  rw [List.mem_filter, List.mem_range]
  constructor
  · rintro ⟨inside, is⟩
    rw [List.getElem?_eq_getElem inside] at is
    refine ⟨⟨k, by omega⟩, rfl, inside, ?_⟩
    rw [← reads ⟨k, by omega⟩ inside]
    exact is
  · rintro ⟨i, rfl, inside, is⟩
    rw [List.getElem?_eq_getElem inside]
    rw [← reads i inside] at is
    exact ⟨inside, is⟩

theorem lastFill_iff (i : Fin 12) (inside : i.val < rs.length) :
    lastFill rs = some i.val ↔
      (record i).kind.fills = true ∧ ∀ k : Fin 12, k.val < rs.length → (record k).kind.fills = true → k ≤ i := by
  unfold lastFill
  rw [getLast?_sorted (List.Pairwise.filter _ List.pairwise_lt_range), mem_fills fits reads]
  constructor
  · rintro ⟨⟨j, same, -, is⟩, most⟩
    obtain rfl : j = i := Fin.ext same
    exact ⟨is, fun k below fills => most k.val ((mem_fills fits reads _).mpr ⟨k, rfl, below, fills⟩)⟩
  · rintro ⟨is, most⟩
    refine ⟨⟨i, rfl, inside, is⟩, fun k mem => ?_⟩
    obtain ⟨j, rfl, below, fills⟩ := (mem_fills fits reads _).mp mem
    exact most j below fills

theorem lastFill_none : lastFill rs = none ↔ ∀ k : Fin 12, k.val < rs.length → ¬(record k).kind.fills = true := by
  unfold lastFill
  rw [List.getLast?_eq_none_iff, List.eq_nil_iff_forall_not_mem]
  constructor
  · exact fun none_ k below fills => none_ k.val ((mem_fills fits reads _).mpr ⟨k, rfl, below, fills⟩)
  · intro none_ k mem
    obtain ⟨j, rfl, below, fills⟩ := (mem_fills fits reads _).mp mem
    exact none_ j below fills

end

theorem SegRecord.cutsLiquid_iff (r : SegRecord) :
    r.cutsLiquid = true ↔ (r.kind = .fill ∨ r.kind = .trim) ∧ r.ending = .volume := by
  unfold SegRecord.cutsLiquid
  rw [Bool.and_eq_true, SegKind.fills_iff, beq_iff_eq]

theorem ZoneMap.somewhere_iff (z : ZoneMap) (k : SegKind) :
    z.somewhere k = true ↔
      k = .settle ∨ ∃ j : Fin 8, z.rows[j].valid = true ∧ z.rows[j].permitted.getLsbD (k.code - 1) = true := by
  unfold ZoneMap.somewhere
  rw [Bool.or_eq_true, beq_iff_eq, z.rows_any]
  simp only [Bool.and_eq_true]
  exact Iff.rfl

/-- Condition 3 of R31 fails at the index `i` of a profile of `n` segments. -/
def IllFormed (record : Fin 12 → SegRecord) (n ratio angle : Nat) (i : Fin 12) : Prop :=
  let fills := fun i : Fin 12 => (record i).kind = .fill ∨ (record i).kind = .trim
  let cuts := fun i : Fin 12 => fills i ∧ (record i).ending = .volume
  let lastFill := fun i : Fin 12 => fills i ∧ ∀ k : Fin 12, k.val < n → fills k → k ≤ i
  let last := fun i : Fin 12 => i.val + 1 = n
  ((record i).kind = .syrup ∧ (ratio = 0 ∨ ∃ k : Fin 12, k < i ∧ (record k).kind = .syrup)) ∨
  (cuts i ∧ ∃ k : Fin 12, k < i ∧ cuts k ∧ (record i).param < (record k).param) ∨
  (last i ∧ ∀ k : Fin 12, k.val < n → ¬fills k) ∨
  (lastFill i ∧ ¬((record i).ending = .volume ∧ (record i).param = 1000)) ∨
  (cuts i ∧ (record i).param = 1000 ∧ ¬lastFill i) ∨
  (last i ∧ (record i).kind ≠ .snift) ∨
  (∃ k : Fin 12, k < i ∧ (record i).deadline < (record k).deadline) ∨
  angle ≤ (record i).deadline

theorem badAt_iff {rs : List SegRecord} {record : Fin 12 → SegRecord} (fits : rs.length ≤ 12)
    (reads : ∀ (i : Fin 12) (h : i.val < rs.length), rs[i.val] = record i) (ratio angle : Nat) (i : Fin 12)
    (inside : i.val < rs.length) :
    badAt ratio angle rs i.val (record i) = true ↔ IllFormed record rs.length ratio angle i := by
  have before := before_iff fits reads inside
  have lastIs := lastFill_iff fits reads i inside
  have lastNone := lastFill_none fits reads
  simp only [SegKind.fills_iff] at lastIs lastNone
  unfold badAt IllFormed
  simp only [Bool.or_eq_true, Bool.and_eq_true, Bool.not_eq_true', Bool.and_eq_false_iff, beq_iff_eq, bne_iff_ne, before,
    decide_eq_true_iff, SegRecord.cutsLiquid_iff, Option.isNone_iff_eq_none, lastIs, lastNone, ne_eq, beq_eq_false_iff_ne,
    not_and_or, or_assoc, and_assoc]

/-- The lowest index at which condition 3 of R31 fails. -/
theorem badSequence_spec {rs : List SegRecord} {record : Fin 12 → SegRecord} (fits : rs.length ≤ 12)
    (reads : ∀ (i : Fin 12) (h : i.val < rs.length), rs[i.val] = record i) (ratio angle : Nat) :
    (∀ i : Fin 12, i.val < rs.length → IllFormed record rs.length ratio angle i →
      (∀ k : Fin 12, k < i → ¬IllFormed record rs.length ratio angle k) → badSequence ratio angle rs = some i.val) ∧
      ((∀ i : Fin 12, i.val < rs.length → ¬IllFormed record rs.length ratio angle i) →
        badSequence ratio angle rs = none) := by
  have length : rs.zipIdx.length = rs.length := List.length_zipIdx
  have spec := firstIndex_spec (p := fun p : SegRecord × Nat => badAt ratio angle rs p.2 p.1) (l := rs.zipIdx)
    (fails := IllFormed record rs.length ratio angle) (by rw [length]; exact fits) fun i inside => by
      have inside' : i.val < rs.length := by rwa [← length]
      rw [List.getElem_zipIdx, Nat.zero_add, reads i inside']
      exact badAt_iff fits reads ratio angle i inside'
  rw [length] at spec
  exact spec

/-! ### The five checks in their order (R31) -/

section
variable (written : firstIndex (fun c : SegCell => !c.written) t.used = none)
include written

theorem Slot.verify_crc (wrong : t.crc ≠ some t.computedCrc) : t.verify z = (.crcMismatch, none) := by
  unfold Slot.verify
  rw [written]
  exact if_pos wrong

variable (crc : t.crc = some t.computedCrc)
include crc

theorem Slot.verify_sequence {i : Nat} (bad : badSequence t.header.ratio z.dischargeAngle t.records = some i) :
    t.verify z = (.badSequence, some i) := by
  unfold Slot.verify
  simp only [written, crc, ne_eq, not_true_eq_false, if_false, bad]

variable (formed : badSequence t.header.ratio z.dischargeAngle t.records = none)
include formed

theorem Slot.verify_zone {i : Nat} (nowhere : firstIndex (fun r : SegRecord => !z.somewhere r.kind) t.records = some i) :
    t.verify z = (.noZone, some i) := by
  unfold Slot.verify
  simp only [written, crc, ne_eq, not_true_eq_false, if_false, formed, nowhere]

variable (somewhere : firstIndex (fun r : SegRecord => !z.somewhere r.kind) t.records = none)
include somewhere

theorem Slot.verify_header (unclean : t.headerClean = false) : t.verify z = (.parity, none) := by
  unfold Slot.verify
  simp only [written, crc, ne_eq, not_true_eq_false, if_false, formed, somewhere, unclean, Bool.not_false, if_true]

theorem Slot.verify_cells (clean : t.headerClean = true) :
    (∀ i, firstIndex (fun c : SegCell => !c.clean) t.used = some i → t.verify z = (.parity, some i)) ∧
      (firstIndex (fun c : SegCell => !c.clean) t.used = none → t.verify z = (.ok, none)) := by
  unfold Slot.verify
  constructor
  · intro i bad
    simp [written, crc, formed, somewhere, clean, bad]
  · intro good
    simp [written, crc, formed, somewhere, clean, good]

end

theorem Slot.verify_missing {i : Nat} (missing : firstIndex (fun c : SegCell => !c.written) t.used = some i) :
    t.verify z = (.missing, some i) := by
  unfold Slot.verify
  simp only [missing]

/-! ### The completion (R30, R32) -/

theorem exec_verificationComplete_live {s : State} (live : s.held = false) :
    exec .verificationComplete s = .next s.verification := congrArg Host.Outcome.next (State.takeEvent_live live _)

theorem State.verification_idle {s : State} (idle : s.store.verifier = none) : s.verification = s := by
  unfold State.verification
  rw [idle]

end

/-- Settles O30. -/
theorem verificationOutcome : Obligations.VerificationOutcome := by
  refine ⟨fun t z n count some_ fits => ?_, fun s j live busy => ?_, fun s idle => ?_⟩
  · intro cell record fills cuts lastFill last header crc illFormed somewhere none_ first unwritten nowhere inError read
    have used : t.used.length = n := Slot.used_length count fits
    have records : t.records.length = n := t.records_length.trans used
    have reads : ∀ (i : Fin 12) (h : i.val < t.records.length), t.records[i.val] = record i := t.records_get
    have sum : t.computedCrc = crc := Slot.computedCrc_eq count
    have blank := firstIndex_spec (p := fun c : SegCell => !c.written) (l := t.used) (fails := unwritten)
      (used.trans_le fits) fun i inside => by rw [t.used_get i inside, Bool.not_eq_true']
    have order := badSequence_spec (record := record) (records.trans_le fits) reads t.header.ratio z.dischargeAngle
    have zone := firstIndex_spec (p := fun r : SegRecord => !z.somewhere r.kind) (l := t.records) (fails := nowhere)
      (records.trans_le fits) fun i inside => by
        rw [reads i inside, Bool.not_eq_true', Bool.eq_false_iff]
        exact not_congr (z.somewhere_iff _)
    have parity := firstIndex_spec (p := fun c : SegCell => !c.clean) (l := t.used) (fails := inError)
      (used.trans_le fits) fun i inside => by rw [t.used_get i inside, Bool.not_eq_true']
    rw [used] at blank parity
    rw [records] at order zone
    refine ⟨fun i bad => ?_, fun written wrong => ?_, fun i r bad => ?_, fun i r formed bad => ?_,
      fun r formed placed unclean => ?_, fun i r formed placed clean bad => ?_, fun r formed placed clean sound => ?_⟩
    · exact Slot.verify_missing (blank.1 i bad.1 bad.2.1 bad.2.2)
    · exact Slot.verify_crc (blank.2 written) (by rw [sum]; exact wrong)
    · exact Slot.verify_sequence (blank.2 r.1) (r.2.trans (congrArg some sum.symm)) (order.1 i bad.1 bad.2.1 bad.2.2)
    · exact Slot.verify_zone (blank.2 r.1) (r.2.trans (congrArg some sum.symm)) (order.2 formed)
        (zone.1 i bad.1 bad.2.1 bad.2.2)
    · exact Slot.verify_header (blank.2 r.1) (r.2.trans (congrArg some sum.symm)) (order.2 formed) (zone.2 placed)
        unclean
    · exact (Slot.verify_cells (blank.2 r.1) (r.2.trans (congrArg some sum.symm)) (order.2 formed) (zone.2 placed)
        clean).1 i.val (parity.1 i bad.1 bad.2.1 bad.2.2)
    · exact (Slot.verify_cells (blank.2 r.1) (r.2.trans (congrArg some sum.symm)) (order.2 formed) (zone.2 placed)
        clean).2 (parity.2 sound)
  · intro t r after
    rw [exec_verificationComplete_live live]
    unfold State.verification
    rw [busy]
    rfl
  · rcases idle with held | idle
    · exact congrArg Host.Outcome.next (State.takeEvent_held held _)
    · refine congrArg Host.Outcome.next ?_
      unfold State.takeEvent
      rw [State.verification_idle idle, ite_self]

end Sys2Proof.Machine

/-! PROOFS. The bytes of a ring frame decode to the command it brings (R152 to R161, R169 to R173, R180, R181). -/

namespace Sys2Proof

open Machine

section
set_option Elab.async false

/-! ### Numbers in bytes (R180) -/

theorem half_join (h : Half) : h.extractLsb' 8 8 ++ h.extractLsb' 0 8 = h := by
  refine BitVec.eq_of_getLsbD_eq fun i lt => ?_
  rw [BitVec.getLsbD_append, BitVec.getLsbD_extractLsb', BitVec.getLsbD_extractLsb']
  by_cases low : i < 8
  · simp [low]
  · have high : i - 8 < 8 := by omega
    simp [low, high, Nat.add_sub_cancel' (Nat.not_lt.mp low)]

theorem word_join (w : Word) : w.extractLsb' 16 16 ++ w.extractLsb' 0 16 = w := by
  refine BitVec.eq_of_getLsbD_eq fun i lt => ?_
  rw [BitVec.getLsbD_append, BitVec.getLsbD_extractLsb', BitVec.getLsbD_extractLsb']
  by_cases low : i < 16
  · simp [low]
  · have high : i - 16 < 16 := by omega
    simp [low, high, Nat.add_sub_cancel' (Nat.not_lt.mp low)]

/-- Two bytes that stand at an offset are the number they are the bytes of. -/
theorem halfAt_halfBytes (a : List Byte) (h : Half) (b : List Byte) :
    halfAt (a ++ halfBytes h ++ b) a.length = h := by
  unfold halfAt byteAt halfBytes
  simp [half_join]

theorem wordAt_wordBytes (a : List Byte) (w : Word) (b : List Byte) :
    wordAt (a ++ wordBytes w ++ b) a.length = w := by
  unfold wordAt wordBytes
  have high := halfAt_halfBytes a (w.extractLsb' 16 16) (halfBytes (w.extractLsb' 0 16) ++ b)
  have low := halfAt_halfBytes (a ++ halfBytes (w.extractLsb' 16 16)) (w.extractLsb' 0 16) b
  simp only [List.length_append, List.append_assoc] at high low ⊢
  rw [high, show a.length + 2 = a.length + (halfBytes (w.extractLsb' 16 16)).length from rfl, low, word_join]

/-! ### A sealed frame and its bytes (R153, R181) -/

theorem sealRing_length (bs : List Byte) : (sealRing bs).length = bs.length + 4 := by
  unfold sealRing
  rw [List.length_append]
  rfl

theorem sealRing_take (bs : List Byte) : (sealRing bs).take bs.length = bs := List.take_left

theorem byteAt_append {bs : List Byte} {i : Nat} (inside : i < bs.length) (rest : List Byte) :
    byteAt (bs ++ rest) i = byteAt bs i := by
  unfold byteAt
  rw [List.getD_append _ _ _ _ inside]

theorem byteAt_seal {bs : List Byte} {i : Nat} (inside : i < bs.length) : byteAt (sealRing bs) i = byteAt bs i :=
  byteAt_append inside _

theorem halfAt_seal {bs : List Byte} {i : Nat} (inside : i + 1 < bs.length) : halfAt (sealRing bs) i = halfAt bs i := by
  unfold halfAt
  rw [byteAt_seal inside, byteAt_seal (Nat.lt_of_succ_lt inside)]

/-- A sealed frame with its length byte, of the length of its kind, passes the check of R153. -/
theorem ringOk_seal {bs : List Byte} (long : 2 ≤ bs.length) (length : (byteAt bs 1).toNat = bs.length + 4)
    (kind : ringLength (byteAt bs 0) = some (bs.length + 4)) : ringOk (sealRing bs) = true := by
  unfold ringOk
  dsimp only
  rw [byteAt_seal (by omega), byteAt_seal (by omega), length, kind, sealRing_length, Nat.add_sub_cancel, sealRing_take]
  simp

/-! ### The five kinds (R152, R154, R181) -/

section
variable {f : Frame} (ok : ringOk f = true) (own elapsed : Nat)
include ok

theorem decodeRingFrame_angle (kind : (byteAt f 0).toNat = 1) :
    decodeRingFrame false own elapsed f =
      .angleFrame (halfAt f 2) (halfAt f 4) (halfAt f 6) (halfAt f 8) (byteAt f 10) := by
  unfold decodeRingFrame
  simp [ok, kind]

theorem decodeRingFrame_carrier (kind : (byteAt f 0).toNat = 2) :
    decodeRingFrame false own elapsed f = .carrierFrame ((f.drop 2).take 32) := by
  unfold decodeRingFrame
  simp [ok, kind]

theorem decodeRingFrame_report (kind : (byteAt f 0).toNat = 3) :
    decodeRingFrame false own elapsed f =
      .reportFrame (byteAt f 2) (byteAt f 3) (halfAt f 4) (byteAt f 6) ((f.drop 7).take 27) := by
  unfold decodeRingFrame
  simp [ok, kind]

theorem decodeRingFrame_request (kind : (byteAt f 0).toNat = 4) :
    decodeRingFrame false own elapsed f = decodeRequest own elapsed (rawRequestOf f) := by
  unfold decodeRingFrame
  simp [ok, kind]

theorem decodeRingFrame_reply (kind : byteAt f 0 = replyKind) : decodeRingFrame false own elapsed f = .replyFrame f := by
  unfold decodeRingFrame
  simp [ok, kind, replyKind]

theorem decodeRingFrame_unknown (kind : ringLength (byteAt f 0) = none) :
    decodeRingFrame false own elapsed f = .unknownKindFrame f := by
  unfold ringLength at kind
  unfold decodeRingFrame
  split at kind
  · cases kind
  · cases kind
  · cases kind
  · cases kind
  · cases kind
  · simp_all

end

theorem decode_angleBytes (own elapsed : Nat) (rev count pressure temp : Half) (mark : Byte) :
    decodeRingFrame false own elapsed (angleBytes rev count pressure temp mark) =
      .angleFrame rev count pressure temp mark := by
  let bs : List Byte :=
    [angleKind, 15] ++ halfBytes rev ++ halfBytes count ++ halfBytes pressure ++ halfBytes temp ++ [mark]
  have length : bs.length = 11 := rfl
  have ok : ringOk (sealRing bs) = true := ringOk_seal (by omega) rfl rfl
  rw [show angleBytes rev count pressure temp mark = sealRing bs from rfl,
    decodeRingFrame_angle ok own elapsed (by rw [byteAt_seal (by omega)]; rfl), halfAt_seal (by omega),
    halfAt_seal (by omega), halfAt_seal (by omega), halfAt_seal (by omega), byteAt_seal (by omega)]
  exact congr (congr (congr (congr (congrArg Instr.angleFrame (half_join rev)) (half_join count)) (half_join pressure))
    (half_join temp)) rfl

theorem decode_carrierBytes (own elapsed : Nat) {content : List Byte} (full : content.length = 32) :
    decodeRingFrame false own elapsed (carrierBytes content) = .carrierFrame content := by
  let bs : List Byte := [carrierKind, 38] ++ content
  have length : bs.length = 34 := congrArg (· + 2) full
  have ok : ringOk (sealRing bs) = true := ringOk_seal (by omega) (by rw [length]; rfl) (by rw [length]; rfl)
  rw [show carrierBytes content = sealRing bs from rfl,
    decodeRingFrame_carrier ok own elapsed (by rw [byteAt_seal (by omega)]; rfl)]
  exact congrArg Instr.carrierFrame (List.take_left' full)

theorem decode_reportBytes (own elapsed : Nat) (source kind : Byte) (transmit : Half) (dropped : Byte)
    {payload : List Byte} (full : payload.length = 27) :
    decodeRingFrame false own elapsed (reportBytes source kind transmit dropped payload) =
      .reportFrame source kind transmit dropped payload := by
  let bs : List Byte := [reportKind, 38, source, kind] ++ halfBytes transmit ++ [dropped] ++ payload
  have length : bs.length = 34 := congrArg (· + 7) full
  have ok : ringOk (sealRing bs) = true := ringOk_seal (by omega) (by rw [length]; rfl) (by rw [length]; rfl)
  rw [show reportBytes source kind transmit dropped payload = sealRing bs from rfl,
    decodeRingFrame_report ok own elapsed (by rw [byteAt_seal (by omega)]; rfl), byteAt_seal (by omega),
    byteAt_seal (by omega), halfAt_seal (by omega), byteAt_seal (by omega)]
  exact congr (congrFun (congrArg (Instr.reportFrame source kind) (half_join transmit)) dropped) (List.take_left' full)

/-- The bytes of a REQUEST frame give its fields back. -/
theorem decode_requestBytes (own elapsed : Nat) {q : RawRequest} (full : q.body.length = 96) :
    decodeRingFrame false own elapsed (requestBytes q) = decodeRequest own elapsed q := by
  let bs : List Byte := [requestKind, 107, q.address, q.kind] ++ halfBytes q.tag ++ [q.status] ++ q.body
  have length : bs.length = 103 := congrArg (· + 7) full
  have ok : ringOk (sealRing bs) = true := ringOk_seal (by omega) (by rw [length]; rfl) (by rw [length]; rfl)
  have fields : rawRequestOf (sealRing bs) = q := by
    unfold rawRequestOf
    rw [byteAt_seal (by omega), byteAt_seal (by omega), halfAt_seal (by omega), byteAt_seal (by omega)]
    exact congr (congrFun (congrArg (RawRequest.mk q.address q.kind) (half_join q.tag)) q.status)
      (List.take_left' full)
  rw [show requestBytes q = sealRing bs from rfl,
    decodeRingFrame_request ok own elapsed (by rw [byteAt_seal (by omega)]; rfl), fields]

/-! ### The request kinds (R159, R160, R169) -/

theorem decodeRequest_own {own : Nat} {q : RawRequest} (part : q.address.toNat ≤ 14) (own_ : q.address.toNat = own)
    (elapsed : Nat) : decodeRequest own elapsed q = decodeKind elapsed q := by
  unfold decodeRequest
  rw [if_neg (fun e => by rw [e] at part; exact absurd part (by decide)), if_pos own_]

theorem decodeRequest_both {own : Nat} {q : RawRequest} (at_ : q.address.toNat = own ∨ q.address = 15)
    (kind : q.kind = 1 ∨ q.kind = 2 ∨ q.kind = 15) (elapsed : Nat) :
    decodeRequest own elapsed q = decodeKind elapsed q := by
  unfold decodeRequest
  by_cases all : q.address = 15
  · rw [if_pos all, if_pos kind]
  · rw [if_neg all, if_pos (at_.resolve_right all)]

theorem decodeRequest_broadcast {q : RawRequest} (all : q.address = 15) (other : ¬(q.kind = 1 ∨ q.kind = 2 ∨ q.kind = 15))
    (own elapsed : Nat) : decodeRequest own elapsed q = .broadcast q := by
  unfold decodeRequest
  rw [if_pos all, if_neg other]

theorem decodeRequest_elsewhere {own : Nat} {q : RawRequest} (one : q.address ≠ 15) (other : q.address.toNat ≠ own)
    (elapsed : Nat) : decodeRequest own elapsed q = .requestNotAddressed q := by
  unfold decodeRequest
  rw [if_neg one, if_neg other]

end
end Sys2Proof

/-! PROOFS. The request kinds read from a REQUEST frame (R169, R171, R173, R181). -/

namespace Sys2Proof

open Machine

section
set_option Elab.async false
variable {e : Envelope} {elapsed : Nat}

/-! ### The bodies read back (R181) -/

theorem headerAt_body (j : Byte) (h : HeaderFields) (tail : List Byte) :
    headerAt (j :: headerBytes h ++ tail) 1 = h := by
  simp [headerAt, headerBytes, halfAt, byteAt, halfBytes, half_join]

theorem segmentAt_body (j k : Byte) (f : SegmentFields) (tail : List Byte) :
    segmentAt (j :: k :: segmentBytes f ++ tail) 2 = f := by
  simp [segmentAt, segmentBytes, halfAt, byteAt, halfBytes, half_join]

theorem calibAt_enroll (n : Byte) (o : Half) (f : CalibFields) (tail : List Byte) :
    calibAt (n :: halfBytes o ++ calibBytes f ++ tail) 3 = f := by
  simp [calibAt, calibBytes, halfAt, byteAt, halfBytes, half_join]

theorem calibAt_body (n : Byte) (f : CalibFields) (tail : List Byte) :
    calibAt (n :: calibBytes f ++ tail) 1 = f := by
  simp [calibAt, calibBytes, halfAt, byteAt, halfBytes, half_join]

theorem zoneAt_body (r : Byte) (z : ZoneFields) (tail : List Byte) : zoneAt (r :: zoneBytes z ++ tail) 1 = z := by
  simp [zoneAt, zoneBytes, halfAt, byteAt, halfBytes, half_join]

theorem wordAt_commit (j : Byte) (c : Word) (tail : List Byte) : wordAt (j :: wordBytes c ++ tail) 1 = c :=
  wordAt_wordBytes [j] c tail

theorem wordAt_config (item x : Byte) (v : Word) (tail : List Byte) :
    wordAt (configBody item x v ++ tail) 2 = v :=
  wordAt_wordBytes [item, x] v tail

theorem byteAt_config (item x : Byte) (v : Word) (tail : List Byte) :
    byteAt (configBody item x v ++ tail) 0 = item ∧ byteAt (configBody item x v ++ tail) 1 = x := ⟨rfl, rfl⟩

theorem envelopeOf_config (item x : Byte) (v : Word) :
    envelopeOf (rawOf e 4 (configBody item x v)) 6 = e := rfl

/-! ### WRITE_CONFIG and READ -/

/-- WRITE_CONFIG is read with the selector and the value as sent, in the row that its item chooses. -/
theorem decodeKind_config {item x : Byte} {v : Word} {row : Envelope → Byte → Word → Instr}
    (chosen : decodeConfig (rawOf e 4 (configBody item x v)) =
      row e x (wordAt (configBody item x v ++ e.tail) 2)) :
    decodeKind elapsed (rawOf e 4 (configBody item x v)) = row e x v :=
  Eq.trans chosen (congrArg (row e x) (wordAt_config item x v e.tail))

theorem decodeConfig_other {item : Byte} (other : item = 0 ∨ 34 < item.toNat) (x : Byte) (v : Word) :
    decodeKind elapsed (rawOf e 4 (configBody item x v)) = .writeConfig e item x v := by
  have far : item.toNat = 0 ∨ 34 < item.toNat := other.imp_left fun zero => by rw [zero]; rfl
  show decodeConfig (rawOf e 4 (configBody item x v)) = _
  unfold decodeConfig
  dsimp only
  rw [show (byteAt (rawOf e 4 (configBody item x v)).body 0).toNat = item.toNat from rfl]
  split
  iterate 34
    next at_ => exact absurd far (by omega)
  exact congrArg (Instr.writeConfig e item x) (wordAt_config item x v e.tail)

theorem decodeRead_other {table : Byte} (other : table = 0 ∨ 11 < table.toNat) (r : Byte) :
    decodeKind elapsed (rawOf e 3 [table, r]) = .read e table r := by
  have far : table.toNat = 0 ∨ 11 < table.toNat := other.imp_left fun zero => by rw [zero]; rfl
  show decodeRead (rawOf e 3 [table, r]) = _
  unfold decodeRead
  rw [show (byteAt (rawOf e 3 [table, r]).body 0).toNat = table.toNat from rfl]
  split
  iterate 11
    next at_ => exact absurd far (by omega)
  rfl

theorem decodeKind_unknown {q : RawRequest} (other : q.kind = 0 ∨ 17 < q.kind.toNat) :
    decodeKind elapsed q = .unknown q := by
  have far : q.kind.toNat = 0 ∨ 17 < q.kind.toNat := other.imp_left fun zero => by rw [zero]; rfl
  unfold decodeKind
  dsimp only
  split
  iterate 17
    next at_ => exact absurd far (by omega)
  rfl

end

section
variable {q : RawRequest} {i : Instr} {held : Bool} {own elapsed : Nat} {f : Frame}

/-- A request that is addressed to the part alone is read from its frame. -/
theorem decode_addressed (frame : some (requestBytes q) = some f) (wf : (fullBody q && addressed q.address) = true)
    (arrives : (!held && q.address.toNat == own) = true) (kind : decodeKind elapsed q = i) :
    decodeRingFrame held own elapsed f = i := by
  obtain ⟨full, part⟩ := Bool.and_eq_true_iff.mp wf
  obtain ⟨free, here⟩ := Bool.and_eq_true_iff.mp arrives
  obtain rfl := Option.some.inj frame
  obtain rfl : held = false := by simpa using free
  rw [decode_requestBytes own elapsed (beq_iff_eq.mp full),
    decodeRequest_own (of_decide_eq_true part) (beq_iff_eq.mp here), kind]

theorem decode_both (frame : some (requestBytes q) = some f)
    (wf : (fullBody q && addressedOrBroadcast q.address) = true)
    (arrives : (!held && (q.address.toNat == own || q.address == 15)) = true)
    (code : q.kind = 1 ∨ q.kind = 2 ∨ q.kind = 15) (kind : decodeKind elapsed q = i) :
    decodeRingFrame held own elapsed f = i := by
  obtain ⟨full, -⟩ := Bool.and_eq_true_iff.mp wf
  obtain ⟨free, here⟩ := Bool.and_eq_true_iff.mp arrives
  obtain rfl := Option.some.inj frame
  obtain rfl : held = false := by simpa using free
  rw [Bool.or_eq_true, beq_iff_eq, beq_iff_eq] at here
  rw [decode_requestBytes own elapsed (beq_iff_eq.mp full), decodeRequest_both here code, kind]

end

/-- Settles O54. -/
theorem ringFramesDecode : Obligations.RingFramesDecode := by
  intro i held own elapsed f wf arrives frame
  cases i with
  | writeConfigCpr e x v | writeConfigMaximumStep e x v | writeConfigAcquireCount e x v | writeConfigGapLimit e x v
    | writeConfigHoldoverLimit e x v | writeConfigTrackReportEdge e x v | writeConfigBaseGap e x v
    | writeConfigSeatWindowEnd e x v | writeConfigDischargeAngle e x v | writeConfigHeadCount e x v
    | writeConfigStationBase e x v | writeConfigVentLimit e x v | writeConfigReleasePressure e x v
    | writeConfigStepLimit e x v | writeConfigLeakLimit e x v | writeConfigLearningWeight e x v
    | writeConfigReplyTimeout e x v | writeConfigMissLimit e x v | writeConfigConfirmWindow e x v
    | writeConfigMasterEnable e x v | writeConfigGateDistance e x v | writeConfigRejectPulseWidth e x v
    | writeConfigAction e x v | writeConfigLockoutLimit e x v | writeConfigLowLimit e x v
    | writeConfigHighLimit e x v | writeConfigHysteresis e x v | writeConfigSuccessiveCount e x v
    | writeConfigHeartbeatEnable e x v | writeConfigHeartbeatUpperLimit e x v | writeConfigHeartbeatLowerLimit e x v
    | writeConfigRingLimit e x v | writeConfigBacklogThreshold e x v | writeConfigPriority e x v =>
    exact decode_addressed frame wf arrives (decodeKind_config rfl)
  | readPart e r | readTracker e r | readZone e r | readSlot e r | readHead e r | readCalib e r | readFault e r
    | readSupply e r | readQueues e r | readReject e r | select e r | drop e r | withdraw e r | release e r =>
    exact decode_addressed frame wf arrives rfl
  | readSegment e j k => exact decode_addressed frame wf arrives rfl
  | popSnapshot e | resetPart e => exact decode_addressed frame wf arrives rfl
  | writeZone e r z => exact decode_addressed frame wf arrives (congrArg (Instr.writeZone e r) (zoneAt_body r z e.tail))
  | beginSlot e j h =>
    exact decode_addressed frame wf arrives (congrArg (Instr.beginSlot e j) (headerAt_body j h e.tail))
  | segment e j k r =>
    exact decode_addressed frame wf arrives (congrArg (Instr.segment e j k) (segmentAt_body j k r e.tail))
  | commit e j c => exact decode_addressed frame wf arrives (congrArg (Instr.commit e j) (wordAt_commit j c e.tail))
  | enroll e n o k =>
    exact decode_addressed frame wf arrives
      (congr (congrArg (Instr.enroll e n) (half_join o)) (calibAt_enroll n o k e.tail))
  | calibrate e n k =>
    exact decode_addressed frame wf arrives (congrArg (Instr.calibrate e n) (calibAt_body n k e.tail))
  | setMode e m => exact decode_both frame wf arrives (Or.inr (Or.inl rfl)) rfl
  | clearFault e c => exact decode_both frame wf arrives (Or.inr (Or.inr rfl)) rfl
  | heartbeat e t =>
    obtain ⟨timed, here⟩ := Bool.and_eq_true_iff.mp arrives
    obtain ⟨free, same⟩ := Bool.and_eq_true_iff.mp timed
    obtain rfl : t = elapsed := beq_iff_eq.mp same
    exact decode_both frame wf (Bool.and_eq_true_iff.mpr ⟨free, here⟩) (Or.inl rfl) rfl
  | read e t r =>
    obtain ⟨full, row⟩ := Bool.and_eq_true_iff.mp wf
    obtain ⟨part, other⟩ := Bool.and_eq_true_iff.mp row
    rw [Bool.or_eq_true, beq_iff_eq, decide_eq_true_iff] at other
    exact decode_addressed frame (Bool.and_eq_true_iff.mpr ⟨full, part⟩) arrives (decodeRead_other other r)
  | writeConfig e item x v =>
    obtain ⟨full, row⟩ := Bool.and_eq_true_iff.mp wf
    obtain ⟨part, other⟩ := Bool.and_eq_true_iff.mp row
    rw [Bool.or_eq_true, beq_iff_eq, decide_eq_true_iff] at other
    exact decode_addressed frame (Bool.and_eq_true_iff.mpr ⟨full, part⟩) arrives (decodeConfig_other other x v)
  | unknown q =>
    obtain ⟨full, row⟩ := Bool.and_eq_true_iff.mp wf
    obtain ⟨part, other⟩ := Bool.and_eq_true_iff.mp row
    rw [Bool.or_eq_true, beq_iff_eq, decide_eq_true_iff] at other
    exact decode_addressed frame (Bool.and_eq_true_iff.mpr ⟨full, part⟩) arrives (decodeKind_unknown other)
  | requestNotAddressed q =>
    obtain ⟨full, one⟩ := Bool.and_eq_true_iff.mp wf
    obtain ⟨free, elsewhere⟩ := Bool.and_eq_true_iff.mp arrives
    obtain rfl : held = false := by simpa using free
    obtain rfl := Option.some.inj frame
    rw [decode_requestBytes own elapsed (beq_iff_eq.mp full),
      decodeRequest_elsewhere (bne_iff_ne.mp one) (bne_iff_ne.mp elsewhere)]
  | broadcast q =>
    obtain ⟨full, row⟩ := Bool.and_eq_true_iff.mp wf
    obtain rfl : held = false := by simpa [Instr.arrives] using arrives
    obtain rfl := Option.some.inj frame
    simp only [Bool.and_eq_true, beq_iff_eq, bne_iff_ne, ne_eq] at row
    obtain ⟨⟨⟨all, heartbeat⟩, mode⟩, clear⟩ := row
    rw [decode_requestBytes own elapsed (beq_iff_eq.mp full), decodeRequest_broadcast all]
    rintro (e | e | e)
    · exact heartbeat e
    · exact mode e
    · exact clear e
  | angleFrame rev count pressure temp mark =>
    obtain rfl : held = false := by simpa [Instr.arrives, requestOf] using arrives
    obtain rfl := Option.some.inj frame
    exact decode_angleBytes own elapsed rev count pressure temp mark
  | carrierFrame content =>
    obtain rfl : held = false := by simpa [Instr.arrives, requestOf] using arrives
    obtain rfl := Option.some.inj frame
    exact decode_carrierBytes own elapsed (beq_iff_eq.mp wf)
  | reportFrame source kind transmit dropped payload =>
    obtain rfl : held = false := by simpa [Instr.arrives, requestOf] using arrives
    obtain rfl := Option.some.inj frame
    exact decode_reportBytes own elapsed source kind transmit dropped (beq_iff_eq.mp wf)
  | replyFrame bytes =>
    obtain rfl : held = false := by simpa [Instr.arrives, requestOf] using arrives
    obtain rfl := Option.some.inj frame
    obtain ⟨-, both⟩ := Bool.and_eq_true_iff.mp wf
    obtain ⟨ok, kind⟩ := Bool.and_eq_true_iff.mp both
    exact decodeRingFrame_reply ok own elapsed (beq_iff_eq.mp kind)
  | unknownKindFrame bytes =>
    obtain rfl : held = false := by simpa [Instr.arrives, requestOf] using arrives
    obtain rfl := Option.some.inj frame
    obtain ⟨-, both⟩ := Bool.and_eq_true_iff.mp wf
    obtain ⟨ok, kind⟩ := Bool.and_eq_true_iff.mp both
    exact decodeRingFrame_unknown ok own elapsed (Option.isNone_iff_eq_none.mp kind)
  | badFrame bytes =>
    obtain rfl : held = false := by simpa [Instr.arrives, requestOf] using arrives
    obtain rfl := Option.some.inj frame
    have bad : (!ringOk bytes) = true := wf
    unfold decodeRingFrame
    rw [if_neg (by decide), if_pos bad]
  | ringBypass bytes =>
    obtain rfl : held = true := arrives
    obtain rfl := Option.some.inj frame
    rfl
  | _ => cases frame

end Sys2Proof
